-- ==== Sys2Proof/Word.lean ====
section
/-! DEFINITION. The words the manual numbers, and the bounded numbers that name slots, contexts,
engines, zones and handles. -/

namespace Sys2Proof

/-- One byte of a frame or of a byte string. -/
abbrev Byte := BitVec 8
/-- A lane-time value: a count of 100 microsecond ticks, modulo 2^32 (R184). -/
abbrev Tick := BitVec 32
/-- A calendar minute (R185). -/
abbrev Minute := BitVec 32
/-- A block of 16 bytes, the first byte most significant (R62). -/
abbrev Block := BitVec 128
/-- A key of 16 bytes, the first byte most significant (R62). -/
abbrev Key := BitVec 128
/-- An authenticator or a record code: four bytes (R66). -/
abbrev Auth := BitVec 32
/-- A key check value: three bytes (R63). -/
abbrev Kcv := BitVec 24
/-- An issuer code. -/
abbrev Issuer := BitVec 16
/-- A tag number within its issuer. -/
abbrev TagNumber := BitVec 48
/-- A generation, 0 to 15. -/
abbrev Generation := BitVec 4
/-- A tag's write counter, modulo 2^24 (R73). -/
abbrev Counter := BitVec 24
/-- A nonce of a tag or of the reader. -/
abbrev Nonce := BitVec 64
/-- A set of the records 0 to 3; position r is bit r (R67). -/
abbrev RecordSet := BitVec 4
/-- The number of a key slot (R80). -/
abbrev SlotNo := Fin 128
/-- The number of a pass context (R35). -/
abbrev ContextNo := Fin 32
/-- The number of a cipher engine (R129). -/
abbrev EngineNo := Fin 4
/-- The number of an antenna zone (R18). -/
abbrev ZoneNo := Fin 8
/-- The number of one of the thirteen events (09, section 9.5). -/
abbrev EventNo := Fin 13

end Sys2Proof
end

