-- ==== Sys2Proof/Syntax.lean ====
section
/-! DEFINITION. The commands the block takes: one constructor per row of spec/opcode_table.json. -/

namespace Sys2Proof

/-- A frame as it was received at a port, less its kind or class byte, in the order its bytes stand: the length
byte, the payload bytes received, and the two CRC bytes it carries, the high byte first (chapter 11, R187). -/
structure PortFrame where
  len : Byte
  payload : List Byte
  crcHigh : Byte
  crcLow : Byte
  deriving DecidableEq, Repr

/-- The commands. A frame command carries the frame as received; a completion names the engine; a
deadline names its owner; a request row carries nothing, since the request it takes is the head of the
request queue (R165). -/
inductive Instr where
  -- uplink frames at the air port (chapter 1)
  | hello (f : PortFrame)
  | data (f : PortFrame)
  | commit (f : PortFrame)
  | other (kind : Byte) (f : PortFrame)
  | credit (f : PortFrame)
  | sent (f : PortFrame)
  | sendFailed (f : PortFrame)
  -- the downlink side of the air port (sections 1.4 and 1.5)
  | downlinkSendStart
  | downlinkFrameOut
  | confirmationDeadline (h : Byte)
  | downPassthrough (f : PortFrame)
  -- the cipher engines (chapter 7)
  | openCompletion (e : EngineNo)
  | deriveJobCompletion (e : EngineNo)
  | sessionJobCompletion (e : EngineNo)
  | raJobCompletion (e : EngineNo)
  | taJobCompletion (e : EngineNo)
  | recordCodeComputeCompletion (e : EngineNo)
  | recordCodeVerifyCompletion (e : EngineNo)
  | waJobCompletion (e : EngineNo)
  | caJobCompletion (e : EngineNo)
  | unwrapJobCompletion (e : EngineNo)
  | kcvJobCompletion (e : EngineNo)
  | combineJobCompletion (e : EngineNo)
  | scrubJobCompletion (e : EngineNo)
  -- deadlines, ages and the calendar
  | stepDeadlineExpiry (c : ContextNo)
  | lifetimeDeadlineExpiry (c : ContextNo)
  | recentPassAgeing
  | slotOverdue (n : SlotNo)
  | eraseCompletion
  | calendarAdvance
  -- the lane port and the requests the management unit takes (chapters 2, 6, 9 and 10)
  | request (f : PortFrame)
  | unknownRequestCode
  | readStatus
  | readCounters
  | clearEvents
  | setAlertMask
  | setProfile
  | setTiming
  | setService
  | setCalendar
  | hold
  | rootPart1
  | rootPart2
  | lockRoot
  | keyLoadA
  | keyLoadB
  | activate
  | retire
  | erase
  | selectWriteGen
  | readSlot
  | zeroise
  -- lines and supplies (chapter 10)
  | zeroiseLine
  | laneSendStart
  | laneFrameOut
  | lrdyAsserted
  | supplyFail
  | wake
  | supplyFailDeasserted
  | laneReset
  | resetDeasserted
  | powerOnReset
  | lrdyDeasserted
  | wakeDeasserted
  | laneFrameOfOutgoingClass (cls : Byte) (f : PortFrame)
  deriving DecidableEq, Repr

end Sys2Proof
end

