-- ==== Sys2Proof/Decode.lean ====
section
/-! DEFINITION. The table's bits: no row of spec/opcode_table.json gives any. -/

namespace Sys2Proof

/-- The command a word spells by the table's bits. Every row of the table has an empty "fields" list and
no fixed bits, so no word spells a command: the answer is none on every word. -/
def decodeTableWord (_nbits _w : Nat) : Option Instr :=
  none

end Sys2Proof
end

