-- ==== Sys2Proof/Machine/Types.lean ====
section
/-! DEFINITION. The records each block of the part holds, chapter by chapter, as plain data. -/

namespace Sys2Proof.Machine

/-! ### Chapter 1: the air port -/

/-- A frame as the part sends it: its bytes in the order in which they stand on the port, that is kind or class
code, length byte, payload, and the two bytes of the CRC, high byte first (chapter 11, R187). -/
abbrev WireFrame := List Byte

/-- A step frame of a context with the values every copy of it carries (R43, R50). -/
inductive StepFrame where
  | challenge (tagNumber : TagNumber) (nonce : Nonce) (set : RecordSet) (ra : Auth)
  | write (tagNumber : TagNumber) (counter : Counter) (record : Block) (wa : Auth)
  deriving DecidableEq, Repr

/-- The fields of a downlink frame but for its zone and handle (section 1.3). -/
inductive DownBody where
  | step (f : StepFrame)
  | close (tagNumber : TagNumber) (ok : Bool)
  | passthrough (body : List Byte)
  deriving DecidableEq, Repr

/-- An entry of the downlink queue (section 1.4). -/
structure DownEntry where
  zone : Byte
  handle : Byte
  owner : Option ContextNo
  body : DownBody
  deriving DecidableEq, Repr

/-- The frame in transmission: it keeps its handle and its owner (R10) and may be withdrawn (R15). -/
structure AirSend where
  entry : DownEntry
  withdrawn : Bool
  wire : WireFrame
  deriving DecidableEq, Repr

/-- An entry of the confirmation list (section 1.5). -/
structure ConfirmEntry where
  handle : Byte
  owner : Option ContextNo
  deadline : Tick
  withdrawn : Bool
  deriving DecidableEq, Repr

/-- The air port's state (section 1.7). -/
structure AirPort where
  credit : Nat
  queue : List DownEntry
  tx : Option AirSend
  confirm : List ConfirmEntry
  nextHandle : Byte
  deriving DecidableEq, Repr

/-! ### Chapter 2: the lane profile -/

/-- What a zone does with a tag (R18). -/
inductive ZoneFunction where
  | closed | entry | exit | point | verify
  deriving DecidableEq, Repr

/-- A zone profile (R18). -/
structure ZoneProfile where
  function : ZoneFunction
  station : BitVec 16
  lane : BitVec 4
  recordSet : RecordSet
  replyTimeout : Nat
  retries : Nat
  deriving DecidableEq, Repr

/-- The eight zone profiles and the global timing record (R18, R19). -/
structure LaneProfile where
  zones : Vector ZoneProfile 8
  passLimit : Nat
  repeatWindow : Nat
  scrubPeriod : Nat
  deriving DecidableEq, Repr

/-- The outcome of the check of record 1 (section 2.6). -/
inductive RecordCheck where
  | valid | noEntryRecord | recordKeyUnavailable | recordInvalid
  deriving DecidableEq, Repr

/-! ### Chapter 3: pass contexts -/

/-- The state of a context that is not FREE (chapter 3). -/
inductive PassState where
  | keying | challenging | checking | writing | confirming | done
  deriving DecidableEq, Repr

/-- The ten results of R53 and R41. -/
inductive PassResult where
  | complete | completeNoWrite | writeUncertain | commitAuthFail | tagAuthFail | noReply | abandoned
  | noKey | replay | keyWithdrawn
  deriving DecidableEq, Repr

/-- The kinds of cipher job (R125). A MAC job is named by the authenticator it makes, RA, TA, WA or CA,
and a RECORD-CODE job by its use, as R70 and the table's completion rows tell them apart. -/
inductive JobKind where
  | derive | session | ra | ta | wa | ca | recordCompute | recordVerify | unwrap | kcv | combine | scrub
  deriving DecidableEq, Repr

/-- A context's current job (section 3.1). -/
inductive CurrentJob where
  | idle
  | queued (kind : JobKind)
  | running (kind : JobKind)
  deriving DecidableEq, Repr

/-- One entry of a zone list: a zone and the best RSSI heard in it (section 3.1). -/
structure ZoneHeard where
  zone : ZoneNo
  rssi : Byte
  deriving DecidableEq, Repr

/-- The flags a pass gathers (R60); MULTI-ZONE is read from the zone list when the report is composed. -/
structure PassFlags where
  oldGeneration : Bool := false
  followsUncertain : Bool := false
  noWriteKey : Bool := false
  noEntryRecord : Bool := false
  recordKeyUnavailable : Bool := false
  recordInvalid : Bool := false
  deriving DecidableEq, Repr

/-- A context in use (section 3.1). -/
structure Context where
  state : PassState
  issuer : Issuer
  tagNumber : TagNumber
  generation : Generation
  homeZone : ZoneNo
  zoneList : List ZoneHeard
  servingZone : ZoneNo
  tagNonce : Nonce
  counter : Counter
  readerNonce : Option Nonce
  requestedSet : RecordSet
  boundSlot : Option SlotNo
  tagKey : Option Key
  sessionKey : Option Key
  profile : ZoneProfile
  openTick : Tick
  lifetime : Tick
  stepFrame : Option StepFrame
  retriesLeft : Nat
  stepDeadline : Option Tick
  currentJob : CurrentJob
  /-- the records and the TA of the DATA taken, before the TA has verified (R47 step 4) -/
  held : Option (List Block × Auth)
  /-- the CA of the COMMIT taken (R51 step 4) -/
  heldCa : Option Auth
  recordsRead : Option (List Block)
  tripRecord : Option Block
  recordCheck : Option RecordCheck
  result : Option PassResult
  flags : PassFlags
  doneTick : Option Tick
  deriving DecidableEq, Repr

/-- The pass context table: 32 contexts (none is FREE), one open list per zone, the stalled list (R35). -/
structure PassTable where
  contexts : Vector (Option Context) 32
  openLists : Vector (List ContextNo) 8
  stalled : List ContextNo
  deriving DecidableEq, Repr

/-- A pass report (R59). -/
structure PassReport where
  homeZone : ZoneNo
  zoneList : List ZoneHeard
  openTick : Tick
  doneTick : Tick
  issuer : Issuer
  tagNumber : TagNumber
  generation : Generation
  counter : Counter
  result : PassResult
  flags : PassFlags
  multiZone : Bool
  /-- the records read and the set of their numbers, when the TA verified -/
  records : Option (RecordSet × List Block)
  tripRecord : Option Block
  recordCheck : Option RecordCheck
  deriving DecidableEq, Repr

/-! ### Chapter 5: the key store -/

/-- The state of a key slot (R80). -/
inductive SlotState where
  | empty | partLoaded | staged | active | retiring | expired | faulted
  deriving DecidableEq, Repr

/-- The role of a key slot (R80). -/
inductive Role where
  | tagMaster | record | root
  deriving DecidableEq, Repr

/-- A key slot (R80). A slot that is EMPTY has no role: its role code reads as zero. -/
structure Slot where
  state : SlotState
  role : Option Role
  issuer : Issuer
  generation : Generation
  retain : Bool
  autoActivate : Bool
  validFrom : Minute
  validUntil : Minute
  kcv : Kcv
  lastCheck : Tick
  erasePending : Bool
  material : Option Key
  deriving DecidableEq, Repr

/-- The outstanding scrub (R97). -/
structure Scrub where
  slot : SlotNo
  forced : Bool
  running : Bool
  deriving DecidableEq, Repr

/-- The key store's state (R80, R81, R91, R97, R104). -/
structure KeyStore where
  slots : Vector Slot 128
  rootLock : Bool
  writeGen : Option Generation
  keyChange : Bool
  scrubPointer : SlotNo
  outstanding : Option Scrub
  initCheck : List SlotNo
  deriving DecidableEq, Repr

/-! ### Chapter 7: engines and jobs -/

/-- What a job names its key by (R126). -/
inductive KeyId where
  | slot (n : SlotNo)
  | tk (c : ContextNo)
  | sk (c : ContextNo)
  | loadCandidate
  | rootCandidate
  deriving DecidableEq, Repr

/-- The owner of a job (R125). -/
inductive JobOwner where
  | context (c : ContextNo)
  | management
  | scrub
  deriving DecidableEq, Repr

/-- A job (R125). `extra` holds what a job carries beside its input blocks: the wrapped key of an UNWRAP,
the two components of a COMBINE. A job's place in the queue is its place in the list. -/
structure Job where
  kind : JobKind
  owner : JobOwner
  key : KeyId
  input : List Block
  extra : List Block
  blocks : Nat
  bypass : Nat
  forced : Bool
  discard : Bool
  deriving DecidableEq, Repr

/-- The state of an engine with its key register (R129). The register is an Option because a computation
that names a key not held does not take place (R62, log 22). -/
inductive EngineState where
  | closedIdle
  | openIdle (key : KeyId) (register : Option Key)
  | opening (register : Option Key) (job : Job)
  | busy (register : Option Key) (job : Job)
  deriving DecidableEq, Repr

/-- An engine with its two marks (R129). -/
structure Engine where
  state : EngineState
  closeAtEnd : Bool
  loss : Bool
  deriving DecidableEq, Repr

/-- The engines, their last-use order from least to most recent, and the job queue, oldest first. -/
structure Cipher where
  engines : Vector Engine 4
  lastUse : List EngineNo
  queue : List Job
  deriving DecidableEq, Repr

/-! ### Chapter 8: the two tables -/

/-- An entry of the derived-key cache (R143). -/
structure CacheEntry where
  issuer : Issuer
  generation : Generation
  tagNumber : TagNumber
  tagKey : Key
  deriving DecidableEq, Repr

/-- An entry of the recent-pass table (R150). -/
structure RecentEntry where
  issuer : Issuer
  tagNumber : TagNumber
  expected : Counter
  uncertain : Bool
  tick : Tick
  deriving DecidableEq, Repr

/-! ### Chapter 9: the lane port and the management unit -/

/-- A REQUEST as it arrived (section 9.1). -/
structure Request where
  tag : Byte
  code : Byte
  params : List Byte
  deriving DecidableEq, Repr

/-- The status codes of a response (R166). -/
inductive Status where
  | ok | clamped | busy | order | badSlot | badField | slotBusy | duplicate | kcvMismatch | noRoot
  | locked | state | windowEnded
  deriving DecidableEq, Repr

/-- A RESPONSE (R166). -/
structure Response where
  tag : Byte
  code : Byte
  status : Status
  attention : Bool
  keyChange : Bool
  data : List Byte
  deriving DecidableEq, Repr

/-- An entry of the response queue (R162). -/
inductive Answer where
  | response (r : Response)
  | alert (event : EventNo) (at_ : Tick)
  deriving DecidableEq, Repr

/-- An entry of the report queue (R161): a report, or an uplink air frame as it arrived. -/
inductive ReportItem where
  | report (r : PassReport)
  | upPassthrough (kind : Byte) (payload : List Byte)
  deriving DecidableEq, Repr

/-- The lane port's queues and the frame in transmission (sections 9.2 and 9.3). -/
structure LanePort where
  requests : List Request
  responses : List Answer
  reports : List ReportItem
  tx : Option WireFrame
  deriving DecidableEq, Repr

/-- The work that holds the management unit (section 6.1). -/
inductive HeldWork where
  | rootPart2 (kcv : Kcv)
  | keyLoadB (wrapped : Block)
  | erase (n : SlotNo)
  deriving DecidableEq, Repr

/-- A request in hand that holds the management unit (R165). -/
structure InHand where
  tag : Byte
  code : Byte
  work : HeldWork
  deriving DecidableEq, Repr

/-- Every field of an accepted KEY-LOAD-A exactly as carried, and its KCV (R106). -/
structure LoadFields where
  slot : SlotNo
  role : Byte
  issuer : Issuer
  generation : Byte
  flags : Byte
  validFrom : Minute
  validUntil : Minute
  kcv : Kcv
  deriving DecidableEq, Repr

/-- The pending two-part state (R106). -/
inductive TwoPart where
  | idle
  | root (component : Block)
  | load (fields : LoadFields)
  deriving DecidableEq, Repr

/-- The management unit's state (section 9.4, R106). -/
structure Management where
  inHand : Option InHand
  held : Option Response
  twoPart : TwoPart
  candidate : Option Key
  deriving DecidableEq, Repr

/-- The thirteen events, in the order of their numbers (section 9.5). -/
inductive Event where
  | overrun | replay | stray | airCrc | laneCrc | closeDrop | passthroughDrop | reportStall | scrubFault
  | keyExpired | loadFail | zeroised | requestDrop
  deriving DecidableEq, Repr

/-- The event flags, the event counters and the alert mask (section 9.5); bit n of a word is event n. -/
structure Events where
  flags : BitVec 13
  counters : Vector (BitVec 16) 13
  alertMask : BitVec 13
  deriving DecidableEq, Repr

/-! ### Chapter 10: device states, clocks and lines -/

/-- The device state (R175). -/
inductive DeviceState where
  | init | maintenance | service | hold
  deriving DecidableEq, Repr

/-- Lane time and the calendar (R184, R185). `advanceDue` is the model's own: the minute timer has passed
599,999 and the advance has not been taken ("the advance that was due", R186; log 9). -/
structure Clock where
  laneTime : Tick
  calendarSet : Bool
  minute : Minute
  minuteTimer : Nat
  advanceDue : Bool
  deriving DecidableEq, Repr

/-- The lines: true is asserted (section 10.6). `zeroiseLatched` counts the ZEROISE assertions made while
RESET is held, which are taken when INIT is entered (R182; log 16). -/
structure Lines where
  lrdy : Bool
  reset : Bool
  supplyFail : Bool
  wake : Bool
  zeroiseLatched : Nat
  deriving DecidableEq, Repr

end Sys2Proof.Machine
end

