-- ==== Sys2Proof/Machine/Bytes.lean ====
section
/-! DEFINITION. Byte order and the CRC: byte strings are most significant byte first on both ports and in
every block (R62, chapter 11). -/

namespace Sys2Proof.Machine

/-- The k bytes of a number, most significant first. -/
def toBytes : Nat → Nat → List Byte
  | 0, _ => []
  | k + 1, v => BitVec.ofNat 8 (v / 256 ^ k) :: toBytes k v

/-- The number a byte string spells, most significant byte first. -/
def fromBytes (l : List Byte) : Nat :=
  l.foldl (fun acc b => acc * 256 + b.toNat) 0

/-- Byte i of a payload, numbered from 0; 0 beyond its end. -/
def byteAt (l : List Byte) (i : Nat) : Byte :=
  l.getD i 0

/-- The number in the n bytes of a payload from byte i on. -/
def field (l : List Byte) (i n : Nat) : Nat :=
  fromBytes ((l.drop i).take n)

/-- The block spelled by 16 bytes of a payload from byte i on. -/
def blockAt (l : List Byte) (i : Nat) : Block :=
  BitVec.ofNat 128 (field l i 16)

/-- The 16 bytes of a block. -/
def blockBytes (b : Block) : List Byte :=
  toBytes 16 b.toNat

/-- Byte i of a block, byte 0 the most significant (R62). -/
def blockByte (b : Block) (i : Nat) : Byte :=
  b.extractLsb' (8 * (15 - i)) 8

/-- The first four bytes of a block: the authenticator of a final chain value (R66). -/
def firstFour (b : Block) : Auth :=
  b.extractLsb' 96 32

/-- The first three bytes of a block: the KCV of F over sixteen zero bytes (R63). -/
def firstThree (b : Block) : Kcv :=
  b.extractLsb' 104 24

/-- Cut k blocks of 16 bytes from a byte string. -/
def cutBlocks : Nat → List Byte → List Block
  | 0, _ => []
  | k + 1, l => blockAt l 0 :: cutBlocks k (l.drop 16)

/-- One shift of the CRC register: left one place, with 0x1021 where a 1 leaves the top (R187). -/
def crcShift (reg : BitVec 16) : BitVec 16 :=
  if reg.msb then (reg <<< 1) ^^^ 0x1021#16 else reg <<< 1

/-- One byte into the CRC register: into its upper eight bits, then eight shifts (R187). -/
def crcByte (reg : BitVec 16) (b : Byte) : BitVec 16 :=
  Nat.repeat crcShift 8 (reg ^^^ (b.setWidth 16 <<< 8))

/-- The CRC-16 of a byte string: from 0xFFFF, no reflection, no final XOR (R187). -/
def crc16 (l : List Byte) : BitVec 16 :=
  l.foldl crcByte 0xFFFF#16

/-- The CRC of a frame, over its kind or class, its length and its payload (R187). -/
def frameCrc (code len : Byte) (payload : List Byte) : BitVec 16 :=
  crc16 (code :: len :: payload)

/-- The two bytes of a CRC in the order in which they are sent: high byte first (R187). -/
def crcBytes (crc : BitVec 16) : List Byte :=
  [crc.extractLsb' 8 8, crc.extractLsb' 0 8]

/-- The CRC a received frame carries: its first CRC byte is the high one (R187). -/
def carriedCrc (f : PortFrame) : BitVec 16 :=
  f.crcHigh ++ f.crcLow

/-- The bytes of a frame the part sends: its length byte counts the payload, its CRC is computed over what it
sends and follows the payload, high byte first (R187). -/
def wireFrame (code : Byte) (payload : List Byte) : WireFrame :=
  let len := BitVec.ofNat 8 payload.length
  code :: len :: (payload ++ crcBytes (frameCrc code len payload))

end Sys2Proof.Machine
end

