-- ==== Sys2Proof/Machine/Arithmetic.lean ====
section
/-! DEFINITION. Pass arithmetic (chapter 4): the block function, the derivation block, the authenticator
chain, the messages of a pass, and the comparisons of counters, ticks and minutes. -/

namespace Sys2Proof.Machine

/-! ### The block function (R62)

R62 names AES-128 in its encrypting direction and does not spell it out; the tables and rounds below are
those of the published standard (FIPS 197). PRESUMED, log 6. -/

/-- The sixteen rows of the AES substitution table, byte 0 of a row first. PRESUMED, log 6. -/
def aesSboxRows : List (BitVec 128) :=
  [0x637c777bf26b6fc53001672bfed7ab76#128, 0xca82c97dfa5947f0add4a2af9ca472c0#128,
   0xb7fd9326363ff7cc34a5e5f171d83115#128, 0x04c723c31896059a071280e2eb27b275#128,
   0x09832c1a1b6e5aa0523bd6b329e32f84#128, 0x53d100ed20fcb15b6acbbe394a4c58cf#128,
   0xd0efaafb434d338545f9027f503c9fa8#128, 0x51a3408f929d38f5bcb6da2110fff3d2#128,
   0xcd0c13ec5f974417c4a77e3d645d1973#128, 0x60814fdc222a908846eeb814de5e0bdb#128,
   0xe0323a0a4906245cc2d3ac629195e479#128, 0xe7c8376d8dd54ea96c56f4ea657aae08#128,
   0xba78252e1ca6b4c6e8dd741f4bbd8b8a#128, 0x703eb5664803f60e613557b986c11d9e#128,
   0xe1f8981169d98e949b1e87e9ce5528df#128, 0x8ca1890dbfe6426841992d0fb054bb16#128]

/-- The AES substitution of one byte. -/
def aesSub (x : Byte) : Byte :=
  blockByte (aesSboxRows.getD (x.toNat / 16) 0) (x.toNat % 16)

/-- Multiplication by x in the AES field. -/
def aesDouble (x : Byte) : Byte :=
  if x.msb then (x <<< 1) ^^^ 0x1B#8 else x <<< 1

/-- The row shift: byte i of the result is byte (5 i mod 16) of the state, which is held column by
column. -/
def aesShiftRows (s : List Byte) : List Byte :=
  (List.range 16).map fun i => byteAt s (5 * i % 16)

/-- The column mix, four bytes at a time. -/
def aesMixColumns : List Byte → List Byte
  | a :: b :: c :: d :: rest =>
    let all := a ^^^ b ^^^ c ^^^ d
    (a ^^^ all ^^^ aesDouble (a ^^^ b)) :: (b ^^^ all ^^^ aesDouble (b ^^^ c)) ::
      (c ^^^ all ^^^ aesDouble (c ^^^ d)) :: (d ^^^ all ^^^ aesDouble (d ^^^ a)) :: aesMixColumns rest
  | _ => []

/-- The XOR of two byte strings (R62). -/
def xorBytes (a b : List Byte) : List Byte :=
  List.zipWith (· ^^^ ·) a b

/-- The next round key from a round key and its round constant. -/
def aesNextKey (rcon : Byte) (k : List Byte) : List Byte :=
  let t := [aesSub (byteAt k 13) ^^^ rcon, aesSub (byteAt k 14), aesSub (byteAt k 15), aesSub (byteAt k 12)]
  let w0 := xorBytes (k.take 4) t
  let w1 := xorBytes ((k.drop 4).take 4) w0
  let w2 := xorBytes ((k.drop 8).take 4) w1
  let w3 := xorBytes ((k.drop 12).take 4) w2
  w0 ++ w1 ++ w2 ++ w3

/-- The rounds, one per round constant; the last has no column mix. -/
def aesRounds : List Byte → List Byte → List Byte → List Byte
  | [], _, s => s
  | [rcon], k, s => xorBytes (aesShiftRows (s.map aesSub)) (aesNextKey rcon k)
  | rcon :: rest, k, s =>
    aesRounds rest (aesNextKey rcon k)
      (xorBytes (aesMixColumns (aesShiftRows (s.map aesSub))) (aesNextKey rcon k))

/-- The block function F(K, X): AES-128 encryption of one block under one key (R62). -/
def blockFunction (k : Key) (x : Block) : Block :=
  blockAt (aesRounds [0x01#8, 0x02#8, 0x04#8, 0x08#8, 0x10#8, 0x20#8, 0x40#8, 0x80#8, 0x1B#8, 0x36#8]
    (blockBytes k) (xorBytes (blockBytes x) (blockBytes k))) 0

/-- KCV(K): the first three bytes of F over sixteen zero bytes (R63). -/
def keyCheckValue (k : Key) : Kcv :=
  firstThree (blockFunction k 0)

/-! ### Chains and messages (R64 to R71) -/

/-- The chain over the blocks of a padded message, from sixteen zero bytes (R66 step 3). -/
def chain (k : Key) (blocks : List Block) : Block :=
  blocks.foldl (fun c m => blockFunction k (c ^^^ m)) 0

/-- The blocks of a message: 0x80, then zeros to the next multiple of 16; padding is always added (R66). -/
def paddedBlocks (m : List Byte) : List Block :=
  let n := m.length / 16 + 1
  cutBlocks n (m ++ 0x80#8 :: List.replicate (16 * n - m.length - 1) 0)

/-- The authenticator of a message under a key (R66). -/
def authenticator (k : Key) (m : List Byte) : Auth :=
  firstFour (chain k (paddedBlocks m))

/-- The derivation block D (R64). -/
def derivationBlock (tagNumber : TagNumber) (issuer : Issuer) (generation : Generation) : Block :=
  blockAt (toBytes 6 tagNumber.toNat ++ toBytes 2 issuer.toNat ++ toBytes 1 generation.toNat
    ++ List.replicate 7 0x3C#8) 0

/-- The nonce block N: the tag nonce followed by the reader nonce (R65). -/
def nonceBlock (tagNonce readerNonce : Nonce) : Block :=
  blockAt (toBytes 8 tagNonce.toNat ++ toBytes 8 readerNonce.toNat) 0

/-- The RA message (R67). -/
def raMessage (tagNumber : TagNumber) (readerNonce tagNonce : Nonce) (set : RecordSet) : List Byte :=
  0x01#8 :: toBytes 6 tagNumber.toNat ++ toBytes 8 readerNonce.toNat ++ toBytes 8 tagNonce.toNat
    ++ toBytes 1 set.toNat

/-- The TA message over the records as carried (R67). -/
def taMessage (tagNumber : TagNumber) (counter : Counter) (records : List Block) : List Byte :=
  0x02#8 :: toBytes 6 tagNumber.toNat ++ toBytes 3 counter.toNat ++ (records.map blockBytes).flatten

/-- The WA message, the record code in place (R68). -/
def waMessage (tagNumber : TagNumber) (counter : Counter) (record : Block) : List Byte :=
  0x03#8 :: toBytes 6 tagNumber.toNat ++ toBytes 3 counter.toNat ++ blockBytes record

/-- The CA message (R68). -/
def caMessage (tagNumber : TagNumber) (newCounter : Counter) : List Byte :=
  0x04#8 :: toBytes 6 tagNumber.toNat ++ toBytes 3 newCounter.toNat

/-- The record-code message: the tag number and bytes 0 to 11 of the record (R69). -/
def recordCodeMessage (tagNumber : TagNumber) (record : Block) : List Byte :=
  0x05#8 :: toBytes 6 tagNumber.toNat ++ (blockBytes record).take 12

/-- The attribute block A, from the fields of the pending KEY-LOAD-A as carried (R71). -/
def attributeBlock (f : LoadFields) : Block :=
  blockAt (toBytes 1 f.slot.val ++ [f.role] ++ toBytes 2 f.issuer.toNat ++ [f.generation, f.flags]
    ++ toBytes 4 f.validFrom.toNat ++ toBytes 4 f.validUntil.toNat ++ [0xA5#8, 0xA5#8]) 0

/-! ### The trip record (section 2.4, section 11.5) -/

/-- The kind byte of the record a zone function writes (section 2.4). -/
def recordKindByte : ZoneFunction → Byte
  | .entry => 1
  | .exit => 2
  | .point => 3
  | .closed | .verify => 0

/-- A trip record with its record code still zero (R29, section 11.5). -/
def composeRecord (p : ZoneProfile) (minute : Minute) (vehicleClass : Byte) (g : Generation) : Block :=
  blockAt (toBytes 2 p.station.toNat ++ toBytes 4 minute.toNat ++ toBytes 1 p.lane.toNat
    ++ [vehicleClass] ++ toBytes 1 g.toNat ++ [recordKindByte p.function] ++ List.replicate 6 0) 0

/-- Bytes 12 to 15 of a record: its record code (R69). -/
def recordCode (r : Block) : Auth :=
  r.extractLsb' 0 32

/-- A record with its code placed in bytes 12 to 15 (R31). -/
def placeCode (r : Block) (code : Auth) : Block :=
  (r >>> 32 <<< 32) ||| code.setWidth 128

/-! ### Counters, ticks and minutes (R73 to R78) -/

/-- The counter distance of h from the expected counter n (R73). -/
def counterDistance (h n : Counter) : Nat :=
  (h - n).toNat

/-- A deadline has expired (R76). -/
def expired (deadline t : Tick) : Bool :=
  (t - deadline).toNat < 2 ^ 31

/-- The age of a recorded tick (R77). -/
def age (recorded t : Tick) : Nat :=
  (t - recorded).toNat

/-- Seconds in ticks: 10,000 ticks to the second (R75). -/
def ticksOfSeconds (n : Nat) : Nat :=
  n * 10000

end Sys2Proof.Machine
end

