-- ==== Sys2Proof/Machine/Defaults.lean ====
section
/-! DEFINITION. The values each block holds after power-on reset, as its own chapter gives them. -/

namespace Sys2Proof.Machine

/-- The air port after power-on reset, lane reset and HOLD exit (R6, R16). -/
def AirPort.cleared : AirPort :=
  { credit := 0, queue := [], tx := none, confirm := [], nextHandle := 0 }

/-- The default profile of a zone: CLOSED, station 0, lane the zone number, {0}, 30, 3 (R18, R20). -/
def ZoneProfile.default (z : ZoneNo) : ZoneProfile :=
  { function := .closed, station := 0, lane := BitVec.ofNat 4 z.val, recordSet := 1,
    replyTimeout := 30, retries := 3 }

/-- The default profiles and timing record (R19, R20). -/
def LaneProfile.defaults : LaneProfile :=
  { zones := Vector.ofFn ZoneProfile.default, passLimit := 2500, repeatWindow := 10, scrubPeriod := 60 }

/-- Every context FREE, every list empty (R35). -/
def PassTable.cleared : PassTable :=
  { contexts := Vector.replicate 32 none, openLists := Vector.replicate 8 [], stalled := [] }

/-- An EMPTY slot: zero in every field, no erase pending, no material (R80). -/
def Slot.empty : Slot :=
  { state := .empty, role := none, issuer := 0, generation := 0, retain := false, autoActivate := false,
    validFrom := 0, validUntil := 0, kcv := 0, lastCheck := 0, erasePending := false, material := none }

/-- The key store after power-on reset (R83, R92, R97, R104). -/
def KeyStore.powerOn : KeyStore :=
  { slots := Vector.replicate 128 Slot.empty, rootLock := false, writeGen := none, keyChange := false,
    scrubPointer := 0, outstanding := none, initCheck := [] }

/-- A CLOSED-IDLE engine, both marks clear (R129). -/
def Engine.closed : Engine :=
  { state := .closedIdle, closeAtEnd := false, loss := false }

/-- Every engine CLOSED-IDLE, last-use order 0, 1, 2, 3, no job queued (R129, R141). -/
def Cipher.cleared : Cipher :=
  { engines := Vector.replicate 4 Engine.closed, lastUse := [0, 1, 2, 3], queue := [] }

/-- The lane port's queues empty and no frame in transmission (R161, R162, R164, R167). -/
def LanePort.cleared : LanePort :=
  { requests := [], responses := [], reports := [], tx := none }

/-- The management unit with nothing in hand, held or pending (R106, R167). -/
def Management.cleared : Management :=
  { inHand := none, held := none, twoPart := .idle, candidate := none }

/-- Every flag clear, every counter 0, no event selected (R169). -/
def Events.cleared : Events :=
  { flags := 0, counters := Vector.replicate 13 0, alertMask := 0 }

/-- Lane time 0, the calendar unset, its minute timer 0 (R183, R184, R185). -/
def Clock.powerOn : Clock :=
  { laneTime := 0, calendarSet := false, minute := 0, minuteTimer := 0, advanceDue := false }

/-- Every line deasserted (DESIGN CHOICE: the spec gives no level at power-on; log 7). -/
def Lines.idle : Lines :=
  { lrdy := false, reset := false, supplyFail := false, wake := false, zeroiseLatched := 0 }

end Sys2Proof.Machine
end

