-- ==== Sys2Proof/Machine/State.lean ====
section
/-! DEFINITION. The state of the part, block by block, the reasons a step can stop, and the state after
power-on reset. -/

namespace Sys2Proof.Machine

/-- The part's state. `randomDraws` (log 5) and `pending` (log 2) are the model's own. -/
structure State where
  device : DeviceState
  clock : Clock
  lines : Lines
  air : AirPort
  profile : LaneProfile
  passes : PassTable
  keys : KeyStore
  cipher : Cipher
  cache : List CacheEntry
  recent : List RecentEntry
  lane : LanePort
  mgmt : Management
  events : Events
  /-- how many reader nonces have been drawn from the random source -/
  randomDraws : Nat
  /-- the commands that are waiting, first in, first out -/
  pending : List Instr
  deriving DecidableEq, Repr

/-- The reasons the part stops with a fault. There is none: every rule of the spec gives its command an
effect, a bad frame and a refused request included. -/
inductive Fault where
  deriving DecidableEq, Repr

/-- The reasons the model has no meaning for a command. -/
inductive Refusal where
  /-- the command has no meaning in the model yet; raised by exec's arm alone; safe -/
  | notModelled (mnemonic : String)
  deriving DecidableEq, Repr

/-- The part right after power-on reset (R183). The INIT check list is empty, so the check is complete at
once and the part is in MAINTENANCE (log 8). -/
def State.reset : State :=
  { device := .maintenance
    clock := Clock.powerOn
    lines := Lines.idle
    air := AirPort.cleared
    profile := LaneProfile.defaults
    passes := PassTable.cleared
    keys := KeyStore.powerOn
    cipher := Cipher.cleared
    cache := []
    recent := []
    lane := LanePort.cleared
    mgmt := Management.cleared
    events := Events.cleared
    randomDraws := 0
    pending := [] }

end Sys2Proof.Machine
end

