-- ==== Sys2Proof/Machine/Ops.lean ====
section
/-! DEFINITION. Named reads and writes of the state: the tables by number, the device states in which the
ports are live, and the tests the key store makes of a slot. -/

namespace Sys2Proof.Machine

/-! ### Tables of a fixed size -/

/-- Entry i of a table. -/
def tableGet {α : Type} {n : Nat} (v : Vector α n) (i : Fin n) : α :=
  v[i.val]

/-- The table with entry i replaced. -/
def tableSet {α : Type} {n : Nat} (v : Vector α n) (i : Fin n) (a : α) : Vector α n :=
  v.set i.val a

/-- The table with every entry rewritten, each by its number. -/
def tableMap {α : Type} {n : Nat} (f : Fin n → α → α) (v : Vector α n) : Vector α n :=
  Vector.ofFn fun i => f i (tableGet v i)

/-! ### Reads and writes by number -/

/-- Key slot n. -/
def State.slot (s : State) (n : SlotNo) : Slot :=
  tableGet s.keys.slots n

/-- Write key slot n; no other key store state changes. -/
def State.setSlot (s : State) (n : SlotNo) (x : Slot) : State :=
  { s with keys := { s.keys with slots := tableSet s.keys.slots n x } }

/-- Set the key-change indicator (R104). -/
def State.noteKeyChange (s : State) : State :=
  { s with keys := { s.keys with keyChange := true } }

/-- A change of a slot's state: the slot is written and the key-change indicator set in one transition
(section 5.2, R104). -/
def State.changeSlot (s : State) (n : SlotNo) (x : Slot) : State :=
  (s.setSlot n x).noteKeyChange

/-- Context c; none is FREE. -/
def State.context (s : State) (c : ContextNo) : Option Context :=
  tableGet s.passes.contexts c

/-- Write context c. -/
def State.setContext (s : State) (c : ContextNo) (x : Option Context) : State :=
  { s with passes := { s.passes with contexts := tableSet s.passes.contexts c x } }

/-- Rewrite context c where it is in use. -/
def State.modContext (s : State) (c : ContextNo) (f : Context → Context) : State :=
  s.setContext c ((s.context c).map f)

/-- The open list of a zone. -/
def State.openList (s : State) (z : ZoneNo) : List ContextNo :=
  tableGet s.passes.openLists z

/-- Write the open list of a zone. -/
def State.setOpenList (s : State) (z : ZoneNo) (l : List ContextNo) : State :=
  { s with passes := { s.passes with openLists := tableSet s.passes.openLists z l } }

/-- Engine e. -/
def State.engine (s : State) (e : EngineNo) : Engine :=
  tableGet s.cipher.engines e

/-- Write engine e. -/
def State.setEngine (s : State) (e : EngineNo) (x : Engine) : State :=
  { s with cipher := { s.cipher with engines := tableSet s.cipher.engines e x } }

/-- Replace the job queue. -/
def State.setJobs (s : State) (q : List Job) : State :=
  { s with cipher := { s.cipher with queue := q } }

/-- Replace the outstanding scrub (R97). -/
def State.setOutstanding (s : State) (o : Option Scrub) : State :=
  { s with keys := { s.keys with outstanding := o } }

/-- Replace the record write generation; the indicator is set when the value changes (R91, R104). -/
def State.setWriteGen (s : State) (g : Option Generation) : State :=
  if s.keys.writeGen = g then s
  else { s with keys := { s.keys with writeGen := g, keyChange := true } }

/-- The profile of a zone (R18). -/
def State.zone (s : State) (z : ZoneNo) : ZoneProfile :=
  tableGet s.profile.zones z

/-! ### Numbers in order -/

/-- Contexts 0 to 31 in ascending order. -/
def allContexts : List ContextNo :=
  List.finRange 32

/-- Slots 0 to 127 in ascending order. -/
def allSlots : List SlotNo :=
  List.finRange 128

/-- Engines 0 to 3 in ascending order. -/
def allEngines : List EngineNo :=
  List.finRange 4

/-! ### Device states -/

/-- The part is held in reset: RESET is asserted outside HOLD (R182). -/
def State.heldInReset (s : State) : Bool :=
  s.lines.reset && s.device != .hold

/-- The ports take what reaches them: not in HOLD (R2, R158) and not held in reset (R182). -/
def State.live (s : State) : Bool :=
  s.device != .hold && !s.lines.reset

/-- The part is in MAINTENANCE or SERVICE with its ports live. -/
def State.working (s : State) : Bool :=
  s.live && (s.device == .maintenance || s.device == .service)

/-! ### Contexts by tag -/

/-- The context in use that holds a tag (test 1 of R39); at most one does. -/
def State.contextOf (s : State) (issuer : Issuer) (tagNumber : TagNumber) : Option ContextNo :=
  allContexts.find? fun c =>
    match s.context c with
    | some x => x.issuer == issuer && x.tagNumber == tagNumber
    | none => false

/-- The lowest-numbered FREE context (R35). -/
def State.freeContext (s : State) : Option ContextNo :=
  allContexts.find? fun c => (s.context c).isNone

/-- The number of FREE contexts (R35). -/
def State.freeContexts (s : State) : Nat :=
  allContexts.countP fun c => (s.context c).isNone

/-! ### Slots (sections 5.1 to 5.4) -/

/-- A slot holding material: STAGED, ACTIVE, RETIRING or EXPIRED with no erase pending (R82). -/
def Slot.holdsMaterial (x : Slot) : Bool :=
  !x.erasePending &&
    (x.state == .staged || x.state == .active || x.state == .retiring || x.state == .expired)

/-- ACTIVE with no erase pending: an erase pending is treated as having left the state (R88). -/
def Slot.isActive (x : Slot) : Bool :=
  x.state == .active && !x.erasePending

/-- ACTIVE or RETIRING with no erase pending: what serves a record check (R90) and a cache fill (R146). -/
def Slot.serves (x : Slot) : Bool :=
  (x.state == .active || x.state == .retiring) && !x.erasePending

/-- Inside the window at minute m (R78); the calendar is set. -/
def Slot.insideWindow (x : Slot) (m : Minute) : Bool :=
  decide (x.validFrom ≤ m) && (x.validUntil == 0xFFFFFFFF#32 || decide (m < x.validUntil))

/-- The slot has reached its valid-until at minute m (R79). -/
def Slot.reachedUntil (x : Slot) (m : Minute) : Bool :=
  x.validUntil != 0xFFFFFFFF#32 && decide (x.validUntil ≤ m)

/-- The slot that is not EMPTY with a given role, issuer and generation; the law of R80 leaves one at
most. -/
def State.findSlot (s : State) (role : Role) (issuer : Issuer) (g : Generation) : Option SlotNo :=
  allSlots.find? fun n =>
    let x := s.slot n
    x.state != .empty && x.role == some role && x.issuer == issuer && x.generation == g

/-- A slot is usable for a new pass at the current minute (R89); none is while the calendar is unset. -/
def State.usable (s : State) (n : SlotNo) : Bool :=
  let x := s.slot n
  x.serves && s.clock.calendarSet && x.insideWindow s.clock.minute

/-- A slot's check is overdue (R77, R98). -/
def State.overdue (s : State) (n : SlotNo) : Bool :=
  (s.slot n).holdsMaterial &&
    decide (ticksOfSeconds s.profile.scrubPeriod ≤ age (s.slot n).lastCheck s.clock.laneTime)

end Sys2Proof.Machine
end

