-- ==== Sys2Proof/Machine/Flags.lean ====
section
/-! DEFINITION. The thirteen events: raising one, its flag, its counter and its alert (section 9.5). -/

namespace Sys2Proof.Machine

/-- The number of an event (section 9.5). -/
def Event.number : Event → EventNo
  | .overrun => 0
  | .replay => 1
  | .stray => 2
  | .airCrc => 3
  | .laneCrc => 4
  | .closeDrop => 5
  | .passthroughDrop => 6
  | .reportStall => 7
  | .scrubFault => 8
  | .keyExpired => 9
  | .loadFail => 10
  | .zeroised => 11
  | .requestDrop => 12

/-- A counter one higher, staying at 65,535 (R168). -/
def countUp (n : BitVec 16) : BitVec 16 :=
  if n = 0xFFFF#16 then n else n + 1

/-- The word with bit n alone. -/
def eventBit (n : EventNo) : BitVec 13 :=
  1#13 <<< n.val

/-- The flag of an event. -/
def Events.flag (v : Events) (n : EventNo) : Bool :=
  v.flags.getLsbD n.val

/-- The alert mask selects an event (R173). -/
def Events.selected (v : Events) (n : EventNo) : Bool :=
  v.alertMask.getLsbD n.val

/-- Set an event's flag and add one to its counter (R168). -/
def Events.record (v : Events) (n : EventNo) : Events :=
  { v with flags := v.flags ||| eventBit n
           counters := tableSet v.counters n (countUp (tableGet v.counters n)) }

/-- Clear the flags and counters of the events a mask names (R171). -/
def Events.clear (v : Events) (mask : BitVec 13) : Events :=
  { v with flags := v.flags &&& ~~~mask
           counters := tableMap (fun n k => if mask.getLsbD n.val then 0 else k) v.counters }

/-- An ALERT joins the response queue when it holds fewer than 8 entries (R174). -/
def State.queueAlert (n : EventNo) (s : State) : State :=
  if s.lane.responses.length < 8 then
    { s with lane := { s.lane with responses := s.lane.responses ++ [.alert n s.clock.laneTime] } }
  else s

/-- Raise an event (R168). A change of its flag from clear to set sends an alert where the mask selects
the event and the part is not in HOLD (R174). -/
def State.raise (s : State) (v : Event) : State :=
  let n := v.number
  let s' := { s with events := s.events.record n }
  if !s.events.flag n && s.events.selected n && s.device != .hold then s'.queueAlert n else s'

/-- The attention bit: at least one event flag is set (R166). -/
def State.attention (s : State) : Bool :=
  s.events.flags != 0

end Sys2Proof.Machine
end

