-- ==== Sys2Proof/WellFormed.lean ====
section
/-! DEFINITION. Which terms of Instr spell a command of their row. -/

namespace Sys2Proof

/-- The uplink kind codes section 1.1 names; every other code is an OTHER frame (R189). -/
def namedUplinkCode (kind : Byte) : Bool :=
  [0x01#8, 0x02#8, 0x03#8, 0x10#8, 0x11#8, 0x12#8].contains kind

/-- The two classes the part receives (section 9.1). -/
def incomingClass (cls : Byte) : Bool :=
  [0x11#8, 0x12#8].contains cls

/-- A term spells its row's command: an OTHER frame has no named kind code (R189), and a frame of an
outgoing or unnamed class is neither a DOWN-PASSTHROUGH nor a REQUEST (R158). Every other operand may
take any value: a frame command carries whatever bytes were received, and its checks are the part's. -/
def Instr.wellFormed : Instr → Bool
  | .other kind _ => !namedUplinkCode kind
  | .laneFrameOfOutgoingClass cls _ => !incomingClass cls
  | .hello _ | .data _ | .commit _ | .credit _ | .sent _ | .sendFailed _ => true
  | .downlinkSendStart | .downlinkFrameOut | .confirmationDeadline _ | .downPassthrough _ => true
  | .openCompletion _ | .deriveJobCompletion _ | .sessionJobCompletion _ | .raJobCompletion _ => true
  | .taJobCompletion _ | .recordCodeComputeCompletion _ | .recordCodeVerifyCompletion _ => true
  | .waJobCompletion _ | .caJobCompletion _ | .unwrapJobCompletion _ | .kcvJobCompletion _ => true
  | .combineJobCompletion _ | .scrubJobCompletion _ => true
  | .stepDeadlineExpiry _ | .lifetimeDeadlineExpiry _ | .recentPassAgeing | .slotOverdue _ => true
  | .eraseCompletion | .calendarAdvance | .request _ | .unknownRequestCode => true
  | .readStatus | .readCounters | .clearEvents | .setAlertMask | .setProfile | .setTiming => true
  | .setService | .setCalendar | .hold | .rootPart1 | .rootPart2 | .lockRoot => true
  | .keyLoadA | .keyLoadB | .activate | .retire | .erase | .selectWriteGen | .readSlot => true
  | .zeroise | .zeroiseLine | .laneSendStart | .laneFrameOut | .lrdyAsserted | .supplyFail => true
  | .wake | .supplyFailDeasserted | .laneReset | .resetDeasserted | .powerOnReset => true
  | .lrdyDeasserted | .wakeDeasserted => true

end Sys2Proof
end

