-- ==== Sys2Proof/Machine/Operands.lean ====
section
/-! DEFINITION. The operands of a command: the checks of a received frame and the fields of each air frame
and each request (R1, R189, R158, R190, chapter 11). -/

namespace Sys2Proof.Machine

/-! ### Air frames (R1, R189, section 11.1) -/

/-- The payload lengths allowed for an uplink kind (R1 check 2, R189). -/
def airLengthAllowed (kind : Byte) (n : Nat) : Bool :=
  if kind = 0x01#8 then n == 23
  else if kind = 0x02#8 then n == 33 || n == 49 || n == 65 || n == 81
  else if kind = 0x03#8 then n == 17
  else if kind = 0x10#8 then n == 1
  else if kind = 0x11#8 then n == 2
  else if kind = 0x12#8 then n == 1
  else decide (2 ≤ n) && decide (n ≤ 98)

/-- The fields with a stated range lie inside it (R1 check 3, R189): the zone of a tag frame, the
generation and records available of a HELLO, the n of a CREDIT. -/
def airRangesHold (kind : Byte) (p : List Byte) : Bool :=
  if kind = 0x10#8 then decide (1 ≤ (byteAt p 0).toNat) && decide ((byteAt p 0).toNat ≤ 16)
  else if kind = 0x11#8 || kind = 0x12#8 then true
  else decide ((byteAt p 0).toNat < 8) &&
    (kind != 0x01#8 ||
      (decide ((byteAt p 10).toNat < 16) && decide (1 ≤ (byteAt p 22).toNat) && decide ((byteAt p 22).toNat ≤ 4)))

/-- The three checks of an uplink frame (R1). -/
def airFrameGood (kind : Byte) (f : PortFrame) : Bool :=
  carriedCrc f == frameCrc kind f.len f.payload &&
    (f.len.toNat == f.payload.length && airLengthAllowed kind f.payload.length) &&
    airRangesHold kind f.payload

/-- A zone byte as a zone number. -/
def zoneOf (b : Byte) : ZoneNo :=
  ⟨b.toNat % 8, Nat.mod_lt _ (by decide)⟩

/-- A HELLO (section 1.1). -/
structure Hello where
  zone : ZoneNo
  rssi : Byte
  issuer : Issuer
  tagNumber : TagNumber
  generation : Generation
  counter : Counter
  tagNonce : Nonce
  available : Nat
  deriving DecidableEq, Repr

/-- The fields of a HELLO payload (section 11.1). -/
def helloOf (p : List Byte) : Hello :=
  { zone := zoneOf (byteAt p 0), rssi := byteAt p 1, issuer := BitVec.ofNat 16 (field p 2 2),
    tagNumber := BitVec.ofNat 48 (field p 4 6), generation := BitVec.ofNat 4 (field p 10 1),
    counter := BitVec.ofNat 24 (field p 11 3), tagNonce := BitVec.ofNat 64 (field p 14 8),
    available := field p 22 1 }

/-- A DATA (section 1.1). -/
structure Data where
  zone : ZoneNo
  rssi : Byte
  issuer : Issuer
  tagNumber : TagNumber
  counter : Counter
  records : List Block
  ta : Auth
  deriving DecidableEq, Repr

/-- The fields of a DATA payload; its record count is (length - 17) / 16 (R189). -/
def dataOf (p : List Byte) : Data :=
  let k := (p.length - 17) / 16
  { zone := zoneOf (byteAt p 0), rssi := byteAt p 1, issuer := BitVec.ofNat 16 (field p 2 2),
    tagNumber := BitVec.ofNat 48 (field p 4 6), counter := BitVec.ofNat 24 (field p 10 3),
    records := cutBlocks k (p.drop 13), ta := BitVec.ofNat 32 (field p (13 + 16 * k) 4) }

/-- A COMMIT (section 1.1). -/
structure Commit where
  zone : ZoneNo
  rssi : Byte
  issuer : Issuer
  tagNumber : TagNumber
  newCounter : Counter
  ca : Auth
  deriving DecidableEq, Repr

/-- The fields of a COMMIT payload (section 11.1). -/
def commitOf (p : List Byte) : Commit :=
  { zone := zoneOf (byteAt p 0), rssi := byteAt p 1, issuer := BitVec.ofNat 16 (field p 2 2),
    tagNumber := BitVec.ofNat 48 (field p 4 6), newCounter := BitVec.ofNat 24 (field p 10 3),
    ca := BitVec.ofNat 32 (field p 13 4) }

/-! ### Lane frames (R158, R190, section 11.4) -/

/-- The length check of a lane frame: at most 120, and agreeing with the bytes received (R158 check 2). -/
def laneLengthGood (f : PortFrame) : Bool :=
  decide (f.len.toNat ≤ 120) && f.len.toNat == f.payload.length

/-- The CRC and length checks of a lane frame of a class (R158 checks 1 and 2). -/
def laneFrameGood (cls : Byte) (f : PortFrame) : Bool :=
  carriedCrc f == frameCrc cls f.len f.payload && laneLengthGood f

/-- The request codes and the lengths of their payloads, tag and code included (section 11.4). -/
def requestLengths : List (Byte × Nat) :=
  [(0x01#8, 2), (0x02#8, 2), (0x03#8, 4), (0x04#8, 4), (0x05#8, 11), (0x06#8, 7), (0x07#8, 3),
   (0x08#8, 6), (0x09#8, 2)] ++
  [(0x10#8, 18), (0x11#8, 21), (0x12#8, 2), (0x13#8, 19), (0x14#8, 19), (0x15#8, 3), (0x16#8, 3),
   (0x17#8, 3), (0x18#8, 3), (0x19#8, 3), (0x1A#8, 2)]

/-- The length the table gives a request code; none where the code names no request. -/
def requestLength (code : Byte) : Option Nat :=
  (requestLengths.find? fun r => r.1 == code).map Prod.snd

/-- The shape check of a REQUEST payload that carries at least a tag (R158 check 4, R190). -/
def requestShapeGood (p : List Byte) : Bool :=
  decide (2 ≤ p.length) && decide (p.length ≤ 24) &&
    match requestLength (byteAt p 1) with
    | some n => n == p.length
    | none => true

/-- A slot byte as a slot number; none above 127 (R190). -/
def slotOf (b : Byte) : Option SlotNo :=
  if h : b.toNat < 128 then some ⟨b.toNat, h⟩ else none

/-- A function code (section 11.2); none where it names none of the five. -/
def functionOf (b : Byte) : Option ZoneFunction :=
  if b = 0 then some .closed
  else if b = 1 then some .entry
  else if b = 2 then some .exit
  else if b = 3 then some .point
  else if b = 4 then some .verify
  else none

/-- The fields of a SET-PROFILE (R21, section 11.4). -/
structure SetProfile where
  zone : Byte
  mask : Byte
  function : Byte
  station : BitVec 16
  lane : Byte
  recordSet : Byte
  replyTimeout : Byte
  retries : Byte
  deriving DecidableEq, Repr

/-- The parameters of a SET-PROFILE. -/
def setProfileOf (p : List Byte) : SetProfile :=
  { zone := byteAt p 0, mask := byteAt p 1, function := byteAt p 2, station := BitVec.ofNat 16 (field p 3 2),
    lane := byteAt p 5, recordSet := byteAt p 6, replyTimeout := byteAt p 7, retries := byteAt p 8 }

/-- The fields of a SET-TIMING (R23, section 11.4). -/
structure SetTiming where
  mask : Byte
  passLimit : Nat
  repeatWindow : Nat
  scrubPeriod : Nat
  deriving DecidableEq, Repr

/-- The parameters of a SET-TIMING. -/
def setTimingOf (p : List Byte) : SetTiming :=
  { mask := byteAt p 0, passLimit := field p 1 2, repeatWindow := field p 3 1, scrubPeriod := field p 4 1 }

/-- The fields of a KEY-LOAD-A with its slot byte (section 11.4). -/
structure KeyLoadA where
  slot : Byte
  role : Byte
  issuer : Issuer
  generation : Byte
  flags : Byte
  validFrom : Minute
  validUntil : Minute
  kcv : Kcv
  deriving DecidableEq, Repr

/-- The parameters of a KEY-LOAD-A. -/
def keyLoadAOf (p : List Byte) : KeyLoadA :=
  { slot := byteAt p 0, role := byteAt p 1, issuer := BitVec.ofNat 16 (field p 2 2), generation := byteAt p 4,
    flags := byteAt p 5, validFrom := BitVec.ofNat 32 (field p 6 4),
    validUntil := BitVec.ofNat 32 (field p 10 4), kcv := BitVec.ofNat 24 (field p 14 3) }

/-- The role a KEY-LOAD-A role code names (section 11.2, R111). -/
def roleOf (b : Byte) : Option Role :=
  if b = 0x01#8 then some .tagMaster else if b = 0x02#8 then some .record else none

end Sys2Proof.Machine
end

