-- ==== Sys2Proof/Machine/Frames.lean ====
section
/-! DEFINITION. The frames and records the part sends, byte for byte (R188, chapter 11). -/

namespace Sys2Proof.Machine

/-! ### Codes used in payloads (section 11.2) -/

/-- A status code. -/
def Status.byte : Status → Byte
  | .ok => 0
  | .clamped => 1
  | .busy => 2
  | .order => 3
  | .badSlot => 4
  | .badField => 5
  | .slotBusy => 6
  | .duplicate => 7
  | .kcvMismatch => 8
  | .noRoot => 9
  | .locked => 10
  | .state => 11
  | .windowEnded => 12

/-- A device state code; HOLD has none, for no frame reports it (R175). -/
def DeviceState.byte : DeviceState → Byte
  | .init => 0
  | .maintenance => 1
  | .service => 2
  | .hold => 0

/-- A slot state code. -/
def SlotState.byte : SlotState → Byte
  | .empty => 0
  | .partLoaded => 1
  | .staged => 2
  | .active => 3
  | .retiring => 4
  | .expired => 5
  | .faulted => 6

/-- A role code; an EMPTY slot's is zero (R120). -/
def roleByte : Option Role → Byte
  | none => 0
  | some .tagMaster => 1
  | some .record => 2
  | some .root => 3

/-- A zone function code. -/
def ZoneFunction.byte : ZoneFunction → Byte
  | .closed => 0
  | .entry => 1
  | .exit => 2
  | .point => 3
  | .verify => 4

/-- A record write generation code: 0 to 15, or 0xFF for NONE. -/
def genByte : Option Generation → Byte
  | none => 0xFF#8
  | some g => g.setWidth 8

/-- A pass result code (section 11.3). -/
def PassResult.byte : PassResult → Byte
  | .complete => 0
  | .completeNoWrite => 1
  | .writeUncertain => 2
  | .commitAuthFail => 3
  | .tagAuthFail => 4
  | .noReply => 5
  | .abandoned => 6
  | .noKey => 7
  | .replay => 8
  | .keyWithdrawn => 9

/-- A bit of a byte. The bits that the manual gives no meaning in a byte of a report, of READ-STATUS, of READ-SLOT and of
a clamp mask are sent as zero (DESIGN CHOICE, log 35); R188 says so of the indicators byte. -/
def bitByte (n : Nat) (b : Bool) : Byte :=
  if b then 1#8 <<< n else 0

/-! ### Downlink frames (section 11.1) -/

/-- The wire frame of a downlink entry (section 1.3, section 11.1). -/
def DownEntry.wire (e : DownEntry) : WireFrame :=
  match e.body with
  | .step (.challenge tag nonce set ra) =>
    wireFrame 0x81#8 ([e.zone, e.handle] ++ toBytes 6 tag.toNat ++ toBytes 8 nonce.toNat
      ++ toBytes 1 set.toNat ++ toBytes 4 ra.toNat)
  | .step (.write tag counter record wa) =>
    wireFrame 0x82#8 ([e.zone, e.handle] ++ toBytes 6 tag.toNat ++ toBytes 3 counter.toNat
      ++ blockBytes record ++ toBytes 4 wa.toNat)
  | .close tag ok => wireFrame 0x83#8 ([e.zone, e.handle] ++ toBytes 6 tag.toNat ++ [if ok then 0 else 1])
  | .passthrough body => wireFrame 0x84#8 ([e.zone, e.handle] ++ body)

/-! ### Lane frames (sections 11.2 and 11.3) -/

/-- The flags byte of a report (section 11.3); its bit 7 is zero (log 35). -/
def PassReport.flagsByte (r : PassReport) : Byte :=
  bitByte 0 r.flags.oldGeneration ||| bitByte 1 r.flags.followsUncertain ||| bitByte 2 r.flags.noWriteKey |||
    bitByte 3 r.flags.noEntryRecord ||| bitByte 4 r.flags.recordKeyUnavailable |||
    bitByte 5 r.flags.recordInvalid ||| bitByte 6 r.multiZone

/-- The presence byte of a report (section 11.3); its bits 6 and 7 are zero (log 35). -/
def PassReport.presenceByte (r : PassReport) : Byte :=
  (match r.records with
    | some (set, _) => set.setWidth 8
    | none => 0) ||| bitByte 4 r.tripRecord.isSome ||| bitByte 5 r.recordCheck.isSome

/-- The REPORT payload (section 11.3); bit 7 of its byte 0 is zero (log 35). -/
def PassReport.payload (r : PassReport) : List Byte :=
  [BitVec.ofNat 8 (r.zoneList.length + 16 * r.homeZone.val)]
    ++ toBytes 4 r.openTick.toNat ++ toBytes 4 r.doneTick.toNat
    ++ toBytes 2 r.issuer.toNat ++ toBytes 6 r.tagNumber.toNat
    ++ toBytes 1 r.generation.toNat ++ toBytes 3 r.counter.toNat
    ++ [r.result.byte, r.flagsByte, r.presenceByte]
    ++ (r.zoneList.map fun z => [BitVec.ofNat 8 z.zone.val, z.rssi]).flatten
    ++ (match r.records with
        | some (_, l) => (l.map blockBytes).flatten
        | none => [])
    ++ (match r.tripRecord with
        | some t => blockBytes t
        | none => [])

/-- The lane frame of a report queue entry (section 11.2). -/
def ReportItem.wire : ReportItem → WireFrame
  | .report r => wireFrame 0x01#8 r.payload
  | .upPassthrough kind payload => wireFrame 0x02#8 (kind :: payload)

/-- The lane frame of a response queue entry: bit 0 of the indicators byte is the attention bit, bit 1 the
key-change bit (R188, section 11.2). -/
def Answer.wire : Answer → WireFrame
  | .response r =>
    wireFrame 0x03#8 ([r.tag, r.code, r.status.byte, bitByte 0 r.attention ||| bitByte 1 r.keyChange] ++ r.data)
  | .alert n t => wireFrame 0x04#8 (BitVec.ofNat 8 n.val :: toBytes 4 t.toNat)

end Sys2Proof.Machine
end

