-- ==== Sys2Proof/Machine/Management.lean ====
section
/-! DEFINITION. The management unit's operations: composing a response, taking a request in its turn, the
two-part order (sections 6.1 and 9.4). -/

namespace Sys2Proof.Machine

/-- The status is one whose response carries request-specific data (R166). -/
def Status.carriesData : Status → Bool
  | .ok | .clamped => true
  | .busy | .order | .badSlot | .badField | .slotBusy | .duplicate | .kcvMismatch | .noRoot | .locked | .state
  | .windowEnded => false

/-- The response composed from the part as it stands (R166); no data for a status other than OK or
CLAMPED. -/
def State.composeResponse (s : State) (tag code : Byte) (status : Status) (data : List Byte) : Response :=
  { tag, code, status, attention := s.attention, keyChange := s.keys.keyChange,
    data := if status.carriesData then data else [] }

/-- A composed response joins the response queue, or is held while the queue holds 8 (R166). -/
def State.sendResponse (s : State) (r : Response) : State :=
  if s.lane.responses.length < 8 then
    { s with lane := { s.lane with responses := s.lane.responses ++ [.response r] } }
  else { s with mgmt := { s.mgmt with held := some r } }

/-- A request that ends at once is answered (R166). -/
def State.respond (s : State) (q : Request) (status : Status) (data : List Byte := []) : State :=
  s.sendResponse (s.composeResponse q.tag q.code status data)

/-- The request in hand ends and is answered (R165, R166). -/
def State.finish (s : State) (status : Status) (data : List Byte := []) : State :=
  match s.mgmt.inHand with
  | none => s
  | some h =>
    let s := { s with mgmt := { s.mgmt with inHand := none } }
    s.sendResponse (s.composeResponse h.tag h.code status data)

/-- A request comes to hold the management unit (R105). -/
def State.takeInHand (s : State) (q : Request) (w : HeldWork) : State :=
  { s with mgmt := { s.mgmt with inHand := some { tag := q.tag, code := q.code, work := w } } }

/-- The pending two-part state becomes none and any component or candidate is cleared (R106). -/
def State.clearTwoPart (s : State) : State :=
  { s with mgmt := { s.mgmt with twoPart := .idle, candidate := none } }

/-- The pending two-part state is discarded without acceptance (R106): a load pending's slot returns to
EMPTY and the key-change indicator is set. -/
def State.discardTwoPart (s : State) : State :=
  match s.mgmt.twoPart with
  | .idle => s
  | .root _ => s.clearTwoPart
  | .load f => (s.changeSlot f.slot Slot.empty).clearTwoPart

/-- The management unit can take a request: none in hand, no held response, ports live (R165). -/
def State.managementFree (s : State) : Bool :=
  s.live && s.mgmt.inHand.isNone && s.mgmt.held.isNone

/-- The request a management row takes: the head of the request queue, when the unit is free and the code
fits (R165). -/
def State.takeable (s : State) (fits : Byte → Bool) : Option Request :=
  match s.lane.requests with
  | [] => none
  | q :: _ => if s.managementFree && fits q.code then some q else none

/-- The head of the request queue leaves it (R165). -/
def State.popRequest (s : State) : State :=
  { s with lane := { s.lane with requests := s.lane.requests.drop 1 } }

/-- Take the head request where it fits, else nothing happens (R165; log 1). -/
def State.take (s : State) (fits : Byte → Bool) (judge : Request → State → State) : State :=
  match s.takeable fits with
  | some q => judge q s.popRequest
  | none => s

/-- The two-part order for a request that is no partner (R107): while a first part is pending it is discarded
and the request is refused with ORDER. -/
def underOrder (judge : Request → State → State) (q : Request) (s : State) : State :=
  if s.mgmt.twoPart = .idle then judge q s else s.discardTwoPart.respond q .order

/-- In INIT every request but READ-STATUS is refused with STATE (R165 test 3). -/
def outsideInit (judge : Request → State → State) (q : Request) (s : State) : State :=
  if s.device = .init then s.respond q .state else judge q s

/-- Take a request with a given code, judged by the order and the device state first (R165). -/
def State.takeRequest (s : State) (code : Byte) (judge : Request → State → State) : State :=
  s.take (· == code) (underOrder (outsideInit judge))

/-- The event flags, or the alert mask, as two bytes: bit n for event n (section 11.2). Section 11.2 gives bits 13 to 15
no value: in the event flags of READ-STATUS and CLEAR-EVENTS they are sent as zero (DESIGN CHOICE, log 35). In an alert
mask they are zero because R173 and R190 refuse a mask that sets one. -/
def maskBytes (m : BitVec 13) : List Byte :=
  toBytes 2 m.toNat

/-- An answer given at the lane port (R160): no request-specific data; with no room it is dropped with
REQUEST-DROP. -/
def State.portAnswer (s : State) (tag code : Byte) (status : Status) : State :=
  if s.lane.responses.length < 8 then
    { s with lane := { s.lane with
        responses := s.lane.responses ++ [.response (s.composeResponse tag code status [])] } }
  else s.raise .requestDrop

end Sys2Proof.Machine
end

