-- ==== Sys2Proof/Config.lean ====
section
/-! DEFINITION. What the manual leaves to the part: the random source. -/

namespace Sys2Proof

/-- The part's random source (R42, R65): the reader nonce of the n-th draw. It has no body, so nothing
about any nonce can be proved; State.randomDraws counts the draws. Log 5. -/
opaque Config.freeNonce : Nat → Nonce

end Sys2Proof
end

