-- ==== Sys2Proof/Machine/AirPort.lean ====
section
/-! DEFINITION. The air port's operations: handles, admission, withdrawal, the start of a send, forwarding
(chapter 1). -/

namespace Sys2Proof.Machine

/-! ### Handles (R6) -/

/-- A handle is in use while its frame is queued, being sent, or awaiting confirmation (R6). -/
def AirPort.inUse (a : AirPort) (h : Byte) : Bool :=
  a.queue.any (fun e => e.handle == h) ||
    (match a.tx with
      | some t => t.entry.handle == h
      | none => false) ||
    a.confirm.any (fun e => e.handle == h)

/-- The first handle not in use from h on, modulo 256, in at most k trials (R6 steps 1 and 2). -/
def AirPort.freeHandle (a : AirPort) : Nat → Byte → Byte
  | 0, h => h
  | k + 1, h => if a.inUse h then a.freeHandle k (h + 1) else h

/-- The handle the next admitted frame receives (R6). -/
def AirPort.chosenHandle (a : AirPort) : Byte :=
  a.freeHandle 256 a.nextHandle

/-- A frame joins the tail of the downlink queue with the next free handle (R5, R6 step 3). -/
def AirPort.enqueue (a : AirPort) (zone : Byte) (owner : Option ContextNo) (body : DownBody) : AirPort :=
  { a with queue := a.queue ++ [{ zone, handle := a.chosenHandle, owner, body }]
           nextHandle := a.chosenHandle + 1 }

/-! ### Quotas (R5, R8, R9) -/

/-- A passthrough frame. -/
def DownBody.isPassthrough : DownBody → Bool
  | .passthrough _ => true
  | .step _ | .close _ _ => false

/-- A CLOSE or passthrough frame: what the shared quota counts. -/
def DownBody.isShared : DownBody → Bool
  | .passthrough _ | .close _ _ => true
  | .step _ => false

/-- The queued entries that are CLOSE or passthrough frames. -/
def AirPort.sharedCount (a : AirPort) : Nat :=
  a.queue.countP fun e => e.body.isShared

/-- The queued entries that are passthrough frames. -/
def AirPort.passthroughCount (a : AirPort) : Nat :=
  a.queue.countP fun e => e.body.isPassthrough

/-- A zone number as the zone byte of a downlink frame. -/
def zoneByte (z : ZoneNo) : Byte :=
  BitVec.ofNat 8 z.val

/-- Offer a step frame of a context: always admitted, with the context as owner (R7). -/
def State.offerStep (s : State) (c : ContextNo) (zone : ZoneNo) (f : StepFrame) : State :=
  { s with air := s.air.enqueue (zoneByte zone) (some c) (.step f) }

/-- Offer a CLOSE: admitted under the shared quota, else CLOSE-DROP (R8). -/
def State.offerClose (s : State) (zone : ZoneNo) (tagNumber : TagNumber) (ok : Bool) : State :=
  if s.air.sharedCount < 8 then
    { s with air := s.air.enqueue (zoneByte zone) none (.close tagNumber ok) }
  else s.raise .closeDrop

/-- A DOWN-PASSTHROUGH payload can be admitted: both quotas have room, it names a zone from 0 to 7 and its
body is at most 96 bytes (R9). -/
def AirPort.passthroughFits (a : AirPort) (p : List Byte) : Bool :=
  decide (a.passthroughCount < 4) && decide (a.sharedCount < 8) &&
    decide (1 ≤ p.length) && decide (p.length ≤ 97) && decide ((byteAt p 0).toNat < 8)

/-- Offer a downlink passthrough: admitted, or dropped with PASSTHROUGH-DROP (R9, R159). -/
def State.offerPassthrough (s : State) (p : List Byte) : State :=
  if s.air.passthroughFits p then
    { s with air := s.air.enqueue (byteAt p 0) none (.passthrough (p.drop 1)) }
  else s.raise .passthroughDrop

/-! ### Sending, withdrawal and confirmation (sections 1.5 and 1.6) -/

/-- The four conditions under which a send starts (R10). -/
def AirPort.canSend (a : AirPort) : Bool :=
  !a.queue.isEmpty && a.tx.isNone && decide (0 < a.credit) && decide (a.confirm.length < 16)

/-- Start the send of the head frame (R10). -/
def AirPort.startSend (a : AirPort) : AirPort :=
  match a.queue with
  | [] => a
  | e :: rest =>
    { a with queue := rest, credit := a.credit - 1
             tx := some { entry := e, withdrawn := false, wire := e.wire } }

/-- Frame-out at a lane time: the frame enters the confirmation list with a deadline 50 ticks later (R11). -/
def AirPort.frameOut (a : AirPort) (t : Tick) : AirPort :=
  match a.tx with
  | none => a
  | some x =>
    { a with tx := none
             confirm := a.confirm ++
               [{ handle := x.entry.handle, owner := x.entry.owner, deadline := t + 50, withdrawn := x.withdrawn }] }

/-- The owner o is context c. -/
def ownedBy (c : ContextNo) (o : Option ContextNo) : Bool :=
  o == some c

/-- The withdrawal of a context's frames (R15): queued entries go, the frame in transmission loses its owner
and is marked withdrawn, confirmation entries lose their owner. -/
def AirPort.withdraw (a : AirPort) (c : ContextNo) : AirPort :=
  { a with
    queue := a.queue.filter fun e => !ownedBy c e.owner
    tx := a.tx.map fun t =>
      if ownedBy c t.entry.owner then { t with entry := { t.entry with owner := none }, withdrawn := true } else t
    confirm := a.confirm.map fun e => if ownedBy c e.owner then { e with owner := none } else e }

/-- A context withdraws everything it owns at the air port (R15). -/
def State.withdrawFrames (s : State) (c : ContextNo) : State :=
  { s with air := s.air.withdraw c }

/-- The confirmation entry with a handle. -/
def AirPort.awaiting (a : AirPort) (h : Byte) : Option ConfirmEntry :=
  a.confirm.find? fun e => e.handle == h

/-- Remove a confirmation entry; its handle is free (R12, R13, R14). -/
def State.removeConfirm (s : State) (e : ConfirmEntry) : State :=
  { s with air := { s.air with confirm := s.air.confirm.erase e } }

/-- A CREDIT n (R4). -/
def AirPort.addCredit (a : AirPort) (n : Nat) : AirPort :=
  { a with credit := min 16 (a.credit + n) }

/-- What a wipe does at the air port outside HOLD (R17). -/
def AirPort.wiped (a : AirPort) : AirPort :=
  { a with
    queue := a.queue.filter fun e => e.body.isPassthrough
    tx := a.tx.filter fun t => t.entry.body.isPassthrough
    confirm := a.confirm.map fun e => { e with owner := none } }

/-! ### Uplink (R1, R2, R3, R161) -/

/-- Forward an uplink frame whole: admitted to the report queue below a fill of 56, else PASSTHROUGH-DROP
(R2, R161). -/
def State.forward (s : State) (kind : Byte) (payload : List Byte) : State :=
  if s.lane.reports.length < 56 then
    { s with lane := { s.lane with reports := s.lane.reports ++ [.upPassthrough kind payload] } }
  else s.raise .passthroughDrop

/-- A tag frame kind: HELLO, DATA, COMMIT or OTHER (R1). -/
def isTagKind (kind : Byte) : Bool :=
  kind != 0x10#8 && kind != 0x11#8 && kind != 0x12#8

/-- The arrival of an uplink frame (R1, R2): nothing while the ports are not live; a failing frame is
dropped with AIR-CRC, but a failing tag frame in INIT without it; a tag frame in INIT is dropped; any other
is acted on. -/
def State.uplink (s : State) (kind : Byte) (f : PortFrame) (act : State → State) : State :=
  if !s.live then s
  else if isTagKind kind && s.device == .init then s
  else if airFrameGood kind f then act s
  else s.raise .airCrc

end Sys2Proof.Machine
end

