-- ==== Sys2Proof/Machine/Engines.lean ====
section
/-! DEFINITION. The job queue, the four engines, the arbiter, and the issue of jobs and of scrubs
(chapter 7; section 5.6). -/

namespace Sys2Proof.Machine

/-! ### Engines (R129, R130, R132) -/

/-- The engine is idle (R129). -/
def Engine.isIdle (x : Engine) : Bool :=
  match x.state with
  | .closedIdle | .openIdle _ _ => true
  | .opening _ _ | .busy _ _ => false

/-- The engine is CLOSED-IDLE. -/
def Engine.isClosed (x : Engine) : Bool :=
  match x.state with
  | .closedIdle => true
  | .openIdle _ _ | .opening _ _ | .busy _ _ => false

/-- The key an engine holds: open and idle, being opened, or under a running job (R129). -/
def Engine.key? (x : Engine) : Option KeyId :=
  match x.state with
  | .closedIdle => none
  | .openIdle k _ => some k
  | .opening _ j | .busy _ j => some j.key

/-- The engine is OPEN-IDLE under a key. -/
def Engine.openIdleUnder (x : Engine) (k : KeyId) : Bool :=
  x.isIdle && x.key? == some k

/-- The job an engine is opening for or running. -/
def Engine.job? (x : Engine) : Option Job :=
  match x.state with
  | .closedIdle | .openIdle _ _ => none
  | .opening _ j | .busy _ j => some j

/-- Some engine holds slot n's key (R119, R129). -/
def State.slotHeld (s : State) (n : SlotNo) : Bool :=
  allEngines.any fun e => (s.engine e).key? == some (.slot n)

/-- A candidate key: it does not stay in any engine after its job (R126, R132). -/
def KeyId.isCandidate : KeyId → Bool
  | .loadCandidate | .rootCandidate => true
  | .slot _ | .tk _ | .sk _ => false

/-- A key of context c. -/
def KeyId.ofContext (c : ContextNo) (k : KeyId) : Bool :=
  k == .tk c || k == .sk c

/-- The material an opening copies (R126, R130). -/
def State.material (s : State) (j : Job) : Option Key :=
  match j.key with
  | .slot n => (s.slot n).material
  | .tk c => (s.context c).bind Context.tagKey
  | .sk c => (s.context c).bind Context.sessionKey
  | .loadCandidate => s.mgmt.candidate
  | .rootCandidate =>
    match j.extra with
    | [a, b] => some (a ^^^ b)
    | _ => none

/-- The result of a job under a key (R70): the final chain value over its input blocks, combined with the
wrapped key for an UNWRAP (R71). A key not held gives none (R62, log 22). -/
def Job.output (j : Job) (register : Option Key) : Option Block :=
  register.map fun k =>
    match j.kind with
    | .unwrap => j.extra.headD 0 ^^^ chain k j.input
    | .derive | .session | .ra | .ta | .wa | .ca | .recordCompute | .recordVerify | .kcv | .combine | .scrub =>
      chain k j.input

/-- The owner is told that its job has started (R130): a context's current job becomes running (R38), the
outstanding scrub becomes running (R97). -/
def State.jobStarted (s : State) (j : Job) : State :=
  match j.owner with
  | .context c => s.modContext c fun x => { x with currentJob := .running j.kind }
  | .scrub => s.setOutstanding (s.keys.outstanding.map fun o => { o with running := true })
  | .management => s

/-- Give a job to an idle engine (R130): BUSY at once under its own key, else the other key is closed and
the opening begins with the material as it stands. -/
def State.dispatch (s : State) (e : EngineNo) (j : Job) : State :=
  let next : EngineState :=
    match (s.engine e).state with
    | .openIdle k register => if k = j.key then .busy register j else .opening (s.material j) j
    | .closedIdle | .opening _ _ | .busy _ _ => .opening (s.material j) j
  (s.setEngine e { state := next, closeAtEnd := false, loss := false }).jobStarted j

/-- Move an engine to the most recent end of the last-use order (R129). -/
def State.touchEngine (s : State) (e : EngineNo) : State :=
  { s with cipher := { s.cipher with lastUse := s.cipher.lastUse.filter (· != e) ++ [e] } }

/-- The engine's part of a job's end (R132 steps 2 and 3, R131): a key marked close at end, a candidate key
and a key whose opening was lost are closed, any other stays open; both marks are cleared and the engine
becomes most recently used. -/
def State.engineEnd (s : State) (e : EngineNo) : State :=
  let x := s.engine e
  let next : EngineState :=
    match x.state with
    | .busy register j => if x.closeAtEnd || j.key.isCandidate then .closedIdle else .openIdle j.key register
    | .closedIdle | .openIdle _ _ | .opening _ _ => .closedIdle
  (s.setEngine e { state := next, closeAtEnd := false, loss := false }).touchEngine e

/-! ### Arrival (R127, R135) -/

/-- The idle engine an arriving job is given to (R135): one with its key open, lowest first; else a
CLOSED-IDLE one, lowest first; else the least recently used OPEN-IDLE one. -/
def State.idleEngineFor (s : State) (j : Job) : Option EngineNo :=
  allEngines.find? (fun e => (s.engine e).openIdleUnder j.key) <|>
    allEngines.find? (fun e => (s.engine e).isClosed) <|>
    s.cipher.lastUse.find? (fun e => (s.engine e).isIdle)

/-- A job arrives: dispatched at once to an idle engine, else it waits at the tail of the queue (R135). -/
def State.arrive (s : State) (j : Job) : State :=
  match s.idleEngineFor j with
  | some e => s.dispatch e j
  | none => s.setJobs (s.cipher.queue ++ [j])

/-! ### Scrubs (R97 to R99) -/

/-- A SCRUB job (R100): one block over sixteen zero bytes under the slot's material. -/
def scrubJob (n : SlotNo) (forced : Bool) : Job :=
  { kind := .scrub, owner := .scrub, key := .slot n, input := [0], extra := [], blocks := 1, bypass := 0,
    forced, discard := false }

/-- Issue a scrub of a slot: it becomes the outstanding scrub and its job arrives (R97, R99). -/
def State.issueScrub (s : State) (n : SlotNo) (forced : Bool) : State :=
  (s.setOutstanding (some { slot := n, forced, running := false })).arrive (scrubJob n forced)

/-- The overdue slot whose last-check tick has the greatest age, the lowest number among equals (R99). -/
def State.mostOverdue (s : State) : Option SlotNo :=
  (allSlots.filter s.overdue).foldl (fun best n =>
    match best with
    | none => some n
    | some b =>
      if age (s.slot b).lastCheck s.clock.laneTime < age (s.slot n).lastCheck s.clock.laneTime then some n
      else some b) none

/-- The first slot holding material from the scrub pointer upward, wrapping from 127 to 0 (R99). -/
def State.nextScrubSlot (s : State) : Option SlotNo :=
  (allSlots.map (s.keys.scrubPointer + ·)).find? fun n => (s.slot n).holdsMaterial

/-- A job owned by a context. -/
def Job.ofContext (j : Job) : Bool :=
  match j.owner with
  | .context _ => true
  | .management | .scrub => false

/-- The key store's test whether to issue a scrub (R99): in MAINTENANCE and SERVICE with none outstanding,
a forced one while a slot is overdue, else a background one while the queue holds no job of a context. -/
def State.scrubTest (s : State) : State :=
  if s.working && s.keys.outstanding.isNone then
    match s.mostOverdue with
    | some n => s.issueScrub n true
    | none =>
      if s.cipher.queue.any Job.ofContext then s
      else
        match s.nextScrubSlot with
        | some n => { s with keys := { s.keys with scrubPointer := n + 1 } }.issueScrub n false
        | none => s
  else s

/-- A queued background scrub becomes forced (R98, R137): it keeps its place and its bypass count. -/
def State.forceScrub (s : State) : State :=
  match s.keys.outstanding with
  | some o =>
    if o.running then s
    else
      (s.setOutstanding (some { o with forced := true })).setJobs
        (s.cipher.queue.map fun j => if j.owner = .scrub then { j with forced := true } else j)
  | none => s

/-- A slot has become overdue (R98): a queued background scrub becomes forced, and a scrub may be issued. -/
def State.noteOverdue (s : State) : State :=
  if s.working && allSlots.any s.overdue then s.forceScrub.scrubTest else s

/-! ### The arbiter (R134, R136) -/

/-- A key open on an idle engine other than e (R134 test 4). -/
def State.openElsewhere (s : State) (e : EngineNo) (k : KeyId) : Bool :=
  allEngines.any fun e' => e' != e && (s.engine e').openIdleUnder k

/-- The place in the queue of the job the arbiter chooses for an idle engine (R134): a forced scrub, the
oldest job at the bypass limit, the oldest job under the engine's open key, the oldest job whose key is not
open on another idle engine. -/
def State.choice (s : State) (e : EngineNo) : Option Nat :=
  let q := s.cipher.queue
  q.findIdx? (fun j => j.kind == .scrub && j.forced) <|>
    q.findIdx? (fun j => j.bypass == 4) <|>
    q.findIdx? (fun j => (s.engine e).openIdleUnder j.key) <|>
    q.findIdx? (fun j => !s.openElsewhere e j.key)

/-- A job passed over by a dispatch (R136). -/
def Job.passedOver (j : Job) : Job :=
  { j with bypass := min 4 (j.bypass + 1) }

/-- After a job owned by a context has left the queue, the key store tests for a scrub (R99, R127). -/
def State.afterLeaving (s : State) (j : Job) : State :=
  if j.ofContext then s.scrubTest else s

/-- The arbiter chooses a job for an engine that has become idle and dispatches it (R134, R136). -/
def State.arbitrate (s : State) (e : EngineNo) : State :=
  match s.choice e with
  | none => s
  | some i =>
    match s.cipher.queue[i]? with
    | none => s
    | some j =>
      ((s.setJobs ((s.cipher.queue.take i).map Job.passedOver ++ s.cipher.queue.drop (i + 1))).dispatch e j).afterLeaving j

/-! ### Jobs of contexts and of the management unit (R38, R70, R127) -/

/-- A job as it is issued: bypass count 0, no mark (R125). -/
def freshJob (kind : JobKind) (owner : JobOwner) (key : KeyId) (input : List Block) (extra : List Block := []) :
    Job :=
  { kind, owner, key, input, extra, blocks := input.length, bypass := 0, forced := false, discard := false }

/-- A context issues a job (R38, R127). When it is dispatched at its arrival, it has left the queue and the
key store tests for a scrub (R99). -/
def State.issueFor (s : State) (c : ContextNo) (kind : JobKind) (key : KeyId) (input : List Block) : State :=
  let j := freshJob kind (.context c) key input
  let s' := s.modContext c fun x => { x with currentJob := .queued kind }
  match s'.idleEngineFor j with
  | some e => (s'.dispatch e j).scrubTest
  | none => s'.setJobs (s'.cipher.queue ++ [j])

/-- A context's queued job is removed from the queue and its current job becomes none (R38, R128). -/
def State.dropQueuedJob (s : State) (c : ContextNo) : State :=
  ((s.setJobs (s.cipher.queue.filter fun j => j.owner != .context c)).modContext c
    fun x => { x with currentJob := .idle }).scrubTest

/-! ### Closing keys (R138, R139) -/

/-- What an engine does when context c is released (R139). An engine that is ending that context's job
closes its key at the end of the job (log 14). -/
def Engine.atRelease (c : ContextNo) (x : Engine) : Engine :=
  match x.state with
  | .openIdle k _ => if k.ofContext c then Engine.closed else x
  | .opening _ j | .busy _ j => if j.key.ofContext c then { x with closeAtEnd := true } else x
  | .closedIdle => x

/-- Every engine acts on the same notice. -/
def State.tellEngines (s : State) (f : Engine → Engine) : State :=
  { s with cipher := { s.cipher with engines := tableMap (fun _ x => f x) s.cipher.engines } }

/-- What an engine does at a withdrawal of slot n by expiry (R138). -/
def Engine.atExpiry (n : SlotNo) (x : Engine) : Engine :=
  match x.state with
  | .openIdle k _ => if k = .slot n then Engine.closed else x
  | .opening _ j | .busy _ j => if j.key = .slot n then { x with closeAtEnd := true } else x
  | .closedIdle => x

/-- What an engine does at a withdrawal of slot n by loss (R138). -/
def Engine.atLoss (n : SlotNo) (x : Engine) : Engine :=
  match x.state with
  | .openIdle k _ => if k = .slot n then Engine.closed else x
  | .opening _ j => if j.key = .slot n then { x with loss := true } else x
  | .busy r j =>
    if j.key = .slot n then { x with state := .busy r { j with discard := true }, closeAtEnd := true } else x
  | .closedIdle => x

end Sys2Proof.Machine
end

