-- ==== Sys2Proof/Machine/Passes.lean ====
section
/-! DEFINITION. The pass context table and the two tables it consults: reports and release, the end of a
pass, retries, the record check and composition (chapters 2, 3 and 8). -/

namespace Sys2Proof.Machine

/-! ### The recent-pass table (R152 to R155) -/

/-- A recent-pass entry is aged (R152). -/
def State.agedEntry (s : State) (x : RecentEntry) : Bool :=
  decide (ticksOfSeconds s.profile.repeatWindow ≤ age x.tick s.clock.laneTime)

/-- The head removal: the head goes while it is aged (R152). -/
def State.ageRecent (s : State) : State :=
  { s with recent := s.recent.dropWhile s.agedEntry }

/-- The verdict of the recent-pass table (R74). -/
inductive Verdict where
  | repeated
  | replay
  | fresh (followsUncertain : Bool)
  deriving DecidableEq, Repr

/-- The verdict on a counter against the entry found (R74, R153). -/
def verdictOf (found : Option RecentEntry) (h : Counter) : Verdict :=
  match found with
  | none => .fresh false
  | some x =>
    let d := counterDistance h x.expected
    if 2 ^ 23 ≤ d then .replay
    else if x.uncertain then .fresh (decide (d ≤ 1))
    else if d = 0 then .repeated
    else .fresh false

/-- The entry of a tag. -/
def RecentEntry.isFor (issuer : Issuer) (tagNumber : TagNumber) (x : RecentEntry) : Bool :=
  x.issuer == issuer && x.tagNumber == tagNumber

/-- Insertion (R155): aged heads go, the same tag's entry goes, a full table loses its head, and the new
entry joins the tail. -/
def State.insertRecent (s : State) (x : RecentEntry) : State :=
  let kept := (s.ageRecent.recent).eraseP (RecentEntry.isFor x.issuer x.tagNumber)
  { s with recent := (if kept.length = 256 then kept.drop 1 else kept) ++ [x] }

/-! ### The derived-key cache (R143 to R148) -/

/-- The entry has the key (issuer, generation, tag number). -/
def CacheEntry.isFor (issuer : Issuer) (g : Generation) (tagNumber : TagNumber) (x : CacheEntry) : Bool :=
  x.issuer == issuer && x.generation == g && x.tagNumber == tagNumber

/-- A hit moves the entry to the most recent end (R145). -/
def State.cacheHit (s : State) (x : CacheEntry) : State :=
  { s with cache := x :: s.cache.filter fun y => !CacheEntry.isFor x.issuer x.generation x.tagNumber y }

/-- A taken offer (R147): replace, add, or push the least recently used entry out of a full cache. -/
def State.cacheFill (s : State) (x : CacheEntry) : State :=
  let others := s.cache.filter fun y => !CacheEntry.isFor x.issuer x.generation x.tagNumber y
  { s with cache := x :: (if others.length = 64 then others.dropLast else others) }

/-- An offer (R146): taken while the bound master slot is ACTIVE or RETIRING with no erase pending. -/
def State.cacheOffer (s : State) (bound : Option SlotNo) (x : CacheEntry) : State :=
  match bound with
  | some n => if (s.slot n).serves then s.cacheFill x else s
  | none => s

/-! ### Reports and release (R57 to R60) -/

/-- The results whose report carries the trip record written (R59): COMPLETE after a write, and
WRITE-UNCERTAIN and COMMIT-AUTH-FAIL. A VERIFY context holds no trip record. -/
def PassResult.reportsRecord : PassResult → Bool
  | .complete | .writeUncertain | .commitAuthFail => true
  | .completeNoWrite | .tagAuthFail | .noReply | .abandoned | .noKey | .replay | .keyWithdrawn => false

/-- The report of a context as it stands (R59, R60). -/
def Context.report (x : Context) (r : PassResult) : PassReport :=
  { homeZone := x.homeZone, zoneList := x.zoneList, openTick := x.openTick,
    doneTick := x.doneTick.getD 0, issuer := x.issuer, tagNumber := x.tagNumber,
    generation := x.generation, counter := x.counter, result := r, flags := x.flags,
    multiZone := decide (1 < x.zoneList.length),
    records := x.recordsRead.map fun l => (x.requestedSet, l),
    tripRecord := if r.reportsRecord then x.tripRecord else none,
    recordCheck := x.recordCheck }

/-- The context's job is running: the job-running mark (R38). -/
def Context.jobRunning (x : Context) : Bool :=
  match x.currentJob with
  | .running _ => true
  | .idle | .queued _ => false

/-- What release does (R57): the report joins the report queue, the context leaves its open list, withdraws
what it owns at the air port, has its keys closed, and becomes FREE. -/
def State.release (s : State) (c : ContextNo) (x : Context) : State :=
  let s := { s with lane := { s.lane with
              reports := s.lane.reports ++ [ReportItem.report (x.report (x.result.getD .abandoned))] } }
  let s := s.setOpenList x.homeZone ((s.openList x.homeZone).erase c)
  ((s.withdrawFrames c).tellEngines (Engine.atRelease c)).setContext c none

/-- A head whose release finds the report queue full joins the stalled list, once, with REPORT-STALL (R58). -/
def State.stall (s : State) (c : ContextNo) : State :=
  if s.passes.stalled.contains c then s
  else
    { s with passes := { s.passes with stalled := s.passes.stalled ++ [c] } }.raise .reportStall

/-- Attempt a release for the head of a zone's open list, and again for each new head, at most k times
(R57). -/
def State.releaseHeads : Nat → ZoneNo → State → State
  | 0, _, s => s
  | k + 1, z, s =>
    match s.openList z with
    | [] => s
    | c :: _ =>
      match s.context c with
      | none => s
      | some x =>
        if x.state = .done ∧ x.jobRunning = false then
          if s.lane.reports.length < 64 then State.releaseHeads k z (s.release c x) else s.stall c
        else s

/-- A release is attempted in a zone (R57). -/
def State.attemptRelease (s : State) (z : ZoneNo) : State :=
  s.releaseHeads (s.openList z).length z

/-! ### The end of a pass (R53) -/

/-- The CLOSE outcome of a result: true is OK (R53). -/
def PassResult.closesOk : PassResult → Bool
  | .complete | .completeNoWrite => true
  | .writeUncertain | .commitAuthFail | .tagAuthFail | .noReply | .abandoned | .noKey | .replay
  | .keyWithdrawn => false

/-- The expected counter and uncertain mark of the recent-pass entry a result hands over; none where it
hands over none (R53). -/
def Context.recentEntry (x : Context) (r : PassResult) (t : Tick) : Option RecentEntry :=
  let entry (n : Counter) (u : Bool) : RecentEntry :=
    { issuer := x.issuer, tagNumber := x.tagNumber, expected := n, uncertain := u, tick := t }
  match r with
  | .complete => some (entry (if x.profile.function = .verify then x.counter else x.counter + 1) false)
  | .completeNoWrite => some (entry x.counter false)
  | .writeUncertain | .commitAuthFail => some (entry x.counter true)
  | .tagAuthFail | .noReply | .abandoned | .noKey | .replay | .keyWithdrawn => none

/-- Hand a result's entry to the recent-pass table (R53 step 4). -/
def State.handRecent (s : State) (x : Context) (r : PassResult) : State :=
  match x.recentEntry r s.clock.laneTime with
  | some y => s.insertRecent y
  | none => s

/-- The context's job is queued. -/
def Context.jobQueued (x : Context) : Bool :=
  match x.currentJob with
  | .queued _ => true
  | .idle | .running _ => false

/-- The end of a pass (R53): result and done tick, withdrawal, a queued job removed, CLOSE and recent-pass
entry, DONE, and a release attempted. -/
def State.endPass (s : State) (c : ContextNo) (r : PassResult) : State :=
  match s.context c with
  | none => s
  | some x =>
    let s := (s.setContext c (some { x with
      result := some r, doneTick := some s.clock.laneTime, stepFrame := none, stepDeadline := none })).withdrawFrames c
    let s := if x.jobQueued then s.dropQueuedJob c else s
    let s := (s.offerClose x.servingZone x.tagNumber r.closesOk).handRecent x r
    (s.modContext c fun y => { y with state := .done }).attemptRelease x.homeZone

/-! ### Step frames and retries (R43 to R46, R50) -/

/-- Queue a copy of a context's step frame toward its serving zone (R45). -/
def State.queueStep (s : State) (c : ContextNo) : State :=
  match s.context c with
  | some x =>
    match x.stepFrame with
    | some f => s.offerStep c x.servingZone f
    | none => s
  | none => s

/-- The result of exhausted retries in a context's state (section 3.6). -/
def PassState.exhausted : PassState → PassResult
  | .writing | .confirming => .writeUncertain
  | .keying | .challenging | .checking | .done => .noReply

/-- A failure or a step-deadline expiry: a copy while retries remain, else the end of the pass (R45, R46). -/
def State.retryOrEnd (s : State) (c : ContextNo) : State :=
  match s.context c with
  | none => s
  | some x =>
    if 0 < x.retriesLeft then
      (s.setContext c (some { x with retriesLeft := x.retriesLeft - 1, stepDeadline := none })).queueStep c
    else s.endPass c x.state.exhausted

/-- The owner of a removed confirmation entry receives a SEND-FAILED for its step frame (R13, R14, R45). -/
def State.reportFailed (s : State) (o : Option ContextNo) : State :=
  match o with
  | none => s
  | some c =>
    match s.context c with
    | some x => if x.stepFrame.isSome then s.retryOrEnd c else s
    | none => s

/-- A step deadline has expired (R46, R76): the deadline is removed, and a copy queued or the pass ended. -/
def State.expireStep (s : State) (c : ContextNo) : State :=
  match (s.context c).bind Context.stepDeadline with
  | some d =>
    if expired d s.clock.laneTime then (s.modContext c fun x => { x with stepDeadline := none }).retryOrEnd c
    else s
  | none => s

/-- The step deadline of a context whose step frame left the antenna at a tick (R44, R75). -/
def Context.deadlineAfter (x : Context) (sentTick : Tick) : Tick :=
  sentTick + BitVec.ofNat 32 x.profile.replyTimeout

/-- The owner receives a SENT with its tick: the step deadline is set (R12, R44). A deadline that has expired
already when it is set expires at once: its expiry is the owner's next event after the setting, and is taken in the
same step (R76, log 32). -/
def State.reportSent (s : State) (o : Option ContextNo) (sentTick : Tick) : State :=
  match o with
  | none => s
  | some c =>
    match s.context c with
    | some x =>
      if x.stepFrame.isSome then
        (s.setContext c (some { x with stepDeadline := some (x.deadlineAfter sentTick) })).expireStep c
      else s
    | none => s

/-- Enter CHALLENGING or WRITING with a new step frame: retries renewed, no step deadline, the first copy
queued (R43, R50). -/
def State.standBehind (s : State) (c : ContextNo) (x : Context) (st : PassState) (f : StepFrame) : State :=
  (s.setContext c (some { x with
    state := st, stepFrame := some f, retriesLeft := x.profile.retries, stepDeadline := none })).queueStep c

/-! ### Taking an uplink frame (R37) -/

/-- The zone list after a frame heard in a zone (R37). -/
def hearZone (l : List ZoneHeard) (z : ZoneNo) (rssi : Byte) : List ZoneHeard :=
  if l.any (fun y => y.zone == z) then
    l.map fun y => if y.zone = z ∧ y.rssi < rssi then { y with rssi } else y
  else l ++ [{ zone := z, rssi }]

/-- The context after taking a frame heard in a zone (R37). -/
def Context.hear (x : Context) (z : ZoneNo) (rssi : Byte) : Context :=
  { x with zoneList := hearZone x.zoneList z rssi, servingZone := z }

/-! ### The record check and the write (R29 to R33, R49) -/

/-- The numbers of a record set, ascending (R67). -/
def setNumbers (set : RecordSet) : List Nat :=
  [0, 1, 2, 3].filter fun r => set.getLsbD r

/-- The number of records in a set (R26). -/
def setSize (set : RecordSet) : Nat :=
  (setNumbers set).length

/-- Record r as the tag returned it, where it was requested. -/
def Context.recordRead (x : Context) (r : Nat) : Option Block :=
  ((setNumbers x.requestedSet).zip (x.recordsRead.getD [])).lookup r

/-- End a pass COMPLETE-NO-WRITE with NO-WRITE-KEY; a record already computed is discarded (R30, R31). -/
def State.endNoWrite (s : State) (c : ContextNo) : State :=
  (s.modContext c fun x =>
    { x with flags := { x.flags with noWriteKey := true }, tripRecord := none }).endPass c .completeNoWrite

/-- Composition (R29, R30): the record under the record write generation and its record-code compute job, or
the end of the pass with NO-WRITE-KEY. -/
def State.compose (s : State) (c : ContextNo) : State :=
  match s.context c with
  | none => s
  | some x =>
    match s.keys.writeGen with
    | none => s.endNoWrite c
    | some g =>
      match s.findSlot .record 0 g with
      | none => s.endNoWrite c
      | some n =>
        let record := composeRecord x.profile s.clock.minute (blockByte ((x.recordRead 0).getD 0) 0) g
        (s.setContext c (some { x with tripRecord := some record })).issueFor c .recordCompute (.slot n)
          (paddedBlocks (recordCodeMessage x.tagNumber record))

/-- After the record check (R49 steps 2 and 3): a VERIFY pass ends COMPLETE, any other reaches
composition. -/
def State.afterCheck (s : State) (c : ContextNo) : State :=
  match s.context c with
  | none => s
  | some x => if x.profile.function = .verify then s.endPass c .complete else s.compose c

/-- The flags with the flag of a record check outcome set (section 2.6, R60). -/
def PassFlags.withCheck (f : PassFlags) : RecordCheck → PassFlags
  | .valid => f
  | .noEntryRecord => { f with noEntryRecord := true }
  | .recordKeyUnavailable => { f with recordKeyUnavailable := true }
  | .recordInvalid => { f with recordInvalid := true }

/-- The record check settles on an outcome, and the context goes on (R32, R33, R49). -/
def State.settleCheck (s : State) (c : ContextNo) (o : RecordCheck) : State :=
  (s.modContext c fun x => { x with recordCheck := some o, flags := x.flags.withCheck o }).afterCheck c

/-- The RECORD slot that can serve the generation byte of a record as read (R32 test 3, R90). -/
def State.checkSlot (s : State) (generation : Byte) : Option SlotNo :=
  if generation.toNat < 16 then
    (s.findSlot .record 0 (generation.setWidth 4)).filter fun n => (s.slot n).serves
  else none

/-- The record check of a pass whose TA has verified (R32): record 1 not requested, not an ENTRY record, no
slot to serve it, or a verify job over the record as read. -/
def State.recordCheck (s : State) (c : ContextNo) (x : Context) : State :=
  match x.recordRead 1 with
  | none => s.settleCheck c .noEntryRecord
  | some record =>
    if blockByte record 9 ≠ 1 then s.settleCheck c .noEntryRecord
    else
      match s.checkSlot (blockByte record 8) with
      | none => s.settleCheck c .recordKeyUnavailable
      | some n => s.issueFor c .recordVerify (.slot n) (paddedBlocks (recordCodeMessage x.tagNumber record))

/-- The pass checks record 1: an EXIT pass, or a VERIFY pass that requested it (R32, R49 step 1). -/
def Context.checksRecord (x : Context) : Bool :=
  x.profile.function == .exit || (x.profile.function == .verify && x.requestedSet.getLsbD 1)

/-- After a TA has verified (R48, R49): the records held become the records read, and the step goes on. -/
def State.taVerified (s : State) (c : ContextNo) (x : Context) : State :=
  let x := { x with recordsRead := x.held.map Prod.fst, held := none }
  let s := s.setContext c (some x)
  if x.checksRecord then s.recordCheck c x else s.afterCheck c

/-! ### Opening a context (R36, R41, R42) -/

/-- The requested record set of a pass (R26). -/
def requestedSet (p : ZoneProfile) (available : Nat) : RecordSet :=
  let start := if p.function = .exit then p.recordSet ||| 2#4 else p.recordSet
  (start &&& BitVec.ofNat 4 (2 ^ available - 1)) ||| 1#4

/-- The record of a context as every open fills it (R36). -/
def State.opened (s : State) (h : Hello) (st : PassState) (flags : PassFlags) : Context :=
  let p := s.zone h.zone
  { state := st, issuer := h.issuer, tagNumber := h.tagNumber, generation := h.generation,
    homeZone := h.zone, zoneList := [{ zone := h.zone, rssi := h.rssi }], servingZone := h.zone,
    tagNonce := h.tagNonce, counter := h.counter, readerNonce := none, requestedSet := 0, boundSlot := none,
    tagKey := none, sessionKey := none, profile := p, openTick := s.clock.laneTime,
    lifetime := s.clock.laneTime + BitVec.ofNat 32 s.profile.passLimit, stepFrame := none,
    retriesLeft := p.retries, stepDeadline := none, currentJob := .idle, held := none, heldCa := none,
    recordsRead := none, tripRecord := none, recordCheck := none, result := none, flags,
    doneTick := none }

/-- A FREE context takes a record and joins the tail of its home zone's open list (R36). -/
def State.openContext (s : State) (c : ContextNo) (x : Context) : State :=
  (s.setContext c (some x)).setOpenList x.homeZone (s.openList x.homeZone ++ [c])

/-- Open straight into DONE with REPLAY or NO-KEY (R41): the done tick is the open tick; REPLAY is raised, or
a CLOSE FAIL is queued. -/
def State.openDone (s : State) (c : ContextNo) (h : Hello) (r : PassResult) (flags : PassFlags) : State :=
  let x := s.opened h .done flags
  let s := s.openContext c { x with result := some r, doneTick := some s.clock.laneTime }
  let s := if r = .replay then s.raise .replay else s.offerClose h.zone h.tagNumber false
  s.attemptRelease h.zone

/-- Issue the SESSION job of a context (R43): under its tag key, over the two nonces. -/
def State.issueSession (s : State) (c : ContextNo) : State :=
  match s.context c with
  | none => s
  | some x => s.issueFor c .session (.tk c) [nonceBlock x.tagNonce (x.readerNonce.getD 0)]

/-- Open into KEYING bound to a usable master slot (R42): requested set fixed, reader nonce drawn, cache
asked; SESSION on a hit, DERIVE on a miss. -/
def State.openKeying (s : State) (c : ContextNo) (h : Hello) (n : SlotNo) (flags : PassFlags) : State :=
  let x := { s.opened h .keying flags with
    boundSlot := some n, requestedSet := requestedSet (s.zone h.zone) h.available,
    readerNonce := some (Config.freeNonce s.randomDraws) }
  let s := { s with randomDraws := s.randomDraws + 1 }
  match s.cache.find? (CacheEntry.isFor h.issuer h.generation h.tagNumber) with
  | some k => ((s.cacheHit k).openContext c { x with tagKey := some k.tagKey }).issueSession c
  | none =>
    (s.openContext c x).issueFor c .derive (.slot n) [derivationBlock h.tagNumber h.issuer h.generation]

end Sys2Proof.Machine
end

