-- ==== Sys2Proof/Machine/Keys.lean ====
section
/-! DEFINITION. What the key store does of itself: withdrawal and its notifications, faults, erasure, the
calendar walk, the INIT check (chapter 5). -/

namespace Sys2Proof.Machine

/-! ### The end of a key load (R114) -/

/-- The load pending's slot returns to EMPTY, the candidate is cleared, and KEY-LOAD-B is answered (R106,
R114). -/
def State.failLoad (s : State) (status : Status) : State :=
  s.discardTwoPart.finish status

/-! ### Withdrawal (section 5.5) -/

/-- The record write generation becomes NONE where slot x is its RECORD slot (R91). -/
def State.clearWriteGenOf (s : State) (x : Slot) : State :=
  if x.role = some .record ∧ s.keys.writeGen = some x.generation then s.setWriteGen none else s

/-- The derived-key cache removes the entries of a withdrawn TAG-MASTER slot (R94, R148). -/
def State.dropCacheOf (s : State) (x : Slot) : State :=
  if x.role = some .tagMaster then
    { s with cache := s.cache.filter fun y => !(y.issuer == x.issuer && y.generation == x.generation) }
  else s

/-- The notifications of a withdrawal by expiry (R93): write generation, cache, engines. -/
def State.withdrawExpiry (s : State) (n : SlotNo) (x : Slot) : State :=
  ((s.clearWriteGenOf x).dropCacheOf x).tellEngines (Engine.atExpiry n)

/-- The owner of a queued job is told that the job has been removed (R95, R128): a record-code job's context
goes on under R31 or R33, a KEY-LOAD-B is refused with NO-ROOT (R114), the outstanding scrub becomes none
(R101). -/
def State.jobRemoved (s : State) (j : Job) : State :=
  match j.owner with
  | .scrub => (s.setOutstanding none).scrubTest
  | .management => s.failLoad .noRoot
  | .context c =>
    let s := (s.modContext c fun x => { x with currentJob := .idle }).scrubTest
    match j.kind with
    | .recordCompute => s.endNoWrite c
    | .recordVerify => s.settleCheck c .recordKeyUnavailable
    | .derive | .session | .ra | .ta | .wa | .ca | .unwrap | .kcv | .combine | .scrub => s

/-- The state is one in which the loss of the bound master slot ends the pass (R55). -/
def PassState.needsMaster : PassState → Bool
  | .keying | .challenging | .checking => true
  | .writing | .confirming | .done => false

/-- A context bound to a lost TAG-MASTER slot ends with KEY-WITHDRAWN (R55, R96). -/
def State.masterLost (s : State) (n : SlotNo) (c : ContextNo) : State :=
  match s.context c with
  | some x => if x.boundSlot = some n ∧ x.state.needsMaster then s.endPass c .keyWithdrawn else s
  | none => s

/-- A queued job names the slot. -/
def Job.names (n : SlotNo) (j : Job) : Bool :=
  j.key == .slot n

/-- The queued jobs that name a withdrawn slot leave the queue (R95, R128). -/
def State.removeJobs (s : State) (n : SlotNo) : State :=
  s.setJobs (s.cipher.queue.filter fun j => !j.names n)

/-- The notifications of a withdrawal by loss (R93): write generation, cache, engines, job queue, contexts.
The owners of removed jobs are told oldest job first, and the contexts bound to the slot are ended in
ascending order (log 12). -/
def State.withdrawLoss (s : State) (n : SlotNo) (x : Slot) : State :=
  let removed := s.cipher.queue.filter (Job.names n)
  let s := (((s.clearWriteGenOf x).dropCacheOf x).tellEngines (Engine.atLoss n)).removeJobs n
  let s := removed.foldl State.jobRemoved s
  if x.role = some .tagMaster then allContexts.foldl (fun s c => s.masterLost n c) s else s

/-- A slot whose check has failed becomes FAULTED (R102): material cleared, the rest kept, SCRUB-FAULT
raised, and a withdrawal by loss. SCRUB-FAULT is raised before any event of the passes that the withdrawal ends
(DESIGN CHOICE, log 33). -/
def State.faultSlot (s : State) (n : SlotNo) : State :=
  let x := s.slot n
  ((s.changeSlot n { x with state := .faulted, material := none }).raise .scrubFault).withdrawLoss n x

/-- An ERASE sets erase pending: a withdrawal by loss, and the key-change indicator is set (R88, R118). -/
def State.beginErase (s : State) (n : SlotNo) : State :=
  let x := s.slot n
  (s.changeSlot n { x with erasePending := true }).withdrawLoss n x

/-- An erase completes: the slot becomes EMPTY and the indicator is set (R119). -/
def State.emptySlot (s : State) (n : SlotNo) : State :=
  s.changeSlot n Slot.empty

/-! ### The calendar walk (R84 to R86) -/

/-- The walk expires the slot (R85). -/
def Slot.expiresAt (x : Slot) (m : Minute) : Bool :=
  (x.state == .staged || x.state == .active || x.state == .retiring) && !x.erasePending && x.reachedUntil m

/-- The walk activates the slot (R84). -/
def Slot.activatesAt (x : Slot) (m : Minute) : Bool :=
  x.state == .staged && x.autoActivate && !x.erasePending && x.insideWindow m && !x.reachedUntil m

/-- A slot expires (R85): EXPIRED, KEY-EXPIRED raised, and a withdrawal by expiry if it was ACTIVE or
RETIRING. -/
def State.expireSlot (s : State) (n : SlotNo) : State :=
  let x := s.slot n
  let s := s.changeSlot n { x with state := .expired }
  (if x.state = .staged then s else s.withdrawExpiry n x).raise .keyExpired

/-- The walk at one slot: R85 before R84 (R86). -/
def State.walkSlot (m : Minute) (s : State) (n : SlotNo) : State :=
  let x := s.slot n
  if x.expiresAt m then s.expireSlot n
  else if x.activatesAt m then s.changeSlot n { x with state := .active }
  else s

/-- The walk over slots 1 to 127 in ascending order (R86). -/
def State.walk (s : State) (m : Minute) : State :=
  (allSlots.drop 1).foldl (State.walkSlot m) s

/-! ### The INIT check and the entry to MAINTENANCE (R99, R103, R176) -/

/-- The entry to MAINTENANCE, where the key store tests for a scrub (R99). -/
def State.enterMaintenance (s : State) : State :=
  { s with device := .maintenance }.scrubTest

/-- The INIT check goes on with the head of its list, or is complete (R103). -/
def State.continueInitCheck (s : State) : State :=
  match s.keys.initCheck with
  | [] => s.enterMaintenance
  | n :: _ => s.issueScrub n true

/-- The key store judges a scrub's result (R100): a passing check renews the last-check tick, a mismatch
faults the slot, and a result for a slot that no longer holds its material is discarded. -/
def State.judgeScrub (s : State) (n : SlotNo) (out : Option Block) : State :=
  match out with
  | none => s
  | some r =>
    let x := s.slot n
    if x.holdsMaterial then
      if firstThree r = x.kcv then s.setSlot n { x with lastCheck := s.clock.laneTime } else s.faultSlot n
    else s

/-- A scrub has ended (R100, R103): none is outstanding, and the INIT check goes on or the key store tests for
the next scrub. -/
def State.afterScrub (s : State) : State :=
  let s := s.setOutstanding none
  if s.device = .init ∧ s.keys.initCheck ≠ [] then
    { s with keys := { s.keys with initCheck := s.keys.initCheck.drop 1 } }.continueInitCheck
  else s.scrubTest

end Sys2Proof.Machine
end

