-- ==== Sys2Proof/Machine/Deadlines.lean ====
section
/-! DEFINITION. The deadlines of passes, the ageing of the two clocks' records, the end of an erase and the
calendar's advance (R46, R54, R98, R119, R152, R185). Each event happens only where its condition holds
(log 1). -/

namespace Sys2Proof.Machine

/-- The result of a lifetime expiry (R54). -/
def PassState.outlived : PassState → PassResult
  | .writing | .confirming => .writeUncertain
  | .keying | .challenging | .checking | .done => .abandoned

/-- A lifetime deadline has expired (R54): the pass of a context not in DONE ends. -/
def State.expireLifetime (s : State) (c : ContextNo) : State :=
  match s.context c with
  | some x =>
    if x.state ≠ .done ∧ expired x.lifetime s.clock.laneTime = true then s.endPass c x.state.outlived else s
  | none => s

/-- The erase that holds the management unit, once no engine holds the key (R119). -/
def State.eraseDue (s : State) : Option SlotNo :=
  match s.mgmt.inHand with
  | some { work := .erase n, .. } => if s.slotHeld n then none else some n
  | _ => none

/-- The calendar advances (R185): one minute and a walk below 0xFFFFFFFF, nothing at 0xFFFFFFFF. -/
def State.advanceCalendar (s : State) : State :=
  let s := { s with clock := { s.clock with advanceDue := false } }
  if s.clock.minute = 0xFFFFFFFF#32 then s
  else
    let m := s.clock.minute + 1
    { s with clock := { s.clock with minute := m } }.walk m

/-! ### The meanings -/

/-- A step deadline expires (R46). -/
def execStepDeadlineExpiry (c : ContextNo) (s : State) : Host.Outcome State Fault Refusal :=
  .next (s.expireStep c)

/-- A lifetime deadline expires (R54). -/
def execLifetimeDeadlineExpiry (c : ContextNo) (s : State) : Host.Outcome State Fault Refusal :=
  .next (s.expireLifetime c)

/-- The head of the recent-pass table has aged (R152). -/
def execRecentPassAgeing (s : State) : Host.Outcome State Fault Refusal :=
  .next s.ageRecent

/-- A slot has become overdue (R98). -/
def execSlotOverdue (n : SlotNo) (s : State) : Host.Outcome State Fault Refusal :=
  .next (if s.overdue n then s.noteOverdue else s)

/-- The last engine that held an erased slot's key has released it (R119). -/
def execEraseCompletion (s : State) : Host.Outcome State Fault Refusal :=
  .next (match s.eraseDue with
    | some n => (s.emptySlot n).finish .ok [BitVec.ofNat 8 n.val]
    | none => s)

/-- The minute timer has passed 599,999 (R185). -/
def execCalendarAdvance (s : State) : Host.Outcome State Fault Refusal :=
  .next (if s.clock.advanceDue then s.advanceCalendar else s)

end Sys2Proof.Machine
end

