-- ==== Sys2Proof/Machine/LanePort.lean ====
section
/-! DEFINITION. The lane port: arriving frames, its sends, LRDY, and the downlink side of the air port that a
DOWN-PASSTHROUGH feeds (sections 9.1 to 9.3, 1.4 and 1.5). -/

namespace Sys2Proof.Machine

/-! ### Arriving frames (R158, R159, R160) -/

/-- A REQUEST joins the request queue (R160). -/
def State.queueRequest (s : State) (p : List Byte) : State :=
  { s with lane := { s.lane with
      requests := s.lane.requests ++ [{ tag := byteAt p 0, code := byteAt p 1, params := p.drop 2 }] } }

/-- An arrived REQUEST (R158 check 4, R160): no tag raises LANE-CRC; a wrong shape is answered BAD-FIELD; a full
request queue answers BUSY. A payload of one byte is answered with code 0x00 (R188). -/
def State.arriveRequest (s : State) (p : List Byte) : State :=
  if p.isEmpty then s.raise .laneCrc
  else if requestShapeGood p then
    if s.lane.requests.length < 4 then s.queueRequest p else s.portAnswer (byteAt p 0) (byteAt p 1) .busy
  else s.portAnswer (byteAt p 0) (byteAt p 1) .badField

/-- A frame received whole at the lane port (R158): nothing while the port is not live; the CRC and length
checks; then its class. -/
def State.laneFrame (s : State) (cls : Byte) (f : PortFrame) : State :=
  if !s.live then s
  else if laneFrameGood cls f then
    if cls = 0x11#8 then s.offerPassthrough f.payload
    else if cls = 0x12#8 then s.arriveRequest f.payload
    else s.raise .laneCrc
  else s.raise .laneCrc

/-! ### Sends (R163, R164) -/

/-- The conditions under which a lane send starts (R163); in HOLD the one entry is the HOLD response (R178). -/
def State.canSendLane (s : State) : Bool :=
  s.lines.lrdy && s.lane.tx.isNone && !s.heldInReset &&
    !(s.lane.responses.isEmpty && s.lane.reports.isEmpty)

/-- A held response enters the response queue (R164, R166). -/
def State.enterHeld (s : State) : State :=
  match s.mgmt.held with
  | none => s
  | some r =>
    { s with
      lane := { s.lane with responses := s.lane.responses ++ [.response r] }
      mgmt := { s.mgmt with held := none } }

/-- The report queue has given up an entry: the first stalled context is released into the place (R58,
R164). -/
def State.releaseStalled (s : State) : State :=
  match s.passes.stalled with
  | [] => s
  | c :: rest =>
    let s := { s with passes := { s.passes with stalled := rest } }
    match s.context c with
    | some x => s.attemptRelease x.homeZone
    | none => s

/-- The start of a lane send (R163, R164): the response queue goes before the report queue. -/
def State.startLaneSend (s : State) : State :=
  match s.lane.responses, s.lane.reports with
  | a :: rest, _ => { s with lane := { s.lane with responses := rest, tx := some a.wire } }.enterHeld
  | [], r :: rest => { s with lane := { s.lane with reports := rest, tx := some r.wire } }.releaseStalled
  | [], [] => s

/-! ### The meanings at the lane port -/

/-- DOWN-PASSTHROUGH (R158, R159, R9). -/
def execDownPassthrough (f : PortFrame) (s : State) : Host.Outcome State Fault Refusal :=
  .next (s.laneFrame 0x11#8 f)

/-- REQUEST (R158, R160). -/
def execRequest (f : PortFrame) (s : State) : Host.Outcome State Fault Refusal :=
  .next (s.laneFrame 0x12#8 f)

/-- A lane frame of an outgoing class, or of a class code that names none of the six (R158 check 3). A term
that spells an incoming class acts as the frame it spells (log 11). -/
def execLaneFrameOfOutgoingClass (cls : Byte) (f : PortFrame) (s : State) : Host.Outcome State Fault Refusal :=
  .next (s.laneFrame cls f)

/-- The start of a lane send (R163, R164). -/
def execLaneSendStart (s : State) : Host.Outcome State Fault Refusal :=
  .next (if s.canSendLane then s.startLaneSend else s)

/-- Frame-out at the lane port (section 9.3): the send is over. -/
def execLaneFrameOut (s : State) : Host.Outcome State Fault Refusal :=
  .next { s with lane := { s.lane with tx := none } }

/-- LRDY is asserted (R163). -/
def execLrdyAsserted (s : State) : Host.Outcome State Fault Refusal :=
  .next { s with lines := { s.lines with lrdy := true } }

/-- LRDY is deasserted (R163): a send in progress runs on. -/
def execLrdyDeasserted (s : State) : Host.Outcome State Fault Refusal :=
  .next { s with lines := { s.lines with lrdy := false } }

/-! ### The meanings at the downlink side of the air port -/

/-- The start of a downlink send (R10). -/
def execDownlinkSendStart (s : State) : Host.Outcome State Fault Refusal :=
  .next (if s.live && s.air.canSend then { s with air := s.air.startSend } else s)

/-- Frame-out at the air port (R11). -/
def execDownlinkFrameOut (s : State) : Host.Outcome State Fault Refusal :=
  .next { s with air := s.air.frameOut s.clock.laneTime }

/-- A confirmation deadline expires (R14): the entry goes and its owner receives a SEND-FAILED. -/
def execConfirmationDeadline (h : Byte) (s : State) : Host.Outcome State Fault Refusal :=
  .next (match s.air.awaiting h with
    | some e => if expired e.deadline s.clock.laneTime then (s.removeConfirm e).reportFailed e.owner else s
    | none => s)

end Sys2Proof.Machine
end

