-- ==== Sys2Proof/Machine/Clock.lean ====
section
/-! DEFINITION. What happens when no command is waiting: the part's own next event, else a tick of lane time
and of the minute timer (R184, R185; logs 2 and 3). -/

namespace Sys2Proof.Machine

/-! ### A tick -/

/-- The clock after a tick (R184, R185): lane time counts while it runs; the minute timer always counts, and
the advance falls due when its position passes 599,999 with the calendar set. -/
def Clock.tick (c : Clock) (running : Bool) : Clock :=
  let c := if running then { c with laneTime := c.laneTime + 1 } else c
  if c.minuteTimer < 599999 then { c with minuteTimer := c.minuteTimer + 1 }
  else { c with minuteTimer := 0, advanceDue := c.advanceDue || c.calendarSet }

/-- A tick of 100 microseconds: lane time stands in HOLD and while RESET is held (R184). -/
def State.tick (s : State) : State :=
  { s with clock := s.clock.tick s.live }

/-! ### The events that are due -/

/-- The row a request is taken by, after its code (section 11.4). -/
def requestRow (code : Byte) : Instr :=
  if code = 0x01#8 then .readStatus
  else if code = 0x02#8 then .readCounters
  else if code = 0x03#8 then .clearEvents
  else if code = 0x04#8 then .setAlertMask
  else if code = 0x05#8 then .setProfile
  else if code = 0x06#8 then .setTiming
  else if code = 0x07#8 then .setService
  else if code = 0x08#8 then .setCalendar
  else if code = 0x09#8 then .hold
  else if code = 0x10#8 then .rootPart1
  else if code = 0x11#8 then .rootPart2
  else if code = 0x12#8 then .lockRoot
  else if code = 0x13#8 then .keyLoadA
  else if code = 0x14#8 then .keyLoadB
  else if code = 0x15#8 then .activate
  else if code = 0x16#8 then .retire
  else if code = 0x17#8 then .erase
  else if code = 0x18#8 then .selectWriteGen
  else if code = 0x19#8 then .readSlot
  else if code = 0x1A#8 then .zeroise
  else .unknownRequestCode

/-- A step deadline of context c has expired (R46, R76). -/
def State.stepDue (s : State) (c : ContextNo) : Bool :=
  match (s.context c).bind Context.stepDeadline with
  | some d => expired d s.clock.laneTime
  | none => false

/-- The lifetime deadline of context c has expired and the context is not in DONE (R54, R76). -/
def State.lifetimeDue (s : State) (c : ContextNo) : Bool :=
  match s.context c with
  | some x => x.state != .done && expired x.lifetime s.clock.laneTime
  | none => false

/-- An overdue slot the scrub in hand does not answer yet: none is outstanding, or it is queued and
background (R98). -/
def State.overdueDue (s : State) : Option SlotNo :=
  let waiting :=
    match s.keys.outstanding with
    | none => true
    | some o => !o.running && !o.forced
  if s.working && waiting then allSlots.find? s.overdue else none

/-- The command, where its condition holds. -/
def dueIf (b : Bool) (c : Instr) : Option Instr :=
  if b then some c else none

/-- The part's own next event, in the order of log 2; none where none is due. Of several confirmation deadlines that have
expired the one of the oldest entry of the confirmation list is taken first, and of several contexts with a deadline of
one kind expired the lowest-numbered (DESIGN CHOICE, log 2). -/
def State.nextDue (s : State) : Option Instr :=
  dueIf s.eraseDue.isSome .eraseCompletion <|>
    dueIf (s.live && s.air.canSend) .downlinkSendStart <|>
    dueIf s.canSendLane .laneSendStart <|>
    (s.takeable fun _ => true).map (fun q => requestRow q.code) <|>
    dueIf s.clock.advanceDue .calendarAdvance <|>
    (s.air.confirm.find? fun e => expired e.deadline s.clock.laneTime).map
      (fun e => Instr.confirmationDeadline e.handle) <|>
    (allContexts.find? s.stepDue).map Instr.stepDeadlineExpiry <|>
    (allContexts.find? s.lifetimeDue).map Instr.lifetimeDeadlineExpiry <|>
    dueIf (match s.recent with
      | x :: _ => s.agedEntry x
      | [] => false) .recentPassAgeing <|>
    s.overdueDue.map Instr.slotOverdue

end Sys2Proof.Machine
end

