-- ==== Sys2Proof/Machine/AirUplink.lean ====
section
/-! DEFINITION. The seven uplink frames at the air port (chapter 1, and the arrival of a HELLO, a DATA and a
COMMIT in chapter 3). -/

namespace Sys2Proof.Machine

/-! ### HELLO (R39, R40) -/

/-- A HELLO whose tag a context in use holds (R39 test 1, R40): it joins the context, or is dropped at a
context in DONE. -/
def State.joinContext (s : State) (c : ContextNo) (x : Context) (h : Hello) : State :=
  if x.state = .done then s else s.setContext c (some (x.hear h.zone h.rssi))

/-- Master usability (R39 test 5): KEYING under a usable slot, with OLD-GENERATION under a RETIRING one, else
DONE with NO-KEY. -/
def State.openFresh (s : State) (c : ContextNo) (h : Hello) (followsUncertain : Bool) : State :=
  match (s.findSlot .tagMaster h.issuer h.generation).filter s.usable with
  | some n => s.openKeying c h n { oldGeneration := (s.slot n).state == .retiring, followsUncertain }
  | none => s.openDone c h .noKey { followsUncertain }

/-- The recent-pass verdict for a HELLO while a context is FREE (R39 test 3, R153). -/
def State.judgeRecent (s : State) (c : ContextNo) (h : Hello) : State :=
  let s := s.ageRecent
  match verdictOf (s.recent.find? (RecentEntry.isFor h.issuer h.tagNumber)) h.counter with
  | .repeated => s
  | .replay => s.openDone c h .replay {}
  | .fresh followsUncertain => s.openFresh c h followsUncertain

/-- A HELLO offered to the pass context table (R39 in SERVICE, R40 in MAINTENANCE). -/
def State.judgeHello (s : State) (p : List Byte) : State :=
  let h := helloOf p
  match s.contextOf h.issuer h.tagNumber with
  | some c =>
    match s.context c with
    | some x => s.joinContext c x h
    | none => s
  | none =>
    if s.device = .service ∧ (s.zone h.zone).function ≠ .closed then
      match s.freeContext with
      | some c => s.judgeRecent c h
      | none => s.raise .overrun
    else s.forward 0x01#8 p

/-! ### DATA and COMMIT (R47, R51, R56) -/

/-- A DATA or COMMIT no context takes (R56): STRAY, or forwarded in MAINTENANCE when no context holds the
tag. -/
def State.stray (s : State) (kind : Byte) (p : List Byte) (held : Bool) : State :=
  if s.device = .maintenance ∧ held = false then s.forward kind p else s.raise .stray

/-- The context after taking an answer to its step frame: heard, with no step frame and no step deadline
(steps 1 and 2 of R47 and R51). -/
def Context.answered (x : Context) (z : ZoneNo) (rssi : Byte) : Context :=
  { x.hear z rssi with stepFrame := none, stepDeadline := none }

/-- A context in CHALLENGING takes a DATA (R47). -/
def State.takeData (s : State) (c : ContextNo) (x : Context) (d : Data) : State :=
  let x := x.answered d.zone d.rssi
  let s := (s.setContext c (some x)).withdrawFrames c
  if d.records.length ≠ setSize x.requestedSet ∨ d.counter ≠ x.counter then s.endPass c .tagAuthFail
  else
    (s.setContext c (some { x with state := .checking, held := some (d.records, d.ta) })).issueFor c .ta (.sk c)
      (paddedBlocks (taMessage x.tagNumber x.counter d.records))

/-- A DATA offered to the pass context table (R47, R56). -/
def State.judgeData (s : State) (p : List Byte) : State :=
  let d := dataOf p
  match s.contextOf d.issuer d.tagNumber with
  | some c =>
    match s.context c with
    | some x => if x.state = .challenging then s.takeData c x d else s.stray 0x02#8 p true
    | none => s
  | none => s.stray 0x02#8 p false

/-- A context in WRITING takes a COMMIT (R51). -/
def State.takeCommit (s : State) (c : ContextNo) (x : Context) (m : Commit) : State :=
  let x := x.answered m.zone m.rssi
  let s := (s.setContext c (some x)).withdrawFrames c
  if m.newCounter ≠ x.counter + 1 then s.endPass c .commitAuthFail
  else
    (s.setContext c (some { x with state := .confirming, heldCa := some m.ca })).issueFor c .ca (.sk c)
      (paddedBlocks (caMessage x.tagNumber (x.counter + 1)))

/-- A COMMIT offered to the pass context table (R51, R56). -/
def State.judgeCommit (s : State) (p : List Byte) : State :=
  let m := commitOf p
  match s.contextOf m.issuer m.tagNumber with
  | some c =>
    match s.context c with
    | some x => if x.state = .writing then s.takeCommit c x m else s.stray 0x03#8 p true
    | none => s
  | none => s.stray 0x03#8 p false

/-- The offer of a tag frame to the table (R3): a frame that names issuer 0xFFFF is forwarded and not
offered. -/
def State.offerTagFrame (s : State) (kind : Byte) (p : List Byte) (judge : State → List Byte → State) : State :=
  if BitVec.ofNat 16 (field p 2 2) = 0xFFFF#16 then s.forward kind p else judge s p

/-! ### Baseband control frames (R4, R12, R13) -/

/-- A CREDIT arrives (R4). -/
def State.takeCredit (s : State) (p : List Byte) : State :=
  { s with air := s.air.addCredit (byteAt p 0).toNat }

/-- A SENT arrives (R12): the entry is removed and its owner receives the SENT tick. -/
def State.takeSent (s : State) (p : List Byte) : State :=
  match s.air.awaiting (byteAt p 0) with
  | none => s
  | some e => (s.removeConfirm e).reportSent e.owner (s.clock.laneTime - (byteAt p 1).setWidth 32)

/-- A SEND-FAILED arrives (R13): the entry is removed and its owner is told. -/
def State.takeSendFailed (s : State) (p : List Byte) : State :=
  match s.air.awaiting (byteAt p 0) with
  | none => s
  | some e => (s.removeConfirm e).reportFailed e.owner

/-! ### The meanings -/

/-- HELLO. -/
def execHello (f : PortFrame) (s : State) : Host.Outcome State Fault Refusal :=
  .next (s.uplink 0x01#8 f fun s => s.offerTagFrame 0x01#8 f.payload State.judgeHello)

/-- DATA. -/
def execData (f : PortFrame) (s : State) : Host.Outcome State Fault Refusal :=
  .next (s.uplink 0x02#8 f fun s => s.offerTagFrame 0x02#8 f.payload State.judgeData)

/-- COMMIT. -/
def execCommit (f : PortFrame) (s : State) : Host.Outcome State Fault Refusal :=
  .next (s.uplink 0x03#8 f fun s => s.offerTagFrame 0x03#8 f.payload State.judgeCommit)

/-- CREDIT. -/
def execCredit (f : PortFrame) (s : State) : Host.Outcome State Fault Refusal :=
  .next (s.uplink 0x10#8 f fun s => s.takeCredit f.payload)

/-- SENT. -/
def execSent (f : PortFrame) (s : State) : Host.Outcome State Fault Refusal :=
  .next (s.uplink 0x11#8 f fun s => s.takeSent f.payload)

/-- SEND-FAILED. -/
def execSendFailed (f : PortFrame) (s : State) : Host.Outcome State Fault Refusal :=
  .next (s.uplink 0x12#8 f fun s => s.takeSendFailed f.payload)

/-- OTHER (R2): forwarded whole. A term that spells a named kind code is no OTHER frame and acts as the frame
it spells (log 11). -/
def execOther (kind : Byte) (f : PortFrame) (s : State) : Host.Outcome State Fault Refusal :=
  if kind = 0x01#8 then execHello f s
  else if kind = 0x02#8 then execData f s
  else if kind = 0x03#8 then execCommit f s
  else if kind = 0x10#8 then execCredit f s
  else if kind = 0x11#8 then execSent f s
  else if kind = 0x12#8 then execSendFailed f s
  else .next (s.uplink kind f fun s => s.forward kind f.payload)

end Sys2Proof.Machine
end

