-- ==== Sys2Proof/Machine/JobEnds.lean ====
section
/-! DEFINITION. What each owner does with the end of its job (R133), and the end of a job on an engine
(R131, R132). -/

namespace Sys2Proof.Machine

/-! ### Ends of context jobs (R38, R43, R48 to R52) -/

/-- The end of a context's job (R38, R133): the current job becomes none; in the state that issued the job
the context acts on the result or on its loss; in DONE a release is attempted. -/
def State.contextJobEnd (s : State) (j : Job) (stage : PassState) (out : Option Block)
    (onResult : ContextNo → Context → Block → State → State) (onLost : ContextNo → State → State) : State :=
  match j.owner with
  | .management | .scrub => s
  | .context c =>
    match s.context c with
    | none => s
    | some x =>
      let x := { x with currentJob := .idle }
      let s := s.setContext c (some x)
      if x.state = .done then s.attemptRelease x.homeZone
      else if x.state = stage then
        match out with
        | some r => onResult c x r s
        | none => onLost c s
      else s

/-- DERIVE completes (R43 step 1): the tag key is held, offered to the cache, and SESSION issued. -/
def State.deriveEnd (j : Job) (out : Option Block) (s : State) : State :=
  s.contextJobEnd j .keying out
    (fun c x r s =>
      ((s.setContext c (some { x with tagKey := some r })).cacheOffer x.boundSlot
        { issuer := x.issuer, generation := x.generation, tagNumber := x.tagNumber, tagKey := r }).issueSession c)
    (fun _ s => s)

/-- SESSION completes (R43 step 2): the session key is held and the RA job issued. -/
def State.sessionEnd (j : Job) (out : Option Block) (s : State) : State :=
  s.contextJobEnd j .keying out
    (fun c x r s =>
      (s.setContext c (some { x with sessionKey := some r })).issueFor c .ra (.sk c)
        (paddedBlocks (raMessage x.tagNumber (x.readerNonce.getD 0) x.tagNonce x.requestedSet)))
    (fun _ s => s)

/-- RA completes (R43 step 3): the CHALLENGE is queued and the context enters CHALLENGING. -/
def State.raEnd (j : Job) (out : Option Block) (s : State) : State :=
  s.contextJobEnd j .keying out
    (fun c x r s =>
      s.standBehind c x .challenging
        (.challenge x.tagNumber (x.readerNonce.getD 0) x.requestedSet (firstFour r)))
    (fun _ s => s)

/-- TA completes (R48): a match makes the records read; a mismatch ends the pass and discards them. -/
def State.taEnd (j : Job) (out : Option Block) (s : State) : State :=
  s.contextJobEnd j .checking out
    (fun c x r s =>
      if x.held.map Prod.snd = some (firstFour r) then s.taVerified c x
      else (s.setContext c (some { x with held := none })).endPass c .tagAuthFail)
    (fun _ s => s)

/-- The record-code verify job completes (R32 test 4, R33): VALID, RECORD-INVALID, or
RECORD-KEY-UNAVAILABLE when its slot was lost. -/
def State.verifyEnd (j : Job) (out : Option Block) (s : State) : State :=
  s.contextJobEnd j .checking out
    (fun c x r s =>
      s.settleCheck c
        (if (x.recordRead 1).map recordCode = some (firstFour r) then .valid else .recordInvalid))
    (fun c s => s.settleCheck c .recordKeyUnavailable)

/-- The generation byte of a context's composed record. -/
def Context.recordGeneration (x : Context) : Option Generation :=
  x.tripRecord.map fun r => (blockByte r 8).setWidth 4

/-- The record-code compute job completes (R31): with the write generation unchanged the code is placed and
the WA job issued, else the pass ends COMPLETE-NO-WRITE. -/
def State.computeEnd (j : Job) (out : Option Block) (s : State) : State :=
  s.contextJobEnd j .checking out
    (fun c x r s =>
      if s.keys.writeGen ≠ none ∧ s.keys.writeGen = x.recordGeneration then
        let record := placeCode (x.tripRecord.getD 0) (firstFour r)
        (s.setContext c (some { x with tripRecord := some record })).issueFor c .wa (.sk c)
          (paddedBlocks (waMessage x.tagNumber x.counter record))
      else s.endNoWrite c)
    (fun c s => s.endNoWrite c)

/-- WA completes (R50): the WRITE is queued and the context enters WRITING. -/
def State.waEnd (j : Job) (out : Option Block) (s : State) : State :=
  s.contextJobEnd j .checking out
    (fun c x r s =>
      s.standBehind c x .writing (.write x.tagNumber x.counter (x.tripRecord.getD 0) (firstFour r)))
    (fun _ s => s)

/-- CA completes (R52): COMPLETE on a match, COMMIT-AUTH-FAIL on a mismatch. -/
def State.caEnd (j : Job) (out : Option Block) (s : State) : State :=
  s.contextJobEnd j .confirming out
    (fun c x r s => s.endPass c (if x.heldCa = some (firstFour r) then .complete else .commitAuthFail))
    (fun _ s => s)

/-! ### Ends of management jobs (R109, R113, R114) -/

/-- UNWRAP completes (R113): the candidate is held and the KCV job issued; a lost root ends the load with
NO-ROOT (R114). -/
def State.unwrapEnd (_j : Job) (out : Option Block) (s : State) : State :=
  match out with
  | some k =>
    { s with mgmt := { s.mgmt with candidate := some k } }.arrive (freshJob .kcv .management .loadCandidate [0])
  | none => s.failLoad .noRoot

/-- The slot a load makes STAGED (R114). -/
def Slot.accepted (x : Slot) (k : Key) (kcv : Kcv) (t : Tick) : Slot :=
  { x with state := .staged, material := some k, kcv, lastCheck := t }

/-- KCV completes (R114): a match makes the slot STAGED, a mismatch empties it with LOAD-FAIL, a root that is
no longer ACTIVE ends the load with NO-ROOT. -/
def State.kcvEnd (_j : Job) (out : Option Block) (s : State) : State :=
  match out, s.mgmt.twoPart, s.mgmt.candidate with
  | some r, .load f, some k =>
    if !(s.slot 0).isActive then s.failLoad .noRoot
    else if firstThree r = f.kcv then
      (((s.changeSlot f.slot ((s.slot f.slot).accepted k f.kcv s.clock.laneTime)).clearTwoPart).scrubTest).finish .ok
        (toBytes 1 f.slot.val ++ [SlotState.staged.byte] ++ toBytes 3 f.kcv.toNat)
    else (s.discardTwoPart.raise .loadFail).finish .kcvMismatch
  | _, _, _ => s.failLoad .noRoot

/-- The root a COMBINE job makes ACTIVE in slot 0 (R81, R109). -/
def rootSlot (k : Key) (kcv : Kcv) (t : Tick) : Slot :=
  { Slot.empty with state := .active, role := some .root, kcv, lastCheck := t, material := some k }

/-- COMBINE completes (R109): a match makes slot 0 ACTIVE with the root, a mismatch raises LOAD-FAIL. -/
def State.combineEnd (j : Job) (out : Option Block) (s : State) : State :=
  match out, s.mgmt.inHand, j.extra with
  | some r, some { work := .rootPart2 kcv, .. }, [a, b] =>
    if firstThree r = kcv then
      (((s.changeSlot 0 (rootSlot (a ^^^ b) kcv s.clock.laneTime)).clearTwoPart).scrubTest).finish .ok
    else (s.clearTwoPart.raise .loadFail).finish .kcvMismatch
  | _, _, _ => s.clearTwoPart.finish .kcvMismatch

/-! ### The end of a scrub (R100) -/

/-- SCRUB completes or ends without running (R100, R131). -/
def State.scrubEnd (j : Job) (out : Option Block) (s : State) : State :=
  match j.key with
  | .slot n => (s.judgeScrub n out).afterScrub
  | .tk _ | .sk _ | .loadCandidate | .rootCandidate => s.afterScrub

/-! ### The end of a job on an engine -/

/-- The end of a job goes to its owner (R133); none is a discarded result or an end without running. -/
def State.deliver (j : Job) (out : Option Block) (s : State) : State :=
  match j.kind with
  | .derive => s.deriveEnd j out
  | .session => s.sessionEnd j out
  | .ra => s.raEnd j out
  | .ta => s.taEnd j out
  | .wa => s.waEnd j out
  | .ca => s.caEnd j out
  | .recordCompute => s.computeEnd j out
  | .recordVerify => s.verifyEnd j out
  | .unwrap => s.unwrapEnd j out
  | .kcv => s.kcvEnd j out
  | .combine => s.combineEnd j out
  | .scrub => s.scrubEnd j out

/-- The completion of a job of a kind on engine e (R132): the result, unless discarded, goes to the owner; the
engine keeps or closes its key; the arbiter chooses its next job. Where engine e runs no job of that kind,
the event does not happen (log 1). -/
def State.completeJob (s : State) (e : EngineNo) (kind : JobKind) (act : Job → Option Block → State → State) :
    State :=
  match (s.engine e).state with
  | .busy register j =>
    if j.kind = kind then
      ((act j (if j.discard then none else j.output register) s).engineEnd e).arbitrate e
    else s
  | .closedIdle | .openIdle _ _ | .opening _ _ => s

/-- The completion of an opening on engine e (R131): with the loss mark clear the job begins; with it set the
job ends without running, the key is closed, and the arbiter chooses the next job. -/
def State.completeOpening (s : State) (e : EngineNo) : State :=
  let x := s.engine e
  match x.state with
  | .opening register j =>
    if x.loss then ((s.deliver j none).engineEnd e).arbitrate e
    else s.setEngine e { x with state := .busy register j }
  | .closedIdle | .openIdle _ _ | .busy _ _ => s

end Sys2Proof.Machine
end

