-- ==== Sys2Proof/Machine/Completions.lean ====
section
/-! DEFINITION. The completions of the cipher engines, one meaning for each kind of job (chapter 7). -/

namespace Sys2Proof.Machine

/-- An engine finishes opening a key (R131). -/
def execOpenCompletion (e : EngineNo) (s : State) : Host.Outcome State Fault Refusal :=
  .next (s.completeOpening e)

/-- DERIVE completes (R43). -/
def execDeriveJobCompletion (e : EngineNo) (s : State) : Host.Outcome State Fault Refusal :=
  .next (s.completeJob e .derive State.deriveEnd)

/-- SESSION completes (R43). -/
def execSessionJobCompletion (e : EngineNo) (s : State) : Host.Outcome State Fault Refusal :=
  .next (s.completeJob e .session State.sessionEnd)

/-- The RA job completes (R43). -/
def execRaJobCompletion (e : EngineNo) (s : State) : Host.Outcome State Fault Refusal :=
  .next (s.completeJob e .ra State.raEnd)

/-- The TA job completes (R48, R49). -/
def execTaJobCompletion (e : EngineNo) (s : State) : Host.Outcome State Fault Refusal :=
  .next (s.completeJob e .ta State.taEnd)

/-- The record-code compute job completes (R31). -/
def execRecordCodeComputeCompletion (e : EngineNo) (s : State) : Host.Outcome State Fault Refusal :=
  .next (s.completeJob e .recordCompute State.computeEnd)

/-- The record-code verify job completes (R32, R33). -/
def execRecordCodeVerifyCompletion (e : EngineNo) (s : State) : Host.Outcome State Fault Refusal :=
  .next (s.completeJob e .recordVerify State.verifyEnd)

/-- The WA job completes (R50). -/
def execWaJobCompletion (e : EngineNo) (s : State) : Host.Outcome State Fault Refusal :=
  .next (s.completeJob e .wa State.waEnd)

/-- The CA job completes (R52). -/
def execCaJobCompletion (e : EngineNo) (s : State) : Host.Outcome State Fault Refusal :=
  .next (s.completeJob e .ca State.caEnd)

/-- UNWRAP completes (R113). -/
def execUnwrapJobCompletion (e : EngineNo) (s : State) : Host.Outcome State Fault Refusal :=
  .next (s.completeJob e .unwrap State.unwrapEnd)

/-- KCV completes (R114). -/
def execKcvJobCompletion (e : EngineNo) (s : State) : Host.Outcome State Fault Refusal :=
  .next (s.completeJob e .kcv State.kcvEnd)

/-- COMBINE completes (R109). -/
def execCombineJobCompletion (e : EngineNo) (s : State) : Host.Outcome State Fault Refusal :=
  .next (s.completeJob e .combine State.combineEnd)

/-- SCRUB completes (R100). -/
def execScrubJobCompletion (e : EngineNo) (s : State) : Host.Outcome State Fault Refusal :=
  .next (s.completeJob e .scrub State.scrubEnd)

end Sys2Proof.Machine
end

