-- ==== Sys2Proof/Machine/Resets.lean ====
section
/-! DEFINITION. The events that clear much at once: wipe, HOLD entry and exit, lane reset, INIT entry,
power-on reset (section 6.5, chapter 10). -/

namespace Sys2Proof.Machine

/-! ### The wipe (R123) -/

/-- The key store after a wipe (R123): every slot EMPTY, lock clear, write generation NONE, indicator set, no
outstanding scrub, an empty INIT check list; the scrub pointer is kept. -/
def KeyStore.wiped (k : KeyStore) : KeyStore :=
  { KeyStore.powerOn with keyChange := true, scrubPointer := k.scrubPointer }

/-- What a wipe does to every block, in one step (R123); in HOLD nothing changes at the air port (R17). -/
def State.wipeBlocks (s : State) : State :=
  { s with
    keys := s.keys.wiped
    mgmt := { Management.cleared with held := s.mgmt.held }
    cipher := Cipher.cleared
    passes := PassTable.cleared
    cache := []
    recent := []
    air := if s.device = .hold then s.air else s.air.wiped }

/-- A wipe (R123, R124): outside HOLD the part moves to MAINTENANCE; ZEROISED is raised. -/
def State.wipe (s : State) : State :=
  let s := s.wipeBlocks
  (if s.device = .hold then s else s.enterMaintenance).raise .zeroised

/-- Take k wipes one after another. -/
def State.wipes : Nat → State → State
  | 0, s => s
  | k + 1, s => State.wipes k s.wipe

/-! ### INIT entry (R103, R176, R182) -/

/-- INIT entry: the INIT check list is built and its first check issued, or the check is complete at once
(R103); then the ZEROISE assertions made while RESET was held are taken (R182, log 16). -/
def State.enterInit (s : State) : State :=
  let list := allSlots.filter fun n => (s.slot n).holdsMaterial
  let k := s.lines.zeroiseLatched
  let s := { s with
    device := .init
    keys := { s.keys with initCheck := list, outstanding := none }
    lines := { s.lines with zeroiseLatched := 0 } }
  State.wipes k s.continueInitCheck

/-! ### HOLD (R178 to R181) -/

/-- The slot after HOLD entry (R87): an erase pending is completed; slot 0 is kept; any other is kept when
RETAIN is set and it is not PART-LOADED. -/
def Slot.atHold (n : SlotNo) (x : Slot) : Slot :=
  if x.erasePending then Slot.empty
  else if n = 0 then x
  else if x.retain && x.state != .partLoaded then x
  else Slot.empty

/-- A table of slots in which some slot that was not EMPTY has become EMPTY. -/
def someEmptied (before after : Vector Slot 128) : Bool :=
  allSlots.any fun n =>
    (tableGet before n).state != .empty && (tableGet after n).state == .empty

/-- The record write generation is kept when its RECORD slot is still ACTIVE (R87, R92). -/
def keptWriteGen (slots : Vector Slot 128) (g : Option Generation) : Option Generation :=
  g.filter fun g => allSlots.any fun n =>
    let x := tableGet slots n
    x.role == some .record && x.generation == g && x.isActive

/-- The key store after HOLD entry (R87, R92, R97, R104). -/
def KeyStore.atHold (k : KeyStore) : KeyStore :=
  let slots := tableMap Slot.atHold k.slots
  let gen := keptWriteGen slots k.writeGen
  { k with
    slots, writeGen := gen, outstanding := none, initCheck := []
    keyChange := k.keyChange || someEmptied k.slots slots || gen != k.writeGen }

/-- HOLD entry (R179): working state is discarded, slots are kept by RETAIN, lane time stops. Profiles,
timing and lane time, which the entry discards, already take the values of the exit (log 19). -/
def State.enterHold (s : State) : State :=
  { s with
    device := .hold
    clock := { s.clock with laneTime := 0 }
    air := AirPort.cleared
    profile := LaneProfile.defaults
    passes := PassTable.cleared
    keys := s.keys.atHold
    cipher := Cipher.cleared
    cache := []
    recent := []
    lane := LanePort.cleared
    mgmt := Management.cleared }

/-- HOLD exit (R181): the HOLD response not yet sent is discarded (R178), events and alert mask are cleared,
and the part enters INIT, or stays held in reset while RESET is asserted. A lane frame in transmission
runs on, but not into a held reset (log 18). -/
def State.exitHold (s : State) : State :=
  let s := { s with
    device := .init
    clock := { s.clock with laneTime := 0 }
    profile := LaneProfile.defaults
    air := AirPort.cleared
    keys := { s.keys with scrubPointer := 0 }
    lane := { LanePort.cleared with tx := if s.lines.reset then none else s.lane.tx }
    events := Events.cleared }
  if s.lines.reset then s else s.enterInit

/-! ### Lane reset (R182) -/

/-- The slot after a lane reset (R83): PART-LOADED and erase pending become EMPTY. -/
def Slot.atLaneReset (x : Slot) : Slot :=
  if x.state = .partLoaded ∨ x.erasePending then Slot.empty else x

/-- The key store after a lane reset (R83, R92, R97, R104). -/
def KeyStore.atLaneReset (k : KeyStore) : KeyStore :=
  let slots := tableMap (fun _ x => x.atLaneReset) k.slots
  { k with
    slots, outstanding := none, initCheck := [], scrubPointer := 0
    keyChange := k.keyChange || someEmptied k.slots slots }

/-- The effects of a lane reset on each block (R182). The device state is INIT while the part is held. -/
def State.resetLane (s : State) : State :=
  { s with
    device := .init
    clock := { s.clock with laneTime := 0 }
    air := AirPort.cleared
    profile := LaneProfile.defaults
    passes := PassTable.cleared
    keys := s.keys.atLaneReset
    cipher := Cipher.cleared
    cache := []
    recent := []
    lane := LanePort.cleared
    mgmt := Management.cleared
    events := Events.cleared }

/-! ### Power-on reset (R183) -/

/-- Every block at its power-on value (R183). The lines keep their levels, the random source goes on, and
the queue of waiting commands is the sender's (log 5, log 7). A ZEROISE assertion latched while RESET was held and not
taken yet is dropped (DESIGN CHOICE, log 34). -/
def State.powerOnBlocks (s : State) : State :=
  { State.reset with
    device := .init
    lines := { s.lines with zeroiseLatched := 0 }
    randomDraws := s.randomDraws
    pending := s.pending }

/-- Power-on reset (R183): INIT is entered and its check, with an empty list, is complete at once;
SUPPLY-FAIL standing asserted is taken as an assertion at the end of the reset (log 17); a RESET line
standing asserted holds the part in reset (log 15). -/
def State.powerOn (s : State) : State :=
  let s := s.powerOnBlocks
  if s.lines.supplyFail then s.enterHold
  else if s.lines.reset then s
  else s.enterInit

end Sys2Proof.Machine
end

