-- ==== Sys2Proof/Machine/KeyRequests.lean ====
section
/-! DEFINITION. The key requests of chapter 6, each as the management unit takes it from the head of the
request queue (R165): its judgement, then its meaning. -/

namespace Sys2Proof.Machine

/-- A slot number as its byte in a response. -/
def slotByte (n : SlotNo) : Byte :=
  BitVec.ofNat 8 n.val

/-! ### The root (R108 to R110) -/

/-- ROOT-PART-1 (R105, R108). -/
def judgeRootPart1 (q : Request) (s : State) : State :=
  if s.device = .service then s.respond q .state
  else if (s.slot 0).state ≠ .empty then s.respond q .slotBusy
  else { s with mgmt := { s.mgmt with twoPart := .root (blockAt q.params 0) } }.respond q .ok

/-- The work of an accepted ROOT-PART-2 (R109): the COMBINE job over the two components. -/
def startCombine (first : Block) (q : Request) (s : State) : State :=
  (s.takeInHand q (.rootPart2 (BitVec.ofNat 24 (field q.params 16 3)))).arrive
    (freshJob .combine .management .rootCandidate [0] [first, blockAt q.params 0])

/-- ROOT-PART-2 (R107, R109): judged under its own rule after a root pending, refused with ORDER otherwise. -/
def judgeRootPart2 (q : Request) (s : State) : State :=
  match s.mgmt.twoPart with
  | .root first => outsideInit (startCombine first) q s
  | .idle | .load _ => s.discardTwoPart.respond q .order

/-- LOCK-ROOT (R110). -/
def judgeLockRoot (q : Request) (s : State) : State :=
  if (s.slot 0).isActive then { s with keys := { s.keys with rootLock := true } }.respond q .ok
  else s.respond q .state

/-! ### Loading a general key (R111 to R113) -/

/-- The fields of a KEY-LOAD-A are consistent (R111 check 3). -/
def KeyLoadA.fieldsGood (a : KeyLoadA) : Bool :=
  (roleOf a.role).isSome && decide (a.generation.toNat < 16) && decide (a.flags.toNat < 4) &&
    a.issuer != 0xFFFF#16 &&
    (roleOf a.role != some .tagMaster || a.issuer != 0) &&
    (roleOf a.role != some .record || a.issuer == 0) &&
    decide (a.validFrom < a.validUntil)

/-- The slot an accepted KEY-LOAD-A makes PART-LOADED (R112). -/
def KeyLoadA.claimed (a : KeyLoadA) : Slot :=
  { Slot.empty with
    state := .partLoaded, role := roleOf a.role, issuer := a.issuer, generation := a.generation.setWidth 4
    retain := a.flags.getLsbD 0, autoActivate := a.flags.getLsbD 1
    validFrom := a.validFrom, validUntil := a.validUntil }

/-- The fields held as load pending, as carried (R106). -/
def KeyLoadA.fields (a : KeyLoadA) (n : SlotNo) : LoadFields :=
  { slot := n, role := a.role, issuer := a.issuer, generation := a.generation, flags := a.flags
    validFrom := a.validFrom, validUntil := a.validUntil, kcv := a.kcv }

/-- Another slot that is not EMPTY holds the issuer, generation and role of a KEY-LOAD-A (R111 check 4). -/
def State.duplicates (s : State) (a : KeyLoadA) : Bool :=
  match roleOf a.role with
  | some role => (s.findSlot role a.issuer (a.generation.setWidth 4)).isSome
  | none => false

/-- KEY-LOAD-A (R111, R112). -/
def judgeKeyLoadA (q : Request) (s : State) : State :=
  let a := keyLoadAOf q.params
  match (slotOf a.slot).filter (· ≠ 0) with
  | none => s.respond q .badSlot
  | some n =>
    if (s.slot n).state ≠ .empty then s.respond q .slotBusy
    else if !a.fieldsGood then s.respond q .badField
    else if s.duplicates a then s.respond q .duplicate
    else if !(s.slot 0).isActive then s.respond q .noRoot
    else
      let s := s.changeSlot n a.claimed
      { s with mgmt := { s.mgmt with twoPart := .load (a.fields n) } }.respond q .ok [slotByte n]

/-- The work of a KEY-LOAD-B that names the load pending (R113): NO-ROOT where slot 0 is not ACTIVE, else the
UNWRAP job over the attribute block. -/
def startUnwrap (f : LoadFields) (q : Request) (s : State) : State :=
  if (s.slot 0).isActive then
    (s.takeInHand q (.keyLoadB (blockAt q.params 1))).arrive
      (freshJob .unwrap .management (.slot 0) [attributeBlock f] [blockAt q.params 1])
  else s.discardTwoPart.respond q .noRoot

/-- KEY-LOAD-B (R107, R113): judged under its own rule after a load pending of the same slot, refused with
ORDER otherwise. -/
def judgeKeyLoadB (q : Request) (s : State) : State :=
  match s.mgmt.twoPart with
  | .load f =>
    if slotOf (byteAt q.params 0) = some f.slot then outsideInit (startUnwrap f) q s
    else s.discardTwoPart.respond q .order
  | .idle | .root _ => s.discardTwoPart.respond q .order

/-! ### Bringing keys into and out of use (R115 to R120) -/

/-- The status with which an ACTIVATE is refused; none where every check passes (R115 checks 2 to 5). -/
def State.activateRefusal (s : State) (x : Slot) : Option Status :=
  if x.state ≠ .staged ∨ x.erasePending = true then some .state
  else if s.clock.calendarSet = false then some .state
  else if x.reachedUntil s.clock.minute then some .windowEnded
  else if s.clock.minute < x.validFrom then some .state
  else none

/-- ACTIVATE (R115). -/
def judgeActivate (q : Request) (s : State) : State :=
  match (slotOf (byteAt q.params 0)).filter (· ≠ 0) with
  | none => s.respond q .badSlot
  | some n =>
    match s.activateRefusal (s.slot n) with
    | some status => s.respond q status
    | none =>
      (s.changeSlot n { s.slot n with state := .active }).respond q .ok [slotByte n, SlotState.active.byte]

/-- RETIRE (R116, R91). -/
def judgeRetire (q : Request) (s : State) : State :=
  match (slotOf (byteAt q.params 0)).filter (· ≠ 0) with
  | none => s.respond q .badSlot
  | some n =>
    let x := s.slot n
    if x.isActive then
      let s := (s.changeSlot n { x with state := .retiring }).clearWriteGenOf x
      s.respond q .ok [slotByte n, genByte s.keys.writeGen]
    else s.respond q .state

/-- ERASE (R118, R119): a withdrawal by loss; the erase completes at once where no engine holds the key, else
it holds the management unit. -/
def judgeErase (q : Request) (s : State) : State :=
  match slotOf (byteAt q.params 0) with
  | none => s.respond q .badSlot
  | some n =>
    if (s.slot n).state = .empty then s.respond q .state
    else if n = 0 ∧ s.keys.rootLock = true then s.respond q .locked
    else
      let s := s.beginErase n
      if s.slotHeld n then s.takeInHand q (.erase n) else (s.emptySlot n).respond q .ok [slotByte n]

/-- The RECORD slot of a generation is ACTIVE with no erase pending (R117). -/
def State.recordActive (s : State) (g : Generation) : Bool :=
  match s.findSlot .record 0 g with
  | some n => (s.slot n).isActive
  | none => false

/-- SELECT-WRITE-GEN (R117, R190). -/
def judgeSelectWriteGen (q : Request) (s : State) : State :=
  let b := byteAt q.params 0
  if b = 0xFF#8 then
    let s := s.setWriteGen none
    s.respond q .ok [genByte s.keys.writeGen]
  else if b.toNat < 16 then
    if s.recordActive (b.setWidth 4) then
      let s := s.setWriteGen (some (b.setWidth 4))
      s.respond q .ok [genByte s.keys.writeGen]
    else s.respond q .state
  else s.respond q .badField

/-- The last-check age READ-SLOT reports: 0 for a slot that has no last check (R120). -/
def State.checkAge (s : State) (x : Slot) : Nat :=
  if x.state = .empty ∨ x.state = .partLoaded then 0 else age x.lastCheck s.clock.laneTime

/-- The response data of READ-SLOT (R120, section 11.4). R120 lists the root lock for slot 0, and section 11.4 gives it a
bit whatever the slot: bit 1 of the bits byte is sent as zero for slots 1 to 127 that are not EMPTY, and its bits 2 to 7 for every slot
(DESIGN CHOICE, log 35). -/
def State.slotData (s : State) (n : SlotNo) : List Byte :=
  let x := s.slot n
  [slotByte n, x.state.byte, roleByte x.role] ++ toBytes 2 x.issuer.toNat ++ toBytes 1 x.generation.toNat
    ++ [bitByte 0 x.retain ||| bitByte 1 x.autoActivate]
    ++ toBytes 4 x.validFrom.toNat ++ toBytes 4 x.validUntil.toNat ++ toBytes 3 x.kcv.toNat
    ++ toBytes 4 (s.checkAge x)
    ++ [bitByte 0 x.erasePending ||| bitByte 1 (decide (n = 0) && s.keys.rootLock)]

/-- READ-SLOT (R120). -/
def judgeReadSlot (q : Request) (s : State) : State :=
  match slotOf (byteAt q.params 0) with
  | none => s.respond q .badSlot
  | some n => s.respond q .ok (s.slotData n)

/-- ZEROISE (R121): the wipe, then OK. -/
def judgeZeroise (q : Request) (s : State) : State :=
  s.wipe.respond q .ok

/-! ### The meanings -/

/-- ROOT-PART-1. -/
def execRootPart1 (s : State) : Host.Outcome State Fault Refusal :=
  .next (s.takeRequest 0x10#8 judgeRootPart1)

/-- ROOT-PART-2: it applies the two-part order itself, as a partner (R107). -/
def execRootPart2 (s : State) : Host.Outcome State Fault Refusal :=
  .next (s.take (· == 0x11#8) judgeRootPart2)

/-- LOCK-ROOT. -/
def execLockRoot (s : State) : Host.Outcome State Fault Refusal :=
  .next (s.takeRequest 0x12#8 judgeLockRoot)

/-- KEY-LOAD-A. -/
def execKeyLoadA (s : State) : Host.Outcome State Fault Refusal :=
  .next (s.takeRequest 0x13#8 judgeKeyLoadA)

/-- KEY-LOAD-B: it applies the two-part order itself, as a partner (R107). -/
def execKeyLoadB (s : State) : Host.Outcome State Fault Refusal :=
  .next (s.take (· == 0x14#8) judgeKeyLoadB)

/-- ACTIVATE. -/
def execActivate (s : State) : Host.Outcome State Fault Refusal :=
  .next (s.takeRequest 0x15#8 judgeActivate)

/-- RETIRE. -/
def execRetire (s : State) : Host.Outcome State Fault Refusal :=
  .next (s.takeRequest 0x16#8 judgeRetire)

/-- ERASE. -/
def execErase (s : State) : Host.Outcome State Fault Refusal :=
  .next (s.takeRequest 0x17#8 judgeErase)

/-- SELECT-WRITE-GEN. -/
def execSelectWriteGen (s : State) : Host.Outcome State Fault Refusal :=
  .next (s.takeRequest 0x18#8 judgeSelectWriteGen)

/-- READ-SLOT. -/
def execReadSlot (s : State) : Host.Outcome State Fault Refusal :=
  .next (s.takeRequest 0x19#8 judgeReadSlot)

/-- ZEROISE: not subject to the two-part order (R121). -/
def execZeroise (s : State) : Host.Outcome State Fault Refusal :=
  .next (s.take (· == 0x1A#8) (outsideInit judgeZeroise))

end Sys2Proof.Machine
end

