-- ==== Sys2Proof/Machine/LinesAndSupplies.lean ====
section
/-! DEFINITION. The lines and supplies: ZEROISE, SUPPLY-FAIL, WAKE, RESET and power-on reset (R122, R179 to
R183). An assertion of a line already asserted, or a deassertion of one already deasserted, changes nothing
(log 24). -/

namespace Sys2Proof.Machine

/-- The levels of the lines, rewritten. -/
def State.setLines (s : State) (f : Lines → Lines) : State :=
  { s with lines := f s.lines }

/-- The ZEROISE line is asserted (R122, R182): a wipe, or one more wipe to take at INIT entry while the part is
held in reset. -/
def State.assertZeroise (s : State) : State :=
  if s.heldInReset then s.setLines fun l => { l with zeroiseLatched := l.zeroiseLatched + 1 } else s.wipe

/-- SUPPLY-FAIL is asserted (R178, R179): HOLD entry; in HOLD, the loss of the HOLD response. -/
def State.assertSupplyFail (s : State) : State :=
  if s.lines.supplyFail then s
  else
    let s := s.setLines fun l => { l with supplyFail := true }
    if s.device = .hold then { s with lane := LanePort.cleared } else s.enterHold

/-- HOLD is left when a line change completes the pair: WAKE asserted, SUPPLY-FAIL deasserted (R181). -/
def State.leaveHold (s : State) : State :=
  if s.device = .hold ∧ s.lines.wake = true ∧ s.lines.supplyFail = false then s.exitHold else s

/-- SUPPLY-FAIL is deasserted (R181). -/
def State.deassertSupplyFail (s : State) : State :=
  if s.lines.supplyFail then (s.setLines fun l => { l with supplyFail := false }).leaveHold else s

/-- WAKE is asserted (R181). -/
def State.assertWake (s : State) : State :=
  if s.lines.wake then s else (s.setLines fun l => { l with wake := true }).leaveHold

/-- RESET is asserted (R180, R182): the lane reset; not taken in HOLD. -/
def State.assertReset (s : State) : State :=
  if s.lines.reset then s
  else
    let s := s.setLines fun l => { l with reset := true }
    if s.device = .hold then s else s.resetLane

/-- RESET is deasserted (R182): flags and counters are cleared again and INIT is entered; in HOLD nothing
follows. -/
def State.deassertReset (s : State) : State :=
  if s.lines.reset then
    let s := s.setLines fun l => { l with reset := false }
    if s.device = .hold then s
    else { s with clock := { s.clock with laneTime := 0 }, events := Events.cleared }.enterInit
  else s

/-! ### The meanings -/

/-- The ZEROISE line is asserted. -/
def execZeroiseLine (s : State) : Host.Outcome State Fault Refusal :=
  .next s.assertZeroise

/-- SUPPLY-FAIL is asserted. -/
def execSupplyFail (s : State) : Host.Outcome State Fault Refusal :=
  .next s.assertSupplyFail

/-- SUPPLY-FAIL is deasserted. -/
def execSupplyFailDeasserted (s : State) : Host.Outcome State Fault Refusal :=
  .next s.deassertSupplyFail

/-- WAKE is asserted. -/
def execWake (s : State) : Host.Outcome State Fault Refusal :=
  .next s.assertWake

/-- WAKE is deasserted (R181). -/
def execWakeDeasserted (s : State) : Host.Outcome State Fault Refusal :=
  .next (s.setLines fun l => { l with wake := false })

/-- RESET is asserted. -/
def execLaneReset (s : State) : Host.Outcome State Fault Refusal :=
  .next s.assertReset

/-- RESET is deasserted. -/
def execResetDeasserted (s : State) : Host.Outcome State Fault Refusal :=
  .next s.deassertReset

/-- Power-on reset (R183). -/
def execPowerOnReset (s : State) : Host.Outcome State Fault Refusal :=
  .next s.powerOn

end Sys2Proof.Machine
end

