-- ==== Sys2Proof/Machine/StatusRequests.lean ====
section
/-! DEFINITION. The requests of chapters 2, 9 and 10, each as the management unit takes it from the head of
the request queue (R165): its judgement, then its meaning. -/

namespace Sys2Proof.Machine

/-! ### Status and events (R165, R170 to R173) -/

/-- The root code of READ-STATUS (R170, section 11.4). -/
def rootByte : SlotState → Byte
  | .empty => 0
  | .active => 1
  | .partLoaded | .staged | .retiring | .expired | .faulted => 2

/-- The response data of READ-STATUS (R170, section 11.4). Bits 2 to 7 of its bits byte and bits 13 to 15 of its event
flags are sent as zero (DESIGN CHOICE, log 35). -/
def State.statusData (s : State) : List Byte :=
  [s.device.byte, rootByte (s.slot 0).state, bitByte 0 s.keys.rootLock ||| bitByte 1 s.clock.calendarSet]
    ++ toBytes 4 (if s.clock.calendarSet then s.clock.minute.toNat else 0)
    ++ toBytes 4 s.clock.laneTime.toNat ++ maskBytes s.events.flags
    ++ [genByte s.keys.writeGen, BitVec.ofNat 8 s.freeContexts, BitVec.ofNat 8 s.lane.reports.length]

/-- READ-STATUS (R170, R104): the response carries the indicator from before it is cleared. -/
def judgeReadStatus (q : Request) (s : State) : State :=
  let s := s.respond q .ok s.statusData
  { s with keys := { s.keys with keyChange := false } }

/-- READ-COUNTERS (R172). -/
def judgeReadCounters (q : Request) (s : State) : State :=
  s.respond q .ok (s.events.counters.toList.map fun n => toBytes 2 n.toNat).flatten

/-- A mask names only events that exist: its bits 13 to 15 are clear (R171, R173, R190). -/
def maskGood (p : List Byte) : Bool :=
  decide (field p 0 2 < 2 ^ 13)

/-- The mask a request carries. -/
def maskOf (p : List Byte) : BitVec 13 :=
  BitVec.ofNat 13 (field p 0 2)

/-- CLEAR-EVENTS (R171). -/
def judgeClearEvents (q : Request) (s : State) : State :=
  if maskGood q.params then
    let s := { s with events := s.events.clear (maskOf q.params) }
    s.respond q .ok (maskBytes s.events.flags)
  else s.respond q .badField

/-- SET-ALERT-MASK (R173). -/
def judgeSetAlertMask (q : Request) (s : State) : State :=
  if maskGood q.params then
    let s := { s with events := { s.events with alertMask := maskOf q.params } }
    s.respond q .ok (maskBytes s.events.alertMask)
  else s.respond q .badField

/-! ### SET-PROFILE and SET-TIMING (R21 to R23) -/

/-- A field named in an update mask takes the value written, any other keeps its own (section 2.2). -/
def masked {α : Type} (named : Bool) (new old : α) : α :=
  if named then new else old

/-- A number brought to the nearest end of its range (R22, R23). -/
def clampTo (lo hi n : Nat) : Nat :=
  max lo (min hi n)

/-- The zone profile after a SET-PROFILE with a good function (R22). -/
def ZoneProfile.update (z : ZoneProfile) (q : SetProfile) (function : ZoneFunction) : ZoneProfile :=
  { function := masked (q.mask.getLsbD 0) function z.function
    station := masked (q.mask.getLsbD 1) q.station z.station
    lane := masked (q.mask.getLsbD 2) (BitVec.ofNat 4 (clampTo 0 15 q.lane.toNat)) z.lane
    recordSet := masked (q.mask.getLsbD 3) (q.recordSet.setWidth 4 ||| 1) z.recordSet
    replyTimeout := masked (q.mask.getLsbD 4) (clampTo 5 255 q.replyTimeout.toNat) z.replyTimeout
    retries := masked (q.mask.getLsbD 5) (clampTo 0 7 q.retries.toNat) z.retries }

/-- The clamp mask of a SET-PROFILE (R22): bits 0 to 5 for its six fields. R22 and section 11.4 give bits 6 and 7 no
value; they are sent as zero (DESIGN CHOICE, log 35). -/
def SetProfile.clamps (q : SetProfile) : Byte :=
  bitByte 2 (q.mask.getLsbD 2 && decide (15 < q.lane.toNat)) |||
    bitByte 3 (q.mask.getLsbD 3 && !q.recordSet.getLsbD 0) |||
    bitByte 4 (q.mask.getLsbD 4 && decide (q.replyTimeout.toNat < 5)) |||
    bitByte 5 (q.mask.getLsbD 5 && decide (7 < q.retries.toNat))

/-- The six fields of a zone profile as bytes (section 11.4). R18 gives the record set four positions and section 11.4 its
field a byte: the upper four bits of that byte have no stated value (R67 states those of a CHALLENGE) and are sent as zero
(DESIGN CHOICE, log 35). -/
def ZoneProfile.bytes (z : ZoneProfile) : List Byte :=
  [z.function.byte] ++ toBytes 2 z.station.toNat ++ toBytes 1 z.lane.toNat ++ toBytes 1 z.recordSet.toNat
    ++ toBytes 1 z.replyTimeout ++ toBytes 1 z.retries

/-- CLAMPED where a clamp mask has a position set, else OK (R22, R23). -/
def clampStatus (clamps : Byte) : Status :=
  if clamps = 0 then .ok else .clamped

/-- The function a SET-PROFILE writes; none where its mask names the function and its code names none of the
five (R21 check 2). -/
def SetProfile.newFunction (q : SetProfile) (old : ZoneFunction) : Option ZoneFunction :=
  if q.mask.getLsbD 0 then functionOf q.function else some old

/-- SET-PROFILE (R21, R22). -/
def judgeSetProfile (q : Request) (s : State) : State :=
  let r := setProfileOf q.params
  let z := zoneOf r.zone
  if 7 < r.zone.toNat then s.respond q .badField
  else
    match r.newFunction (s.zone z).function with
    | none => s.respond q .badField
    | some function =>
      let p := (s.zone z).update r function
      let s := { s with profile := { s.profile with zones := tableSet s.profile.zones z p } }
      s.respond q (clampStatus r.clamps) ([r.zone] ++ p.bytes ++ [r.clamps])

/-- The timing record after a SET-TIMING (R23). -/
def LaneProfile.update (l : LaneProfile) (q : SetTiming) : LaneProfile :=
  { l with
    passLimit := masked (q.mask.getLsbD 0) (clampTo 100 10000 q.passLimit) l.passLimit
    repeatWindow := masked (q.mask.getLsbD 1) (clampTo 1 255 q.repeatWindow) l.repeatWindow
    scrubPeriod := masked (q.mask.getLsbD 2) (clampTo 1 255 q.scrubPeriod) l.scrubPeriod }

/-- The clamp mask of a SET-TIMING (R23): bits 0 to 2 for its three fields. R23 and section 11.4 give bits 3 to 7 no
value; they are sent as zero (DESIGN CHOICE, log 35). -/
def SetTiming.clamps (q : SetTiming) : Byte :=
  bitByte 0 (q.mask.getLsbD 0 && (decide (q.passLimit < 100) || decide (10000 < q.passLimit))) |||
    bitByte 1 (q.mask.getLsbD 1 && q.repeatWindow == 0) |||
    bitByte 2 (q.mask.getLsbD 2 && q.scrubPeriod == 0)

/-- The three fields of the timing record as bytes (section 11.4). -/
def LaneProfile.timingBytes (l : LaneProfile) : List Byte :=
  toBytes 2 l.passLimit ++ toBytes 1 l.repeatWindow ++ toBytes 1 l.scrubPeriod

/-- What follows a change of the timing record: a changed repeat window ages the head of the recent-pass
table (R152), a shortened scrub period makes slots overdue at once (R98). -/
def State.timingChanged (s : State) (old : LaneProfile) : State :=
  let s := if s.profile.repeatWindow = old.repeatWindow then s else s.ageRecent
  if s.profile.scrubPeriod < old.scrubPeriod then s.noteOverdue else s

/-- SET-TIMING (R23). -/
def judgeSetTiming (q : Request) (s : State) : State :=
  let r := setTimingOf q.params
  let s := { s with profile := s.profile.update r }.timingChanged s.profile
  s.respond q (clampStatus r.clamps) (s.profile.timingBytes ++ [r.clamps])

/-! ### SET-SERVICE, SET-CALENDAR and HOLD (R177, R178, R186) -/

/-- SET-SERVICE on (R177). -/
def judgeServiceOn (q : Request) (s : State) : State :=
  if s.device = .service ∨ s.clock.calendarSet = true then
    let s := { s with device := .service }
    s.respond q .ok [s.device.byte]
  else s.respond q .state

/-- SET-SERVICE off (R177): leaving SERVICE enters MAINTENANCE. -/
def judgeServiceOff (q : Request) (s : State) : State :=
  let s := if s.device = .service then s.enterMaintenance else s
  s.respond q .ok [s.device.byte]

/-- SET-SERVICE (R177, R190). -/
def judgeSetService (q : Request) (s : State) : State :=
  if byteAt q.params 0 = 0x00#8 then judgeServiceOff q s
  else if byteAt q.params 0 = 0x01#8 then judgeServiceOn q s
  else s.respond q .badField

/-- SET-CALENDAR (R186). -/
def judgeSetCalendar (q : Request) (s : State) : State :=
  let m : Minute := BitVec.ofNat 32 (field q.params 0 4)
  let s := { s with clock := { s.clock with
    calendarSet := true, minute := m, minuteTimer := 0, advanceDue := false } }.walk m
  s.respond q .ok (toBytes 4 m.toNat)

/-- The HOLD request (R178): the count of contexts in use, HOLD entry, and the response as the one entry of the
response queue. -/
def judgeHold (q : Request) (s : State) : State :=
  s.enterHold.respond q .ok [BitVec.ofNat 8 (32 - s.freeContexts)]

/-! ### The meanings -/

/-- A request whose code names none (R165 test 2). -/
def execUnknownRequestCode (s : State) : Host.Outcome State Fault Refusal :=
  .next (s.take (fun code => (requestLength code).isNone) (underOrder fun q s => s.respond q .badField))

/-- READ-STATUS: the one request taken in INIT (R170). -/
def execReadStatus (s : State) : Host.Outcome State Fault Refusal :=
  .next (s.take (· == 0x01#8) (underOrder judgeReadStatus))

/-- READ-COUNTERS. -/
def execReadCounters (s : State) : Host.Outcome State Fault Refusal :=
  .next (s.takeRequest 0x02#8 judgeReadCounters)

/-- CLEAR-EVENTS. -/
def execClearEvents (s : State) : Host.Outcome State Fault Refusal :=
  .next (s.takeRequest 0x03#8 judgeClearEvents)

/-- SET-ALERT-MASK. -/
def execSetAlertMask (s : State) : Host.Outcome State Fault Refusal :=
  .next (s.takeRequest 0x04#8 judgeSetAlertMask)

/-- SET-PROFILE. -/
def execSetProfile (s : State) : Host.Outcome State Fault Refusal :=
  .next (s.takeRequest 0x05#8 judgeSetProfile)

/-- SET-TIMING. -/
def execSetTiming (s : State) : Host.Outcome State Fault Refusal :=
  .next (s.takeRequest 0x06#8 judgeSetTiming)

/-- SET-SERVICE. -/
def execSetService (s : State) : Host.Outcome State Fault Refusal :=
  .next (s.takeRequest 0x07#8 judgeSetService)

/-- SET-CALENDAR. -/
def execSetCalendar (s : State) : Host.Outcome State Fault Refusal :=
  .next (s.takeRequest 0x08#8 judgeSetCalendar)

/-- The HOLD request. -/
def execHold (s : State) : Host.Outcome State Fault Refusal :=
  .next (s.takeRequest 0x09#8 judgeHold)

end Sys2Proof.Machine
end

