-- ==== Sys2Proof/Machine/Dispatch.lean ====
section
/-! DEFINITION. One arm for each command, each one call of its meaning. -/

namespace Sys2Proof.Machine

/-- What a command does to everything but the queue of waiting commands. -/
def exec (i : Instr) (s : State) : Host.Outcome State Fault Refusal :=
  match i with
  | .hello f => Sys2Proof.Machine.execHello f s
  | .data f => Sys2Proof.Machine.execData f s
  | .commit f => Sys2Proof.Machine.execCommit f s
  | .other kind f => Sys2Proof.Machine.execOther kind f s
  | .credit f => Sys2Proof.Machine.execCredit f s
  | .sent f => Sys2Proof.Machine.execSent f s
  | .sendFailed f => Sys2Proof.Machine.execSendFailed f s
  | .downlinkSendStart => Sys2Proof.Machine.execDownlinkSendStart s
  | .downlinkFrameOut => Sys2Proof.Machine.execDownlinkFrameOut s
  | .confirmationDeadline h => Sys2Proof.Machine.execConfirmationDeadline h s
  | .downPassthrough f => Sys2Proof.Machine.execDownPassthrough f s
  | .openCompletion e => Sys2Proof.Machine.execOpenCompletion e s
  | .deriveJobCompletion e => Sys2Proof.Machine.execDeriveJobCompletion e s
  | .sessionJobCompletion e => Sys2Proof.Machine.execSessionJobCompletion e s
  | .raJobCompletion e => Sys2Proof.Machine.execRaJobCompletion e s
  | .taJobCompletion e => Sys2Proof.Machine.execTaJobCompletion e s
  | .recordCodeComputeCompletion e => Sys2Proof.Machine.execRecordCodeComputeCompletion e s
  | .recordCodeVerifyCompletion e => Sys2Proof.Machine.execRecordCodeVerifyCompletion e s
  | .waJobCompletion e => Sys2Proof.Machine.execWaJobCompletion e s
  | .caJobCompletion e => Sys2Proof.Machine.execCaJobCompletion e s
  | .unwrapJobCompletion e => Sys2Proof.Machine.execUnwrapJobCompletion e s
  | .kcvJobCompletion e => Sys2Proof.Machine.execKcvJobCompletion e s
  | .combineJobCompletion e => Sys2Proof.Machine.execCombineJobCompletion e s
  | .scrubJobCompletion e => Sys2Proof.Machine.execScrubJobCompletion e s
  | .stepDeadlineExpiry c => Sys2Proof.Machine.execStepDeadlineExpiry c s
  | .lifetimeDeadlineExpiry c => Sys2Proof.Machine.execLifetimeDeadlineExpiry c s
  | .recentPassAgeing => Sys2Proof.Machine.execRecentPassAgeing s
  | .slotOverdue n => Sys2Proof.Machine.execSlotOverdue n s
  | .eraseCompletion => Sys2Proof.Machine.execEraseCompletion s
  | .calendarAdvance => Sys2Proof.Machine.execCalendarAdvance s
  | .request f => Sys2Proof.Machine.execRequest f s
  | .unknownRequestCode => Sys2Proof.Machine.execUnknownRequestCode s
  | .readStatus => Sys2Proof.Machine.execReadStatus s
  | .readCounters => Sys2Proof.Machine.execReadCounters s
  | .clearEvents => Sys2Proof.Machine.execClearEvents s
  | .setAlertMask => Sys2Proof.Machine.execSetAlertMask s
  | .setProfile => Sys2Proof.Machine.execSetProfile s
  | .setTiming => Sys2Proof.Machine.execSetTiming s
  | .setService => Sys2Proof.Machine.execSetService s
  | .setCalendar => Sys2Proof.Machine.execSetCalendar s
  | .hold => Sys2Proof.Machine.execHold s
  | .rootPart1 => Sys2Proof.Machine.execRootPart1 s
  | .rootPart2 => Sys2Proof.Machine.execRootPart2 s
  | .lockRoot => Sys2Proof.Machine.execLockRoot s
  | .keyLoadA => Sys2Proof.Machine.execKeyLoadA s
  | .keyLoadB => Sys2Proof.Machine.execKeyLoadB s
  | .activate => Sys2Proof.Machine.execActivate s
  | .retire => Sys2Proof.Machine.execRetire s
  | .erase => Sys2Proof.Machine.execErase s
  | .selectWriteGen => Sys2Proof.Machine.execSelectWriteGen s
  | .readSlot => Sys2Proof.Machine.execReadSlot s
  | .zeroise => Sys2Proof.Machine.execZeroise s
  | .zeroiseLine => Sys2Proof.Machine.execZeroiseLine s
  | .laneSendStart => Sys2Proof.Machine.execLaneSendStart s
  | .laneFrameOut => Sys2Proof.Machine.execLaneFrameOut s
  | .lrdyAsserted => Sys2Proof.Machine.execLrdyAsserted s
  | .supplyFail => Sys2Proof.Machine.execSupplyFail s
  | .wake => Sys2Proof.Machine.execWake s
  | .supplyFailDeasserted => Sys2Proof.Machine.execSupplyFailDeasserted s
  | .laneReset => Sys2Proof.Machine.execLaneReset s
  | .resetDeasserted => Sys2Proof.Machine.execResetDeasserted s
  | .powerOnReset => Sys2Proof.Machine.execPowerOnReset s
  | .lrdyDeasserted => Sys2Proof.Machine.execLrdyDeasserted s
  | .wakeDeasserted => Sys2Proof.Machine.execWakeDeasserted s
  | .laneFrameOfOutgoingClass cls f => Sys2Proof.Machine.execLaneFrameOfOutgoingClass cls f s

end Sys2Proof.Machine
end

