-- ==== Sys2Proof/Safety.lean ====
section
/-! DEFINITION. What a lawful state is: the laws the chapters state of each block, which every step keeps. -/

namespace Sys2Proof.Machine

/-! ### Chapter 2: ranges (R18, R19) -/

/-- Every field of a zone profile lies inside its range (R18). -/
def ZoneProfile.inRange (z : ZoneProfile) : Prop :=
  z.recordSet.getLsbD 0 = true ∧ 5 ≤ z.replyTimeout ∧ z.replyTimeout ≤ 255 ∧ z.retries ≤ 7

/-- Every field of the lane profile lies inside its range (R18, R19). -/
def LaneProfile.inRange (l : LaneProfile) : Prop :=
  (∀ z : ZoneNo, (tableGet l.zones z).inRange) ∧
    (100 ≤ l.passLimit ∧ l.passLimit ≤ 10000) ∧
    (1 ≤ l.repeatWindow ∧ l.repeatWindow ≤ 255) ∧ (1 ≤ l.scrubPeriod ∧ l.scrubPeriod ≤ 255)

/-! ### Chapter 9: events and queues (R160 to R162, R168) -/

/-- A flag is set exactly while its counter is above 0 (R168). -/
def Events.lawful (v : Events) : Prop :=
  ∀ n : EventNo, v.flag n = true ↔ tableGet v.counters n ≠ 0

/-- The three queues of the lane port keep their capacities (section 9.2). -/
def LanePort.bounded (l : LanePort) : Prop :=
  l.requests.length ≤ 4 ∧ l.responses.length ≤ 8 ∧ l.reports.length ≤ 64

/-! ### Chapter 1: credit, quotas, confirmations (R4, R5, R10) -/

/-- The entries that will stand in the confirmation list: those in it and the frame in transmission. -/
def AirPort.unconfirmed (a : AirPort) : Nat :=
  a.confirm.length + (if a.tx.isSome then 1 else 0)

/-- Credit at most 16, at most 16 unconfirmed frames, at most 8 CLOSE or passthrough frames queued, at most 4
passthrough frames queued (R4, R5, R10). -/
def AirPort.bounded (a : AirPort) : Prop :=
  a.credit ≤ 16 ∧ a.unconfirmed ≤ 16 ∧ a.sharedCount ≤ 8 ∧ a.passthroughCount ≤ 4

/-! ### Chapter 3: the table and its step frames (R5, R35, R36, R39, R44, R57) -/

/-- The copies of a step frame that context c has outstanding: queued, in transmission, or awaiting confirmation
with c as owner; and one reported sent, while its step deadline stands (R44). -/
def State.copies (s : State) (c : ContextNo) : Nat :=
  s.air.queue.countP (fun e => ownedBy c e.owner) +
    (if s.air.tx.any (fun t => ownedBy c t.entry.owner) then 1 else 0) +
    s.air.confirm.countP (fun e => ownedBy c e.owner) +
    (if ((s.context c).bind Context.stepDeadline).isSome then 1 else 0)

/-- The pass context table is one: at most one context holds a tag (R39), a context stands in the open list of its
home zone, once, and in no other (R36, R57), and every context is FREE in HOLD (R179). -/
def State.tableLawful (s : State) : Prop :=
  (∀ c d x y, s.context c = some x → s.context d = some y → x.issuer = y.issuer → x.tagNumber = y.tagNumber →
    c = d) ∧
  (∀ z c, c ∈ s.openList z ↔ ∃ x, s.context c = some x ∧ x.homeZone = z) ∧
  (∀ z, (s.openList z).Nodup) ∧
  (s.device = .hold → ∀ c, s.context c = none)

/-- The air port agrees with the pass context table: a queued frame has an owner exactly when it is a step frame, a
CLOSE or passthrough in transmission has none (R7 to R9); a context has one copy outstanding at most, and none
without a step frame (R44); a step frame stands in CHALLENGING and WRITING alone (R43, R47, R50, R51). -/
def State.framesLawful (s : State) : Prop :=
  (∀ e ∈ s.air.queue, e.owner = none ↔ e.body.isShared = true) ∧
  (∀ t, s.air.tx = some t → t.entry.body.isShared = true → t.entry.owner = none) ∧
  (∀ c, s.copies c ≤ if ((s.context c).bind Context.stepFrame).isSome then 1 else 0) ∧
  (∀ c x, s.context c = some x → x.stepFrame.isSome = true → x.state = .challenging ∨ x.state = .writing)

/-- The passes of the part are lawful. -/
def State.passesLawful (s : State) : Prop :=
  s.tableLawful ∧ s.framesLawful

/-! ### Chapters 8 and 10: tables and the minute timer (R143, R155, R185) -/

/-- The derived-key cache holds at most 64 entries, the recent-pass table at most 256, and the minute timer
stands from 0 to 599,999 (R143, R155, R185). -/
def State.tablesBounded (s : State) : Prop :=
  s.cache.length ≤ 64 ∧ s.recent.length ≤ 256 ∧ s.clock.minuteTimer < 600000

/-! ### Chapter 5: the key store (R80 to R82, R91) -/

/-- The slot's state is one of those that keep material (R82). -/
def SlotState.keepsMaterial : SlotState → Bool
  | .staged | .active | .retiring | .expired => true
  | .empty | .partLoaded | .faulted => false

/-- The states slot 0 can take (R81). -/
def SlotState.ofRoot : SlotState → Bool
  | .empty | .active | .faulted => true
  | .partLoaded | .staged | .retiring | .expired => false

/-- The law of one slot (R80 to R82): an EMPTY slot has zero in every field; material is present exactly in the
states that keep it; slot 0 alone is ROOT, and takes only its three states; a RECORD slot has issuer 0x0000. -/
def Slot.lawful (n : SlotNo) (x : Slot) : Prop :=
  (x.state = .empty → x = Slot.empty) ∧
    (x.material.isSome = x.state.keepsMaterial) ∧
    (x.state ≠ .empty → (x.role = some .root ↔ n = 0) ∧ x.role ≠ none) ∧
    (n = 0 → x.state.ofRoot = true) ∧
    (x.role = some .record → x.issuer = 0)

/-- Two slots that are not EMPTY do not hold the same issuer, generation and role (R80). -/
def Slot.distinct (x y : Slot) : Prop :=
  x.state ≠ .empty → y.state ≠ .empty → ¬(x.role = y.role ∧ x.issuer = y.issuer ∧ x.generation = y.generation)

/-- The law of the key store (R80, R81, R91): every slot lawful, no two slots of the same key, the root lock
clear while slot 0 is EMPTY or erase pending (R110, R118), and the record write generation that of an ACTIVE
RECORD slot with no erase pending. -/
def KeyStore.lawful (k : KeyStore) : Prop :=
  (∀ n : SlotNo, (tableGet k.slots n).lawful n) ∧
    (∀ n m : SlotNo, n ≠ m → (tableGet k.slots n).distinct (tableGet k.slots m)) ∧
    ((tableGet k.slots 0).state = .empty ∨ (tableGet k.slots 0).erasePending = true → k.rootLock = false) ∧
    (∀ g : Generation, k.writeGen = some g →
      ∃ n : SlotNo, (tableGet k.slots n).role = some .record ∧ (tableGet k.slots n).issuer = 0 ∧
        (tableGet k.slots n).generation = g ∧ (tableGet k.slots n).isActive = true)

/-- The management unit agrees with the key store (R106, R118): a load pending's slot is a general slot that is
PART-LOADED with no erase pending, and an erase in hand has its slot erase pending and no first part
pending. -/
def State.managementLawful (s : State) : Prop :=
  (∀ f : LoadFields, s.mgmt.twoPart = .load f →
    f.slot ≠ 0 ∧ (s.slot f.slot).state = .partLoaded ∧ (s.slot f.slot).erasePending = false) ∧
    (∀ (h : InHand) (n : SlotNo), s.mgmt.inHand = some h → h.work = .erase n →
      (s.slot n).erasePending = true ∧ s.mgmt.twoPart = .idle)

/-- The keys of the part are lawful. -/
def State.keysLawful (s : State) : Prop :=
  s.keys.lawful ∧ s.managementLawful

/-- The job stands in the queue or on an engine. -/
def State.jobStands (s : State) (j : Job) : Prop :=
  j ∈ s.cipher.queue ∨ ∃ e : EngineNo, (s.engine e).job? = some j

/-- The INIT check is lawful (R97, R103, R176): its list is empty outside INIT, and lists slots holding material, each
once. In INIT, and in HOLD, where there is no list, no request is in hand, no first part is pending (R179, R182), and at
most one job stands: the scrub of the head of the list. The part held in reset is in INIT with an empty list (R182). -/
def State.initLawful (s : State) : Prop :=
  (s.device ≠ .init → s.keys.initCheck = []) ∧ s.keys.initCheck.Nodup ∧
  (∀ m ∈ s.keys.initCheck, (s.slot m).holdsMaterial = true) ∧
  (s.heldInReset = true → s.device = .init ∧ s.keys.initCheck = []) ∧
  (s.device = .init ∨ s.device = .hold →
    s.mgmt.inHand = none ∧ s.mgmt.twoPart = .idle ∧
      s.cipher.queue.length + allEngines.countP (fun e => (s.engine e).job?.isSome) ≤ 1 ∧
      ∀ j, s.jobStands j → j.kind = .scrub ∧ s.keys.initCheck.head?.map KeyId.slot = some j.key)

/-! ### Words the claims use -/

/-- The kind code and the frame of an uplink command. -/
def uplinkFrame : Instr → Option (Byte × PortFrame)
  | .hello f => some (0x01#8, f)
  | .data f => some (0x02#8, f)
  | .commit f => some (0x03#8, f)
  | .credit f => some (0x10#8, f)
  | .sent f => some (0x11#8, f)
  | .sendFailed f => some (0x12#8, f)
  | .other kind f => some (kind, f)
  | _ => none

/-- The class code and the frame of a lane port command. -/
def laneFrameOf : Instr → Option (Byte × PortFrame)
  | .downPassthrough f => some (0x11#8, f)
  | .request f => some (0x12#8, f)
  | .laneFrameOfOutgoingClass cls f => some (cls, f)
  | _ => none

/-- The management unit is about to take request q, with rest behind it: ports live, nothing in hand, no held
response (R165), and the response queue with room for the answer. -/
def State.takes (s : State) (q : Request) (rest : List Request) : Prop :=
  s.live = true ∧ s.mgmt.inHand = none ∧ s.mgmt.held = none ∧ s.lane.requests = q :: rest ∧
    s.lane.responses.length < 8

/-- The two-part order and the device state let any request through: no first part is pending, and the part
is out of INIT (R165 tests 1 and 3). -/
def State.unhindered (s : State) : Prop :=
  s.mgmt.twoPart = .idle ∧ s.device ≠ .init

/-- The part with its request queue replaced by what is left of it. -/
def State.left (s : State) (rest : List Request) : State :=
  { s with lane := { s.lane with requests := rest } }

/-- The part with the answer to q, composed from the part as it stands, at the tail of the response queue
(R166). -/
def State.answered (s : State) (q : Request) (status : Status) (data : List Byte) : State :=
  { s with lane := { s.lane with responses := s.lane.responses ++
      [.response { tag := q.tag, code := q.code, status, attention := s.events.flags != 0,
                   keyChange := s.keys.keyChange, data }] } }

/-- A job stands in the queue or on an engine. -/
def State.hasJob (s : State) (kind : JobKind) (owner : JobOwner) (key : KeyId) (input extra : List Block) : Prop :=
  ∃ j : Job, s.jobStands j ∧ j.kind = kind ∧ j.owner = owner ∧ j.key = key ∧ j.input = input ∧ j.extra = extra

/-- Engine e is about to end a job, its result not discarded. -/
def State.runs (s : State) (e : EngineNo) (k : Key) (j : Job) : Prop :=
  (s.engine e).state = .busy (some k) j ∧ j.discard = false

/-- The pass of the tag of x has ended with a result at a tick: its context c is in DONE with them, or is FREE
and its report, with them, is in the report queue (R53, R57). -/
def State.ended (t : State) (c : ContextNo) (x : Context) (r : PassResult) (tick : Tick) : Prop :=
  (∃ y, t.context c = some y ∧ y.state = .done ∧ y.result = some r ∧ y.doneTick = some tick ∧
    y.issuer = x.issuer ∧ y.tagNumber = x.tagNumber) ∨
  (t.context c = none ∧ ∃ p, ReportItem.report p ∈ t.lane.reports ∧ p.result = r ∧ p.doneTick = tick ∧
    p.issuer = x.issuer ∧ p.tagNumber = x.tagNumber)

/-- The recent-pass table after the part has handed it, at this tick, an entry for the tag of x (R53, R155). -/
def State.recentWith (s : State) (x : Context) (expected : Counter) (uncertain : Bool) : List RecentEntry :=
  (s.insertRecent { issuer := x.issuer, tagNumber := x.tagNumber, expected, uncertain,
                    tick := s.clock.laneTime }).recent

/-- The context with its current job left out of account. -/
def Context.apart (x : Context) : Context :=
  { x with currentJob := .idle }

/-- What work on jobs alone leaves, in every context but one: t is s but for its engines and queue, the
outstanding scrub and the scrub pointer, the context named, and the current jobs of the other contexts. -/
def State.jobsApart (s t : State) (own : Option ContextNo) : Prop :=
  t = { s with
        passes := { s.passes with contexts := t.passes.contexts }
        cipher := t.cipher
        keys := { s.keys with outstanding := t.keys.outstanding, scrubPointer := t.keys.scrubPointer } } ∧
    ∀ d, own ≠ some d → (t.context d).map Context.apart = (s.context d).map Context.apart

/-- What the work of one context c leaves: no slot, no attribute of the key store, no request, no profile, no
cached key, no clock and no line is touched, no FREE context is taken, and no other pass that has not ended is
touched but for its current job. -/
def State.passFrame (s t : State) (c : ContextNo) : Prop :=
  t = { s with
        passes := t.passes, cipher := t.cipher, air := t.air, recent := t.recent, events := t.events
        lane := { s.lane with responses := t.lane.responses, reports := t.lane.reports }
        keys := { s.keys with outstanding := t.keys.outstanding, scrubPointer := t.keys.scrubPointer } } ∧
    (∀ d, d ≠ c → s.context d = none → t.context d = none) ∧
    ∀ d y, d ≠ c → s.context d = some y → y.state ≠ .done → (t.context d).map Context.apart = some y.apart

/-- What the end of a management job leaves: t is s but for the management unit, the response queue, the
events, the slots with the key-change indicator, and work on jobs. -/
def State.loadFrame (s t : State) : Prop :=
  { s with
    mgmt := t.mgmt, events := t.events
    lane := { s.lane with responses := t.lane.responses }
    keys := { s.keys with slots := t.keys.slots, keyChange := t.keys.keyChange } }.jobsApart t none

/-- The pass of context c, whose tag is x's, now shows p: in its context, or, if a release has freed that, q in a
report of its tag that has joined the report queue since s (R57, R59). -/
def State.shows (s t : State) (c : ContextNo) (x : Context) (p : Context → Prop) (q : PassReport → Prop) : Prop :=
  (∃ y, t.context c = some y ∧ p y) ∨
  (t.context c = none ∧ ∃ r, ReportItem.report r ∈ t.lane.reports.drop s.lane.reports.length ∧
    r.issuer = x.issuer ∧ r.tagNumber = x.tagNumber ∧ q r)

/-- The CLOSE at the end of a pass (R53 step 4, R8), offered to an air port a that the pass's own frames have left:
with fewer than 8 CLOSE and passthrough frames queued it joins the tail, ownerless, with the next free handle, the
zone and the outcome given; at 8 nothing joins and CLOSE-DROP is raised, once. No other frame leaves the queue but
one owned by a context in DONE that is released (R57). -/
def State.closes (s t : State) (a : AirPort) (zone : ZoneNo) (tag : TagNumber) (ok : Bool) : Prop :=
  (a.sharedCount < 8 → (∃ l, l.Sublist a.queue ∧ t.air.queue =
      l ++ [{ zone := zoneByte zone, handle := a.chosenHandle, owner := none, body := .close tag ok }]) ∧
    t.air.nextHandle = a.chosenHandle + 1 ∧
    tableGet t.events.counters Event.closeDrop.number = tableGet s.events.counters Event.closeDrop.number) ∧
  (8 ≤ a.sharedCount → t.air.queue.Sublist a.queue ∧ t.air.nextHandle = a.nextHandle ∧
    t.events.flag Event.closeDrop.number = true ∧
    (tableGet t.events.counters Event.closeDrop.number).toNat =
      min 65535 ((tableGet s.events.counters Event.closeDrop.number).toNat + 1)) ∧
  ∀ e ∈ a.queue, e ∈ t.air.queue ∨ ∃ d y, e.owner = some d ∧ s.context d = some y ∧ y.state = .done

/-- The pass of context c, which stands as x, reaches composition in s (R29, R30, R49): under a record write
generation with its RECORD slot the trip record is composed and its record-code compute job issued; under none the
pass ends COMPLETE-NO-WRITE with NO-WRITE-KEY, a CLOSE OK, a certain entry that expects the counter presented, and
no trip record written. -/
def State.composes (s t : State) (c : ContextNo) (x : Context) : Prop :=
  (∀ g n, s.keys.writeGen = some g → s.findSlot .record 0 g = some n →
    ∃ record job, record = composeRecord x.profile s.clock.minute (blockByte ((x.recordRead 0).getD 0) 0) g ∧
      t.context c = some { x with tripRecord := some record, currentJob := job } ∧
      t.hasJob .recordCompute (.context c) (.slot n) (paddedBlocks (recordCodeMessage x.tagNumber record)) [] ∧
      s.jobsApart t (some c)) ∧
  ((∀ g, s.keys.writeGen = some g → s.findSlot .record 0 g = none) →
    t.ended c x .completeNoWrite s.clock.laneTime ∧ s.passFrame t c ∧
    t.recent = s.recentWith x x.counter false ∧
    s.closes t (s.air.withdraw c) x.servingZone x.tagNumber true ∧
    s.shows t c x
      (fun y => y.flags.noWriteKey = true ∧ y.tripRecord = none ∧ y.recordCheck = x.recordCheck)
      (fun r => r.flags.noWriteKey = true ∧ r.tripRecord = none ∧ r.recordCheck = x.recordCheck))

/-- The pass of context c, which stands as x, ends COMPLETE at a VERIFY zone (R33, R49, R53): a CLOSE OK and a
certain entry that expects the counter presented. -/
def State.verified (s t : State) (c : ContextNo) (x : Context) : Prop :=
  t.ended c x .complete s.clock.laneTime ∧ s.passFrame t c ∧ t.recent = s.recentWith x x.counter false ∧
    s.closes t (s.air.withdraw c) x.servingZone x.tagNumber true ∧
    s.shows t c x (fun y => y.recordCheck = x.recordCheck) (fun r => r.recordCheck = x.recordCheck)

/-- The context after its record check has settled on o, the records it held read (R32, R33, R48). -/
def Context.settled (x : Context) (records : List Block) (o : RecordCheck) : Context :=
  { x with recordsRead := some records, held := none, recordCheck := some o, flags := x.flags.withCheck o }

/-- What the loss of the root leaves of the KEY-LOAD-B q in hand, whose fields are f (R114): NO-ROOT, its slot EMPTY
and nothing pending. -/
def State.loadLost (s t : State) (f : LoadFields) (q : Request) : Prop :=
  s.loadFrame t ∧ t.slot f.slot = Slot.empty ∧ (∀ n, n ≠ f.slot → t.slot n = s.slot n) ∧ t.keys.keyChange = true ∧
    t.mgmt.twoPart = .idle ∧ t.mgmt.candidate = none ∧ t.mgmt.inHand = none ∧ t.events = s.events ∧
    t.lane.responses = s.lane.responses ++ [.response { tag := q.tag, code := q.code, status := .noRoot,
                                                        attention := s.events.flags != 0,
                                                        keyChange := true, data := [] }]

/-! ### Withdrawals (section 5.5, R138) -/

/-- Slot n is withdrawn by expiry at a walk for minute m (R85). -/
def State.expiresAt (s : State) (m : Minute) (n : SlotNo) : Prop :=
  n ≠ 0 ∧ ((s.slot n).state = .active ∨ (s.slot n).state = .retiring) ∧ (s.slot n).erasePending = false ∧
    (s.slot n).validUntil ≠ 0xFFFFFFFF#32 ∧ (s.slot n).validUntil ≤ m

/-- What the withdrawals by expiry of a walk for minute m tell the rest of the part (R85, R91, R94, R138): the record
write generation of an expired RECORD slot is NONE, the cached keys of an expired TAG-MASTER slot are gone, an idle
engine under an expired slot is CLOSED-IDLE, any other engine under one will close its key at the end of its job, and
nothing else of these changes. -/
def State.expiryTold (s t : State) (m : Minute) : Prop :=
  (∀ n, s.expiresAt m n → (s.slot n).role = some .record → s.keys.writeGen = some (s.slot n).generation →
    t.keys.writeGen = none) ∧
  ((∀ n, s.expiresAt m n → (s.slot n).role = some .record → s.keys.writeGen ≠ some (s.slot n).generation) →
    t.keys.writeGen = s.keys.writeGen) ∧
  t.cache.Sublist s.cache ∧
  (∀ k, k ∈ t.cache ↔ k ∈ s.cache ∧ ∀ n, s.expiresAt m n → (s.slot n).role = some .tagMaster →
    ¬(k.issuer = (s.slot n).issuer ∧ k.generation = (s.slot n).generation)) ∧
  t.cipher = { s.cipher with engines := t.cipher.engines } ∧
  ∀ e : EngineNo,
    (∀ n, s.expiresAt m n → (s.engine e).key? = some (.slot n) → t.engine e =
      if (s.engine e).isIdle then Engine.closed else { s.engine e with closeAtEnd := true }) ∧
    ((∀ n, s.expiresAt m n → (s.engine e).key? ≠ some (.slot n)) → t.engine e = s.engine e)

/-- What the withdrawal by loss of slot n does to an engine x (R138): y is x with its loss mark while it was opening the
slot, with its discard and close at end marks while it was running a job under it, and, where it was idle under it,
CLOSED-IDLE or already opening another key for a job given to it since. An engine that was opening or running under
another key goes on. -/
def Engine.afterLoss (n : SlotNo) (x y : Engine) : Prop :=
  match x.state with
  | .closedIdle => True
  | .openIdle k _ => k = .slot n → y.state = .closedIdle ∨ ∃ r j, y.state = .opening r j ∧ j.key ≠ .slot n
  | .opening r j => y.state = .opening r j ∧ (j.key = .slot n → y.loss = true)
  | .busy r j =>
    if j.key = .slot n then y.state = .busy r { j with discard := true } ∧ y.closeAtEnd = true
    else y.state = .busy r j

/-- What the withdrawal by loss of slot n, which stood as x, tells the rest of the part (R93 to R96, R101, R114,
R138), engines aside: the record write generation of a RECORD slot is NONE; the cached keys of a TAG-MASTER slot are
gone and the others keep their order; no queued job names the slot. A pass bound to a TAG-MASTER slot in KEYING,
CHALLENGING or CHECKING has ended KEY-WITHDRAWN; a pass whose record-code job under a RECORD slot waited in the queue
goes on as R31 and R33 say; any other pass that has not ended, none of whose jobs was removed, stands but for its
current job. -/
def State.lossTold (s t : State) (n : SlotNo) (x : Slot) : Prop :=
  t.keys.writeGen = (if x.role = some .record ∧ s.keys.writeGen = some x.generation then none
    else s.keys.writeGen) ∧
  t.cache = (if x.role = some .tagMaster then
    s.cache.filter (fun k => !(k.issuer == x.issuer && k.generation == x.generation)) else s.cache) ∧
  (∀ k ∈ t.cipher.queue, k.key ≠ .slot n) ∧
  ∀ c y, s.context c = some y →
    (x.role = some .tagMaster → y.boundSlot = some n →
      (y.state = .keying ∨ y.state = .challenging ∨ y.state = .checking) →
      (∀ k ∈ s.cipher.queue, k.key = .slot n → k.kind ≠ .recordCompute ∧ k.kind ≠ .recordVerify) →
      t.ended c y .keyWithdrawn s.clock.laneTime) ∧
    (¬(x.role = some .tagMaster ∧ y.boundSlot = some n ∧
        (y.state = .keying ∨ y.state = .challenging ∨ y.state = .checking)) → y.state ≠ .done →
      (∀ k ∈ s.cipher.queue, k.key = .slot n → k.owner ≠ .context c) →
      (t.context c).map Context.apart = some y.apart) ∧
    (∀ kind, x.role = some .record → y.state = .checking →
      (∃ k ∈ s.cipher.queue, k.key = .slot n ∧ k.owner = .context c) →
      (∀ k ∈ s.cipher.queue, k.key = .slot n → k.owner = .context c → k.kind = kind) →
      (kind = .recordCompute → t.ended c y .completeNoWrite s.clock.laneTime) ∧
      (kind = .recordVerify → s.shows t c y (fun z => z.recordCheck = some .recordKeyUnavailable)
        (fun r => r.recordCheck = some .recordKeyUnavailable)))

/-- What the withdrawal by loss of slot n, which stood as x, leaves of the other slots and of the management unit: both
as they were, but where the job of a KEY-LOAD-B in hand waited under the slot: then the load ends NO-ROOT, its slot is
EMPTY and nothing is pending (R95, R114). -/
def State.lossLoads (s t : State) (n : SlotNo) : Prop :=
  ((∀ k ∈ s.cipher.queue, k.key = .slot n → k.owner ≠ .management) →
    t.mgmt = s.mgmt ∧ ∀ m, m ≠ n → t.slot m = s.slot m) ∧
  ∀ f w tag code, (∃ k ∈ s.cipher.queue, k.key = .slot n ∧ k.owner = .management) →
    s.mgmt.twoPart = .load f → f.slot ≠ n → s.mgmt.inHand = some { tag, code, work := .keyLoadB w } →
    t.mgmt.twoPart = .idle ∧ t.mgmt.candidate = none ∧ t.mgmt.inHand = none ∧ t.slot f.slot = Slot.empty ∧
      (∀ m, m ≠ n → m ≠ f.slot → t.slot m = s.slot m) ∧
      ∃ r : Response, (.response r ∈ t.lane.responses.drop s.lane.responses.length ∨ t.mgmt.held = some r) ∧
        r.tag = tag ∧ r.code = code ∧ r.status = .noRoot ∧ r.keyChange = true ∧ r.data = []

/-- What follows the end of a scrub (R97, R100, R103, R176): in INIT the slot at the head leaves the check list, and the
forced scrub of the next is outstanding, or, with none left, the part is in MAINTENANCE; elsewhere the device state
and the list stay. A scrub that is outstanding has its job, in the queue or on an engine. -/
def State.checkGoesOn (s t : State) : Prop :=
  (∀ m l, s.device = .init → s.keys.initCheck = m :: l → t.keys.initCheck = l ∧
    (l = [] → t.device = .maintenance) ∧
    (∀ k more, l = k :: more → t.device = .init ∧
      ∃ r, t.keys.outstanding = some { slot := k, forced := true, running := r })) ∧
  (s.device ≠ .init ∨ s.keys.initCheck = [] → t.device = s.device ∧ t.keys.initCheck = s.keys.initCheck) ∧
  ∀ o, t.keys.outstanding = some o → t.hasJob .scrub .scrub (.slot o.slot) [0] []

/-! ### The key store's test for a scrub (R97 to R99) -/

/-- A scrub of slot n is the outstanding one, and its job, as R100 makes it, stands in the queue or on an engine. -/
def State.scrubIssued (t : State) (n : SlotNo) (forced : Bool) : Prop :=
  (∃ r, t.keys.outstanding = some { slot := n, forced, running := r }) ∧
  ∃ j : Job, t.jobStands j ∧ { j with bypass := 0 } = scrubJob n forced

/-- Slot m is the overdue slot of the greatest age, the lowest-numbered among equals (R99 item 1). -/
def State.oldestOverdue (s : State) (m : SlotNo) : Prop :=
  s.overdue m = true ∧ ∀ k, s.overdue k = true →
    age (s.slot k).lastCheck s.clock.laneTime < age (s.slot m).lastCheck s.clock.laneTime ∨
      (age (s.slot k).lastCheck s.clock.laneTime = age (s.slot m).lastCheck s.clock.laneTime ∧ m ≤ k)

/-- What the key store's test for a scrub, made in s, leaves in t (R99). With one outstanding, or outside MAINTENANCE
and SERVICE, none is issued. Otherwise: with a slot overdue a forced scrub of the oldest, the pointer kept; with none
overdue and no job of a context queued a background scrub of the first slot holding material from the pointer on,
modulo 128, the pointer then one past it; with a job of a context queued, or no slot holding material, none, the
pointer kept. -/
def State.scrubTested (s t : State) : Prop :=
  (s.working = false ∨ s.keys.outstanding ≠ none →
    t.keys.outstanding = s.keys.outstanding ∧ t.keys.scrubPointer = s.keys.scrubPointer) ∧
  (s.working = true → s.keys.outstanding = none →
    ((∃ n, s.overdue n = true) →
      ∃ m, s.oldestOverdue m ∧ t.scrubIssued m true ∧ t.keys.scrubPointer = s.keys.scrubPointer) ∧
    ((∀ n, s.overdue n = false) →
      ((∃ k ∈ s.cipher.queue, ∃ c, k.owner = .context c) ∨ (∀ n, (s.slot n).holdsMaterial = false) →
        t.keys.outstanding = none ∧ t.keys.scrubPointer = s.keys.scrubPointer) ∧
      ((∀ k ∈ s.cipher.queue, ∀ c, k.owner ≠ .context c) → ∀ (i : Nat) (n : SlotNo), i < 128 →
        n.val = (s.keys.scrubPointer.val + i) % 128 → (s.slot n).holdsMaterial = true →
        (∀ (i' : Nat) (m : SlotNo), i' < i → m.val = (s.keys.scrubPointer.val + i') % 128 →
          (s.slot m).holdsMaterial = false) →
        t.scrubIssued n false ∧ t.keys.scrubPointer.val = (n.val + 1) % 128)))

/-- What a slot that is overdue in s brings about at once, in MAINTENANCE and SERVICE (R98, R99): with no scrub
outstanding a forced scrub of the oldest; a queued background scrub becomes forced; a running one goes on. -/
def State.overdueNoted (s t : State) : Prop :=
  t = { s with keys := { s.keys with outstanding := t.keys.outstanding }, cipher := t.cipher } ∧
  (s.keys.outstanding = none → ∃ m, s.oldestOverdue m ∧ t.scrubIssued m true) ∧
  ∀ o, s.keys.outstanding = some o →
    (o.running = true → t = s) ∧
    (o.running = false → t = { s with
      keys := { s.keys with outstanding := some { o with forced := true } }
      cipher := { s.cipher with queue := s.cipher.queue.map fun j =>
        if j.owner = .scrub then { j with forced := true } else j } })

/-! ### The end of a job on its engine (R132) -/

/-- What engine e does at the end of job j, which it ran with register r (R132 steps 2 and 3): u is the part when the
owner has acted, v the part that the arbiter is then asked in. The engine is CLOSED-IDLE where its close at end mark
stood, where the key is a candidate, where the context whose key it is was released by the owner's action, and where the
slot whose scrub it ran lost its material by it; otherwise it is OPEN-IDLE under the key. Both marks are clear and it is
the most recently used. -/
def State.engineEnds (s u v : State) (e : EngineNo) (r : Option Key) (j : Job) : Prop :=
  ∃ w : Engine,
    v = { u with cipher := { u.cipher with
      engines := tableSet u.cipher.engines e w
      lastUse := s.cipher.lastUse.filter (fun d => decide (d ≠ e)) ++ [e] } } ∧
    w.loss = false ∧ w.closeAtEnd = false ∧
    ((s.engine e).closeAtEnd = true ∨ j.key = .loadCandidate ∨ j.key = .rootCandidate → w.state = .closedIdle) ∧
    (∀ c, (j.key = .tk c ∨ j.key = .sk c) → s.context c ≠ none → u.context c = none → w.state = .closedIdle) ∧
    (∀ n, j.kind = .scrub → j.key = .slot n → (s.slot n).holdsMaterial = true → (u.slot n).holdsMaterial = false →
      w.state = .closedIdle) ∧
    ((s.engine e).closeAtEnd = false → j.key ≠ .loadCandidate → j.key ≠ .rootCandidate →
      (∀ c, (j.key = .tk c ∨ j.key = .sk c) → s.context c ≠ none → u.context c ≠ none) →
      (∀ n, j.key = .slot n → (s.slot n).holdsMaterial = true → (u.slot n).holdsMaterial = true) →
      w.state = .openIdle j.key r)

/-! ### The frames the part sends, byte for byte (R187, R188, sections 11.1 to 11.3) -/

/-- The bytes w are a frame of code and payload p: the code byte, the length byte, the payload, and the CRC over these,
the high byte first (R187). -/
def framed (w : WireFrame) (code : Byte) (p : List Byte) : Prop :=
  ∃ crc : Nat, crc = (crc16 (code :: BitVec.ofNat 8 p.length :: p)).toNat ∧
    w = code :: BitVec.ofNat 8 p.length :: (p ++ [BitVec.ofNat 8 (crc / 256), BitVec.ofNat 8 crc])

/-- A downlink frame has the code and the payload of its kind (section 11.1). -/
def DownEntry.laidOut (e : DownEntry) : Prop :=
  ∃ p : List Byte, p[0]? = some e.zone ∧ p[1]? = some e.handle ∧
    match e.body with
    | .step (.challenge tag nonce set ra) =>
      framed e.wire 0x81#8 p ∧ p.length = 21 ∧ field p 2 6 = tag.toNat ∧ field p 8 8 = nonce.toNat ∧
        field p 16 1 = set.toNat ∧ field p 17 4 = ra.toNat
    | .step (.write tag counter record wa) =>
      framed e.wire 0x82#8 p ∧ p.length = 31 ∧ field p 2 6 = tag.toNat ∧ field p 8 3 = counter.toNat ∧
        field p 11 16 = record.toNat ∧ field p 27 4 = wa.toNat
    | .close tag ok =>
      framed e.wire 0x83#8 p ∧ p.length = 9 ∧ field p 2 6 = tag.toNat ∧ p[8]? = some (if ok then 0x00#8 else 0x01#8)
    | .passthrough body => framed e.wire 0x84#8 p ∧ p.drop 2 = body

/-- A RESPONSE or an ALERT has the code and the payload of its class (section 11.2): the indicators byte carries the
attention bit in bit 0 and the key-change bit in bit 1, and its other bits are zero (R188). -/
def Answer.laidOut (a : Answer) : Prop :=
  match a with
  | .response r => ∃ ind : Byte, framed a.wire 0x03#8 ([r.tag, r.code, r.status.byte, ind] ++ r.data) ∧
      ∀ b : Nat, ind.getLsbD b = true ↔ (b = 0 ∧ r.attention = true) ∨ (b = 1 ∧ r.keyChange = true)
  | .alert n t => ∃ p : List Byte, framed a.wire 0x04#8 p ∧ p.length = 5 ∧ field p 0 1 = n.val ∧
      field p 1 4 = t.toNat

/-- The payload p of the report r (section 11.3), of at most eight zones. Bit 7 of byte 0, bit 7 of the flags byte and
bits 6 and 7 of the presence byte are zero by the model's choice (log 35). -/
def PassReport.laidOut (r : PassReport) (p : List Byte) : Prop :=
  ∃ recs : List Block, recs = ((r.records.map Prod.snd).getD []) ∧
    p.length = 24 + 2 * r.zoneList.length + 16 * recs.length + (if r.tripRecord.isSome then 16 else 0) ∧
    (r.zoneList.length ≤ 8 → field p 0 1 = r.zoneList.length + 16 * r.homeZone.val) ∧
    field p 1 4 = r.openTick.toNat ∧ field p 5 4 = r.doneTick.toNat ∧ field p 9 2 = r.issuer.toNat ∧
    field p 11 6 = r.tagNumber.toNat ∧ field p 17 1 = r.generation.toNat ∧ field p 18 3 = r.counter.toNat ∧
    p[21]? = some r.result.byte ∧
    (∀ b : Nat, (byteAt p 22).getLsbD b = true ↔
      (b = 0 ∧ r.flags.oldGeneration = true) ∨ (b = 1 ∧ r.flags.followsUncertain = true) ∨
      (b = 2 ∧ r.flags.noWriteKey = true) ∨ (b = 3 ∧ r.flags.noEntryRecord = true) ∨
      (b = 4 ∧ r.flags.recordKeyUnavailable = true) ∨ (b = 5 ∧ r.flags.recordInvalid = true) ∨
      (b = 6 ∧ r.multiZone = true)) ∧
    (∀ b : Nat, (byteAt p 23).getLsbD b = true ↔
      (∃ set l, r.records = some (set, l) ∧ set.getLsbD b = true) ∨ (b = 4 ∧ r.tripRecord.isSome = true) ∨
      (b = 5 ∧ r.recordCheck.isSome = true)) ∧
    (∀ (i : Nat) (z : ZoneHeard), r.zoneList[i]? = some z →
      field p (24 + 2 * i) 1 = z.zone.val ∧ p[25 + 2 * i]? = some z.rssi) ∧
    (∀ (i : Nat) (b : Block), recs[i]? = some b → field p (24 + 2 * r.zoneList.length + 16 * i) 16 = b.toNat) ∧
    ∀ b, r.tripRecord = some b → field p (24 + 2 * r.zoneList.length + 16 * recs.length) 16 = b.toNat

/-- A REPORT or an UP-PASSTHROUGH has the code and the payload of its class (sections 11.2 and 11.3). -/
def ReportItem.laidOut (x : ReportItem) : Prop :=
  match x with
  | .report r => ∃ p : List Byte, framed x.wire 0x01#8 p ∧ r.laidOut p
  | .upPassthrough kind payload => framed x.wire 0x02#8 (kind :: payload)

/-! ### The cache (R147) -/

/-- The derived-key cache after it has taken an entry (R147), of a cache that held at most 64: the entry stands at the
most recent end, an entry of the same key is gone, the others keep their order, and the least recently used of 64 is
pushed out. -/
def cacheTaken (before after : List CacheEntry) (x : CacheEntry) : Prop :=
  ∀ others, others = before.filter (fun y => !CacheEntry.isFor x.issuer x.generation x.tagNumber y) →
    (others.length < 64 → after = x :: others) ∧
    (∀ kept oldest, others = kept ++ [oldest] → others.length = 64 → after = x :: kept)

/-! ### Commands and checks the claims name -/

/-- The row that ends a job of a kind on engine e. -/
def jobRow (kind : JobKind) (e : EngineNo) : Instr :=
  match kind with
  | .derive => .deriveJobCompletion e
  | .session => .sessionJobCompletion e
  | .ra => .raJobCompletion e
  | .ta => .taJobCompletion e
  | .wa => .waJobCompletion e
  | .ca => .caJobCompletion e
  | .recordCompute => .recordCodeComputeCompletion e
  | .recordVerify => .recordCodeVerifyCompletion e
  | .unwrap => .unwrapJobCompletion e
  | .kcv => .kcvJobCompletion e
  | .combine => .combineJobCompletion e
  | .scrub => .scrubJobCompletion e

/-- A kind of job that a context issues (R125). -/
def JobKind.ofPass : JobKind → Bool
  | .derive | .session | .ra | .ta | .wa | .ca | .recordCompute | .recordVerify => true
  | .unwrap | .kcv | .combine | .scrub => false

/-- The commands that discard every context, or may (R61): the resets, HOLD entry, the wipes, and the line
changes that may enter INIT with a wipe to take. -/
def discards : Instr → Bool
  | .laneReset | .powerOnReset | .hold | .supplyFail | .zeroise | .zeroiseLine | .resetDeasserted | .wake
  | .supplyFailDeasserted => true
  | _ => false

/-- What a calendar walk for minute m does to a slot: EXPIRED at its valid-until, else ACTIVE from STAGED where
AUTO-ACTIVATE is set and it is inside its window (R84, R85). -/
def Slot.walked (m : Minute) (x : Slot) : Slot :=
  if (x.state = .staged ∨ x.state = .active ∨ x.state = .retiring) ∧ x.erasePending = false ∧
      x.validUntil ≠ 0xFFFFFFFF#32 ∧ x.validUntil ≤ m then { x with state := .expired }
  else if x.state = .staged ∧ x.autoActivate = true ∧ x.erasePending = false ∧ x.validFrom ≤ m then
    { x with state := .active }
  else x

/-- The fields of a KEY-LOAD-A are consistent (R111 check 3). -/
def KeyLoadA.consistent (a : KeyLoadA) : Prop :=
  (a.role = 0x01#8 ∨ a.role = 0x02#8) ∧ a.generation.toNat ≤ 15 ∧ a.flags.toNat ≤ 3 ∧ a.issuer ≠ 0xFFFF#16 ∧
    (a.role = 0x01#8 → a.issuer ≠ 0) ∧ (a.role = 0x02#8 → a.issuer = 0) ∧ a.validFrom < a.validUntil

end Sys2Proof.Machine
end

