-- ==== Sys2Proof/Certificates/Slice0/Obligations.lean ====
section
/-! DEFINITION. The statements for the provers. -/

open Sys2Proof Sys2Proof.Machine

/-! ### The step and the clock -/

/-- A step takes the command at the front of the queue and runs it on the rest of the queue, and every command
answers a next state: no command stops the part (log 2). -/
def Obligations.StepRunsFrontCommand : Prop :=
  ∀ (c : Instr) (rest : List Instr) (s : State), s.pending = c :: rest →
    step s = exec c { s with pending := rest } ∧ ∃ t, step s = .next t

/-- With no command waiting, a step takes the part's own next event where one is due, and is a tick where none
is (the model's choice, logs 2 and 3). At a tick lane time counts modulo 2^32 outside HOLD and held reset and
stands otherwise (R184), the minute timer goes from 599,999 to 0, and an advance falls due then if the calendar
is set (R185). -/
def Obligations.IdleStepIsEventOrTick : Prop :=
  ∀ s : State, s.pending = [] →
    (∀ c, s.nextDue = some c → step s = exec c s) ∧
    (s.nextDue = none → ∃ t, step s = .next t ∧
      t = { s with clock := { s.clock with
              laneTime := t.clock.laneTime, minuteTimer := t.clock.minuteTimer, advanceDue := t.clock.advanceDue } } ∧
      (s.device ≠ .hold ∧ s.lines.reset = false → t.clock.laneTime = s.clock.laneTime + 1) ∧
      (s.device = .hold ∨ s.lines.reset = true → t.clock.laneTime = s.clock.laneTime) ∧
      (s.clock.minuteTimer < 599999 →
        t.clock.minuteTimer = s.clock.minuteTimer + 1 ∧ t.clock.advanceDue = s.clock.advanceDue) ∧
      (s.clock.minuteTimer = 599999 →
        t.clock.minuteTimer = 0 ∧ t.clock.advanceDue = (s.clock.advanceDue || s.clock.calendarSet)))

/-! ### What every step keeps, and power-on reset has -/

/-- The state after power-on reset meets every law that the steps keep: the ranges of the profiles, flags
agreeing with counters, the bounds of queues and tables, the laws of the key store, of the INIT check and of the
passes. -/
def Obligations.ResetIsLawful : Prop :=
  State.reset.profile.inRange ∧ State.reset.events.lawful ∧ State.reset.lane.bounded ∧ State.reset.air.bounded ∧
    State.reset.tablesBounded ∧ State.reset.keysLawful ∧ State.reset.initLawful ∧ State.reset.passesLawful

/-- Every step keeps every field of the zone profiles and of the timing record inside its range (R18, R19). -/
def Obligations.StepKeepsProfileRanges : Prop :=
  ∀ s t : State, s.profile.inRange → step s = .next t → t.profile.inRange

/-- Every step keeps each event flag set exactly while its counter is above 0 (R168). -/
def Obligations.StepKeepsFlagsWithCounters : Prop :=
  ∀ s t : State, s.events.lawful → step s = .next t → t.events.lawful

/-- Every step keeps the three lane queues inside their capacities (R160 to R162), the credit, the unconfirmed
frames and the two quotas inside their bounds (R4, R5, R10), the derived-key cache within 64 entries, the
recent-pass table within 256 and the minute timer within 0 to 599,999 (R143, R155, R185). Every step keeps at most
one context to a tag (R39), each context once in the open list of its home zone and in no other (R57), every context
FREE in HOLD, and at most one copy of each context's step frame outstanding (R44); with the quotas this bounds the
downlink queue by 40 frames (R5). -/
def Obligations.StepKeepsBounds : Prop :=
  (∀ s t : State, step s = .next t →
    (s.lane.bounded → t.lane.bounded) ∧ (s.air.bounded → t.air.bounded) ∧ (s.tablesBounded → t.tablesBounded) ∧
      (s.passesLawful → t.passesLawful)) ∧
  ∀ s : State, s.passesLawful → s.air.bounded → s.air.queue.length ≤ 40

/-- Every step keeps the laws of the key store: an EMPTY slot is zero in every field, material stands exactly in the
states that keep it, slot 0 alone is ROOT, a RECORD slot has issuer 0x0000, no two slots hold one key, the lock is
clear while slot 0 is EMPTY or erase pending, the record write generation is that of an ACTIVE RECORD slot, a pending
load's slot is PART-LOADED, an erase in hand has its slot erase pending (R80, R81, R82, R91, R106, R118). Every step
keeps the laws of the INIT check: its list is empty outside INIT and lists slots holding material, each once, and in
INIT at most one job stands, the scrub of the head of the list (R97, R103, R176). -/
def Obligations.StepKeepsKeyLaws : Prop :=
  ∀ s t : State, step s = .next t →
    (s.keysLawful → t.keysLawful) ∧ (s.initLawful → t.initLawful)

/-- A context in use becomes FREE only after its pass report has entered the report queue, but for a discard
(R57, R61). When a job ends for a context that is in DONE, whatever its result, the result is discarded, the context
is as it was with its current job none, and a release is attempted (R38, R133): as the head of its open list it is
FREE and its report joins the report queue while that holds fewer than 64 entries, and it joins the stalled list, once,
at 64 (R58); behind a head that is not in DONE, or whose job runs, it stays. No job of this context is queued, as R38
has it. -/
def Obligations.ContextFreedOnlyWithReport : Prop :=
  (∀ (i : Instr) (s t : State) (c : ContextNo) (x : Context),
    discards i = false → exec i s = .next t → s.context c = some x → t.context c = none →
      ∃ p, ReportItem.report p ∈ t.lane.reports ∧
        p.issuer = x.issuer ∧ p.tagNumber = x.tagNumber ∧ p.openTick = x.openTick) ∧
  (∀ (e : EngineNo) (s : State) (r : Option Key) (j : Job) (c : ContextNo) (x : Context),
    (s.engine e).state = .busy r j → j.kind.ofPass = true → j.owner = .context c → s.context c = some x →
    x.state = .done → (∀ k ∈ s.cipher.queue, k.owner ≠ .context c) →
    ∃ t, exec (jobRow j.kind e) s = .next t ∧ s.passFrame t c ∧ t.recent = s.recent ∧
      (∀ y, t.context c = some y → y = { x with currentJob := .idle }) ∧
      (∀ rest, s.openList x.homeZone = c :: rest →
        (s.lane.reports.length < 64 → t.context c = none ∧
          s.lane.reports ++ [.report (x.report (x.result.getD .abandoned))] <+: t.lane.reports) ∧
        (64 ≤ s.lane.reports.length → t.context c ≠ none ∧ t.lane.reports = s.lane.reports ∧
          (c ∈ s.passes.stalled → t.passes.stalled = s.passes.stalled ∧ t.events = s.events) ∧
          (c ∉ s.passes.stalled → t.passes.stalled = s.passes.stalled ++ [c] ∧
            t.events = s.events.record Event.reportStall.number))) ∧
      (∀ d y rest, s.openList x.homeZone = d :: rest → d ≠ c → s.context d = some y →
        (y.state ≠ .done ∨ y.jobRunning = true) →
        t.context c ≠ none ∧ t.lane.reports = s.lane.reports ∧ t.passes.stalled = s.passes.stalled))

/-! ### Events (section 9.5) -/

/-- A raise sets the event's flag, counts it up to 65,535, leaves every other flag and counter, and sends an
alert with the lane time exactly when the flag was clear, the mask selects the event, the part is not in HOLD
and the response queue has room; nothing else changes (R168, R174). -/
def Obligations.RaiseSetsCountsAndAlerts : Prop :=
  ∀ (s : State) (v : Event), ∃ w : Events,
    (s.raise v = { s with events := w, lane := { s.lane with responses := s.lane.responses ++
        (if s.events.flag v.number = false ∧ s.events.selected v.number = true ∧ s.device ≠ .hold ∧
            s.lane.responses.length < 8 then [Answer.alert v.number s.clock.laneTime] else []) } }) ∧
    w.alertMask = s.events.alertMask ∧
    (∀ n, w.flag n = (decide (n = v.number) || s.events.flag n)) ∧
    (∀ n, n ≠ v.number → tableGet w.counters n = tableGet s.events.counters n) ∧
    (tableGet w.counters v.number).toNat = min 65535 ((tableGet s.events.counters v.number).toNat + 1)

/-! ### The air port (chapter 1) -/

/-- A CREDIT n raises the credit counter by n, to at most 16, and nothing else (R4). A SENT h, a: with no entry
for h it changes nothing; with one, the entry goes, and an owner that has a step frame gets the step deadline
lane time - a + reply timeout, modulo 2^32 (R12, R44). Where that deadline has expired already when it is set, it
expires at once, as the owner's next event (R76): with retries left the deadline is removed and a copy of the step
frame queued, with none the pass ends, NO-REPLY, or in WRITING WRITE-UNCERTAIN with an uncertain recent-pass entry,
and offers a CLOSE FAIL (R46, R53). The model takes that expiry in the step of the SENT (log 32). -/
def Obligations.CreditAndSent : Prop :=
  ∀ (f : PortFrame) (s : State), s.live = true →
    (airFrameGood 0x10#8 f = true → exec (.credit f) s =
      .next { s with air := { s.air with credit := min 16 (s.air.credit + (byteAt f.payload 0).toNat) } }) ∧
    (airFrameGood 0x11#8 f = true →
      (s.air.awaiting (byteAt f.payload 0) = none → exec (.sent f) s = .next s) ∧
      (∀ e, s.air.awaiting (byteAt f.payload 0) = some e →
        (e.owner = none →
          exec (.sent f) s = .next { s with air := { s.air with confirm := s.air.confirm.erase e } }) ∧
        (∀ c x fr (d : Tick), e.owner = some c → s.context c = some x → x.stepFrame = some fr →
          d = s.clock.laneTime - (byteAt f.payload 1).setWidth 32 + BitVec.ofNat 32 x.profile.replyTimeout →
          (expired d s.clock.laneTime = false → exec (.sent f) s = .next { s with
            air := { s.air with confirm := s.air.confirm.erase e }
            passes := { s.passes with
              contexts := tableSet s.passes.contexts c (some { x with stepDeadline := some d }) } }) ∧
          (expired d s.clock.laneTime = true → 0 < x.retriesLeft → exec (.sent f) s = .next { s with
            air := { s.air with confirm := s.air.confirm.erase e }.enqueue (zoneByte x.servingZone) (some c) (.step fr)
            passes := { s.passes with contexts := tableSet s.passes.contexts c (some { x with
              retriesLeft := x.retriesLeft - 1, stepDeadline := none }) } }) ∧
          (expired d s.clock.laneTime = true → x.retriesLeft = 0 → ∃ t, exec (.sent f) s = .next t ∧ s.passFrame t c ∧
            s.closes t ({ s.air with confirm := s.air.confirm.erase e }.withdraw c) x.servingZone x.tagNumber false ∧
            ((x.state = .writing ∨ x.state = .confirming) →
              t.ended c x .writeUncertain s.clock.laneTime ∧ t.recent = s.recentWith x x.counter true) ∧
            (¬(x.state = .writing ∨ x.state = .confirming) →
              t.ended c x .noReply s.clock.laneTime ∧ t.recent = s.recent)))))

/-- An uplink frame that fails its checks is dropped with AIR-CRC; a tag frame in INIT is dropped without an
event; in HOLD and held reset no frame is taken (R1, R2). An OTHER frame, and a HELLO, DATA or COMMIT that names
issuer 0xFFFF, joins the report queue whole as UP-PASSTHROUGH at a fill below 56, and is dropped with
PASSTHROUGH-DROP at 56 or more (R2, R3, R161). -/
def Obligations.UplinkFramesCheckedAndForwarded : Prop :=
  ∀ (i : Instr) (kind : Byte) (f : PortFrame) (s : State), uplinkFrame i = some (kind, f) →
    (s.live = false → exec i s = .next s) ∧
    (s.live = true → s.device = .init → kind ∉ [0x10#8, 0x11#8, 0x12#8] → exec i s = .next s) ∧
    (s.live = true → airFrameGood kind f = false → (s.device = .init → kind ∈ [0x10#8, 0x11#8, 0x12#8]) →
      exec i s = .next (s.raise .airCrc)) ∧
    (s.live = true → s.device ≠ .init → airFrameGood kind f = true →
      (namedUplinkCode kind = false ∨
        (kind ∈ [0x01#8, 0x02#8, 0x03#8] ∧ BitVec.ofNat 16 (field f.payload 2 2) = 0xFFFF#16)) →
      (s.lane.reports.length < 56 → exec i s =
        .next { s with lane := { s.lane with reports := s.lane.reports ++ [.upPassthrough kind f.payload] } }) ∧
      (56 ≤ s.lane.reports.length → exec i s = .next (s.raise .passthroughDrop)))

/-- The handle of an admitted frame is the first value from the next-handle value on, modulo 256, that is not
in use, and the next-handle value then stands one past it; the frame joins the tail of the queue (R6). -/
def Obligations.HandleChoice : Prop :=
  ∀ (a : AirPort) (zone : Byte) (owner : Option ContextNo) (body : DownBody),
    a.queue.length ≤ 40 → a.confirm.length ≤ 16 →
    ∃ (k : Nat) (h : Byte), k < 256 ∧ h = a.nextHandle + BitVec.ofNat 8 k ∧ a.inUse h = false ∧
      (∀ j, j < k → a.inUse (a.nextHandle + BitVec.ofNat 8 j) = true) ∧
      a.enqueue zone owner body =
        { a with queue := a.queue ++ [{ zone, handle := h, owner, body }], nextHandle := h + 1 }

/-- A SEND-FAILED, and a confirmation deadline that expires: the entry goes; with no owner that is all; an owner
with retries left has one fewer, no step deadline, and a copy of its step frame queued toward its serving zone;
one with none ends its pass, NO-REPLY, or in WRITING WRITE-UNCERTAIN with an uncertain recent-pass entry, and offers
a CLOSE FAIL, admitted or dropped with CLOSE-DROP (R8, R13, R14, R45, R53). A SEND-FAILED for a handle that awaits no
confirmation, and a deadline not yet reached, change nothing (R13, R76). -/
def Obligations.FailedSendRetriesOrEnds : Prop :=
  ∀ s : State, s.live = true →
    (∀ (i : Instr) (e : ConfirmEntry),
      ((∃ f, i = .sendFailed f ∧ airFrameGood 0x12#8 f = true ∧ s.air.awaiting (byteAt f.payload 0) = some e) ∨
        (∃ h, i = .confirmationDeadline h ∧ s.air.awaiting h = some e ∧
          expired e.deadline s.clock.laneTime = true)) →
      (e.owner = none → exec i s = .next { s with air := { s.air with confirm := s.air.confirm.erase e } }) ∧
      (∀ c x fr, e.owner = some c → s.context c = some x → x.stepFrame = some fr → 0 < x.retriesLeft →
        exec i s = .next { s with
          air := { s.air with confirm := s.air.confirm.erase e }.enqueue (zoneByte x.servingZone) (some c) (.step fr)
          passes := { s.passes with contexts := tableSet s.passes.contexts c (some { x with
            retriesLeft := x.retriesLeft - 1, stepDeadline := none }) } }) ∧
      (∀ c x fr, e.owner = some c → s.context c = some x → x.stepFrame = some fr → x.retriesLeft = 0 →
        ∃ t, exec i s = .next t ∧ s.passFrame t c ∧
          s.closes t ({ s.air with confirm := s.air.confirm.erase e }.withdraw c) x.servingZone x.tagNumber false ∧
          ((x.state = .writing ∨ x.state = .confirming) →
            t.ended c x .writeUncertain s.clock.laneTime ∧ t.recent = s.recentWith x x.counter true) ∧
          (¬(x.state = .writing ∨ x.state = .confirming) →
            t.ended c x .noReply s.clock.laneTime ∧ t.recent = s.recent))) ∧
    (∀ f : PortFrame, airFrameGood 0x12#8 f = true → s.air.awaiting (byteAt f.payload 0) = none →
      exec (.sendFailed f) s = .next s) ∧
    (∀ h : Byte, (∀ e, s.air.awaiting h = some e → 2 ^ 31 ≤ (s.clock.laneTime - e.deadline).toNat) →
      exec (.confirmationDeadline h) s = .next s)

/-- The start of a downlink send, when the four conditions hold and only then, takes the head and one credit; at
frame-out the frame enters the confirmation list with a deadline 50 ticks later, keeping its owner, or its
withdrawn mark (R10, R11). The frame stands on the port as its code byte, its length byte, its payload, zone and handle
first and then the fields of its kind - CHALLENGE, WRITE, CLOSE or passthrough - and its CRC over these, the high byte
first (R187, R188). The CRC register starts at 0xFFFF and takes each byte into its upper eight bits, then eight shifts,
each with 0x1021 where a 1 leaves the top; it is 0x29B1 for the nine ASCII digits from 1 to 9 (R187). -/
def Obligations.DownlinkSendAndFrameOut : Prop :=
  (∀ e : DownEntry, e.laidOut) ∧
  (crc16 [] = 0xFFFF#16 ∧ crc16 [0x31, 0x32, 0x33, 0x34, 0x35, 0x36, 0x37, 0x38, 0x39] = 0x29B1#16 ∧
    ∀ (l : List Byte) (b : Byte) (shift : BitVec 16 → BitVec 16),
      (∀ g, shift g = if g.getLsbD 15 then (g <<< 1) ^^^ 0x1021#16 else g <<< 1) →
      crc16 (l ++ [b]) = shift (shift (shift (shift (shift (shift (shift (shift
        (crc16 l ^^^ (b.setWidth 16 <<< 8)))))))))) ∧
  ∀ s : State,
    (∀ e rest, s.live = true → s.air.queue = e :: rest → s.air.tx = none → 0 < s.air.credit →
      s.air.confirm.length < 16 →
      exec .downlinkSendStart s = .next { s with air := { s.air with
        queue := rest
        credit := s.air.credit - 1
        tx := some { entry := e, withdrawn := false, wire := e.wire } } }) ∧
    ((s.air.queue = [] ∨ s.air.tx.isSome = true ∨ s.air.credit = 0 ∨ 16 ≤ s.air.confirm.length) →
      exec .downlinkSendStart s = .next s) ∧
    (∀ x, s.air.tx = some x →
      exec .downlinkFrameOut s = .next { s with air := { s.air with
        tx := none
        confirm := s.air.confirm ++ [({ handle := x.entry.handle, owner := x.entry.owner,
                                        deadline := s.clock.laneTime + 50,
                                        withdrawn := x.withdrawn } : ConfirmEntry)] } })

/-- A DOWN-PASSTHROUGH is admitted when fewer than 4 passthrough frames and fewer than 8 CLOSE or passthrough
frames are queued and it names a zone from 0 to 7 with a body of at most 96 bytes, and is dropped with
PASSTHROUGH-DROP otherwise (R9, R159). -/
def Obligations.DownPassthroughAdmission : Prop :=
  ∀ (f : PortFrame) (s : State), s.live = true → laneFrameGood 0x11#8 f = true →
    (∀ zone body, f.payload = zone :: body → zone.toNat < 8 → body.length ≤ 96 →
      s.air.queue.countP (fun e => e.body.isPassthrough) < 4 → s.air.queue.countP (fun e => e.body.isShared) < 8 →
      exec (.downPassthrough f) s =
        .next { s with air := s.air.enqueue zone none (.passthrough body) }) ∧
    ((f.payload = [] ∨ 8 ≤ (byteAt f.payload 0).toNat ∨ 97 < f.payload.length ∨
        4 ≤ s.air.queue.countP (fun e => e.body.isPassthrough) ∨
        8 ≤ s.air.queue.countP (fun e => e.body.isShared)) →
      exec (.downPassthrough f) s = .next (s.raise .passthroughDrop))

/-! ### The opening of a pass (chapters 2, 3, 4 and 8) -/

/-- The recent-pass verdict by the counter distance d = (h - n) mod 2^24: no entry FRESH; with a certain entry d =
0 REPEAT, from 1 below 2^23 FRESH; with an uncertain entry up to 1 FRESH following an uncertain pass, from 2
below 2^23 FRESH; from 2^23 on REPLAY (R73, R74). -/
def Obligations.VerdictTable : Prop :=
  ∀ (h : Counter) (x : RecentEntry) (d : Nat), d = (h.toNat + 2 ^ 24 - x.expected.toNat) % 2 ^ 24 →
    verdictOf none h = .fresh false ∧
    (x.uncertain = false → d = 0 → verdictOf (some x) h = .repeated) ∧
    (x.uncertain = false → 1 ≤ d → d < 2 ^ 23 → verdictOf (some x) h = .fresh false) ∧
    (x.uncertain = true → d ≤ 1 → verdictOf (some x) h = .fresh true) ∧
    (x.uncertain = true → 2 ≤ d → d < 2 ^ 23 → verdictOf (some x) h = .fresh false) ∧
    (2 ^ 23 ≤ d → verdictOf (some x) h = .replay)

/-- A HELLO in SERVICE whose tag no context holds, heard in a zone that is not CLOSED, judged FRESH, with a context
FREE and its TAG-MASTER slot usable, opens the lowest FREE context into KEYING, bound to that slot, with the profile
of its zone, the requested record set, a reader nonce drawn for it, and its SESSION job on a cache hit or its DERIVE
job on a miss; no other context changes (R26, R36, R39, R42). A hit moves its entry to the most recent end of the
cache, the others keeping their order, and a miss leaves the cache (R145). The nonce is the model's free value (log
5). -/
def Obligations.HelloOpensKeying : Prop :=
  ∀ (f : PortFrame) (s : State) (h : Hello) (c : ContextNo) (n : SlotNo) (u : Bool),
    h = helloOf f.payload → s.live = true → s.device = .service → airFrameGood 0x01#8 f = true →
    h.issuer ≠ 0xFFFF#16 → s.contextOf h.issuer h.tagNumber = none → (s.zone h.zone).function ≠ .closed →
    s.freeContext = some c →
    verdictOf (s.ageRecent.recent.find? (RecentEntry.isFor h.issuer h.tagNumber)) h.counter = .fresh u →
    s.findSlot .tagMaster h.issuer h.generation = some n → s.usable n = true →
    ∃ t x, exec (.hello f) s = .next t ∧ t.context c = some x ∧
      x.state = .keying ∧ x.issuer = h.issuer ∧ x.tagNumber = h.tagNumber ∧ x.generation = h.generation ∧
      x.counter = h.counter ∧ x.tagNonce = h.tagNonce ∧ x.homeZone = h.zone ∧ x.servingZone = h.zone ∧
      x.zoneList = [{ zone := h.zone, rssi := h.rssi }] ∧ x.boundSlot = some n ∧ x.profile = s.zone h.zone ∧
      x.openTick = s.clock.laneTime ∧
      x.lifetime = s.clock.laneTime + BitVec.ofNat 32 s.profile.passLimit ∧
      (∀ r : Nat, r < 4 → (x.requestedSet.getLsbD r = true ↔
        r = 0 ∨ (r < h.available ∧ ((s.zone h.zone).recordSet.getLsbD r = true ∨
          ((s.zone h.zone).function = .exit ∧ r = 1))))) ∧
      x.readerNonce = some (Config.freeNonce s.randomDraws) ∧ t.randomDraws = s.randomDraws + 1 ∧
      x.flags = { oldGeneration := decide ((s.slot n).state = .retiring), followsUncertain := u } ∧
      (∀ k, s.cache.find? (CacheEntry.isFor h.issuer h.generation h.tagNumber) = some k →
        x.tagKey = some k.tagKey ∧
        t.cache = k :: s.cache.filter (fun y => !CacheEntry.isFor h.issuer h.generation h.tagNumber y) ∧
        t.hasJob .session (.context c) (.tk c) [nonceBlock h.tagNonce (Config.freeNonce s.randomDraws)] []) ∧
      (s.cache.find? (CacheEntry.isFor h.issuer h.generation h.tagNumber) = none →
        x.tagKey = none ∧ t.cache = s.cache ∧
        t.hasJob .derive (.context c) (.slot n) [derivationBlock h.tagNumber h.issuer h.generation] []) ∧
      t.openList h.zone = s.openList h.zone ++ [c] ∧
      (∀ z, z ≠ h.zone → t.openList z = s.openList z) ∧ (∀ d, d ≠ c → t.context d = s.context d) ∧
      { s with
        randomDraws := t.randomDraws
        recent := s.ageRecent.recent
        cache := t.cache
        passes := { s.passes with openLists := t.passes.openLists } }.jobsApart t (some c)

/-- A HELLO whose tag a context in use holds joins the context in SERVICE and MAINTENANCE alike, changing its
zone list and serving zone alone, and is dropped at a context in DONE (R37, R39, R40). One of a tag no context
holds that opens nothing is forwarded in MAINTENANCE and from a CLOSED zone, dropped with OVERRUN when no context
is FREE, and dropped on a REPEAT (R25, R39, R40). -/
def Obligations.HelloJoinsOrIsTurnedAway : Prop :=
  ∀ (f : PortFrame) (s : State) (h : Hello),
    h = helloOf f.payload → s.live = true → s.device ≠ .init → airFrameGood 0x01#8 f = true →
    h.issuer ≠ 0xFFFF#16 →
    (∀ c x, s.contextOf h.issuer h.tagNumber = some c → s.context c = some x →
      (x.state = .done → exec (.hello f) s = .next s) ∧
      (x.state ≠ .done → ∃ l, exec (.hello f) s = .next { s with passes := { s.passes with
          contexts := tableSet s.passes.contexts c (some { x with zoneList := l, servingZone := h.zone }) } } ∧
        ((∀ y ∈ x.zoneList, y.zone ≠ h.zone) → l = x.zoneList ++ [{ zone := h.zone, rssi := h.rssi }]) ∧
        ((∃ y ∈ x.zoneList, y.zone = h.zone) → l = x.zoneList.map fun y =>
          if y.zone = h.zone then { y with rssi := if y.rssi < h.rssi then h.rssi else y.rssi } else y))) ∧
    (s.contextOf h.issuer h.tagNumber = none →
      ((s.device = .maintenance ∨ (s.zone h.zone).function = .closed) →
        exec (.hello f) s = .next (s.forward 0x01#8 f.payload)) ∧
      (s.device = .service → (s.zone h.zone).function ≠ .closed → (∀ c, s.context c ≠ none) →
        exec (.hello f) s = .next (s.raise .overrun)) ∧
      (s.device = .service → (s.zone h.zone).function ≠ .closed → (∃ c, s.context c = none) →
        verdictOf (s.ageRecent.recent.find? (RecentEntry.isFor h.issuer h.tagNumber)) h.counter = .repeated →
        exec (.hello f) s = .next s.ageRecent))

/-- A HELLO judged REPLAY, or FRESH with no usable master slot, opens a context straight into DONE with REPLAY or
NO-KEY at the open tick. REPLAY raises its event and sends no CLOSE; NO-KEY offers a CLOSE FAIL, admitted or dropped
with CLOSE-DROP (R8); of the other frames none leaves but one owned by a context that is released, given that the FREE
context owned none (framesLawful; StepKeepsBounds). Neither changes the recent-pass table but for its aged head, nor a
key, and neither issues a job: the context has none, and the queue and the job of every engine stay (R41). -/
def Obligations.HelloOpensDone : Prop :=
  ∀ (f : PortFrame) (s : State) (h : Hello) (c : ContextNo) (r : PassResult) (u : Bool),
    h = helloOf f.payload → s.live = true → s.device = .service → airFrameGood 0x01#8 f = true →
    h.issuer ≠ 0xFFFF#16 → s.contextOf h.issuer h.tagNumber = none → (s.zone h.zone).function ≠ .closed →
    s.freeContext = some c →
    ((r = .replay ∧
        verdictOf (s.ageRecent.recent.find? (RecentEntry.isFor h.issuer h.tagNumber)) h.counter = .replay) ∨
      (r = .noKey ∧ (∀ n, s.findSlot .tagMaster h.issuer h.generation = some n → s.usable n = false) ∧
        verdictOf (s.ageRecent.recent.find? (RecentEntry.isFor h.issuer h.tagNumber)) h.counter = .fresh u)) →
    ∃ t, exec (.hello f) s = .next t ∧ t.ended c (s.opened h .done {}) r s.clock.laneTime ∧ s.passFrame t c ∧
      t.recent = s.ageRecent.recent ∧ t.keys = s.keys ∧
      t.cipher.queue = s.cipher.queue ∧ (∀ e, (t.engine e).job? = (s.engine e).job?) ∧
      (∀ y, t.context c = some y → y.currentJob = .idle) ∧
      (r = .replay → t.events.flag Event.replay.number = true ∧ t.air.queue.Sublist s.air.queue ∧
        t.air.nextHandle = s.air.nextHandle) ∧
      (r = .noKey → s.air.sharedCount < 8 → ∃ e ∈ t.air.queue, e.zone = zoneByte h.zone ∧
        e.owner = none ∧ e.body = .close h.tagNumber false) ∧
      (r = .noKey → 8 ≤ s.air.sharedCount → t.events.flag Event.closeDrop.number = true) ∧
      (r = .noKey → (∀ e ∈ s.air.queue, e.owner ≠ some c) → s.closes t s.air h.zone h.tagNumber false)

/-! ### The exchange (chapter 3) -/

/-- A DATA whose tag a context in CHALLENGING holds is taken: the zone is heard, the step frame withdrawn, the
step deadline removed. With the right number of records and the counter presented, the records and the TA are
held, the context is in CHECKING and its TA job, over those records under its session key, is issued; otherwise
the pass ends TAG-AUTH-FAIL, hands no recent-pass entry and offers a CLOSE FAIL toward the zone just heard (R8, R37,
R47, R53, R67). -/
def Obligations.DataIsTaken : Prop :=
  ∀ (f : PortFrame) (s : State) (d : Data) (c : ContextNo) (x : Context),
    d = dataOf f.payload → s.live = true → s.device ≠ .init → airFrameGood 0x02#8 f = true →
    d.issuer ≠ 0xFFFF#16 → s.contextOf d.issuer d.tagNumber = some c → s.context c = some x →
    x.state = .challenging →
    (d.records.length = setSize x.requestedSet → d.counter = x.counter →
      ∃ t y, exec (.data f) s = .next t ∧ t.context c = some y ∧ y.state = .checking ∧
        y.held = some (d.records, d.ta) ∧ y.recordsRead = x.recordsRead ∧
        y.zoneList = hearZone x.zoneList d.zone d.rssi ∧ y.servingZone = d.zone ∧
        y.stepFrame = none ∧ y.stepDeadline = none ∧
        t.hasJob .ta (.context c) (.sk c) (paddedBlocks (taMessage x.tagNumber x.counter d.records)) [] ∧
        (∀ k, k ≠ c → t.context k = s.context k) ∧
        { s with air := s.air.withdraw c }.jobsApart t (some c)) ∧
    ((d.records.length ≠ setSize x.requestedSet ∨ d.counter ≠ x.counter) →
      ∃ t, exec (.data f) s = .next t ∧ t.ended c x .tagAuthFail s.clock.laneTime ∧ s.passFrame t c ∧
        t.recent = s.recent ∧ s.closes t (s.air.withdraw c) d.zone x.tagNumber false)

/-- A COMMIT whose tag a context in WRITING holds is taken: with the new counter one past the counter presented,
modulo 2^24, the CA is held, the context is in CONFIRMING and its CA job is issued; otherwise the pass ends
COMMIT-AUTH-FAIL with an uncertain recent-pass entry and a CLOSE FAIL toward the zone just heard (R8, R37, R51, R53,
R68). -/
def Obligations.CommitIsTaken : Prop :=
  ∀ (f : PortFrame) (s : State) (m : Commit) (c : ContextNo) (x : Context),
    m = commitOf f.payload → s.live = true → s.device ≠ .init → airFrameGood 0x03#8 f = true →
    m.issuer ≠ 0xFFFF#16 → s.contextOf m.issuer m.tagNumber = some c → s.context c = some x →
    x.state = .writing →
    (m.newCounter = x.counter + 1 →
      ∃ t y, exec (.commit f) s = .next t ∧ t.context c = some y ∧ y.state = .confirming ∧
        y.heldCa = some m.ca ∧ y.zoneList = hearZone x.zoneList m.zone m.rssi ∧ y.servingZone = m.zone ∧
        y.stepFrame = none ∧ y.stepDeadline = none ∧
        t.hasJob .ca (.context c) (.sk c) (paddedBlocks (caMessage x.tagNumber m.newCounter)) [] ∧
        (∀ k, k ≠ c → t.context k = s.context k) ∧
        { s with air := s.air.withdraw c }.jobsApart t (some c)) ∧
    (m.newCounter ≠ x.counter + 1 →
      ∃ t, exec (.commit f) s = .next t ∧ t.ended c x .commitAuthFail s.clock.laneTime ∧ s.passFrame t c ∧
        t.recent = s.recentWith x x.counter true ∧ s.closes t (s.air.withdraw c) m.zone x.tagNumber false)

/-- A DATA or COMMIT no context takes is dropped with STRAY, but forwarded in MAINTENANCE when no context holds
its tag (R56). -/
def Obligations.Strays : Prop :=
  ∀ (i : Instr) (kind : Byte) (f : PortFrame) (s : State) (taking : PassState) (issuer : Issuer)
    (tag : TagNumber),
    ((i = .data f ∧ kind = 0x02#8 ∧ taking = .challenging) ∨ (i = .commit f ∧ kind = 0x03#8 ∧ taking = .writing)) →
    s.live = true → s.device ≠ .init → airFrameGood kind f = true →
    issuer = BitVec.ofNat 16 (field f.payload 2 2) → tag = BitVec.ofNat 48 (field f.payload 4 6) →
    issuer ≠ 0xFFFF#16 →
    (s.contextOf issuer tag = none → s.device = .maintenance → exec i s = .next (s.forward kind f.payload)) ∧
    (s.contextOf issuer tag = none → s.device = .service → exec i s = .next (s.raise .stray)) ∧
    (∀ c x, s.contextOf issuer tag = some c → s.context c = some x → x.state ≠ taking →
      exec i s = .next (s.raise .stray))

/-! ### Job completions of a pass (R38, R43, R48 to R52, R70) -/

/-- DERIVE completes in KEYING: the result is the tag key, offered to the cache, and the SESSION job is issued under
it (R43 step 1). With the bound slot ACTIVE or RETIRING the cache takes the entry at its most recent end: one of the
same key is replaced, the others keep their order, and the least recently used of 64 is pushed out; otherwise the
cache stays (R146, R147). SESSION completes in KEYING: the result is the session key, and the RA job is issued under
it over the RA message (R43 step 2, R65, R67). -/
def Obligations.DeriveAndSessionCompletion : Prop :=
  ∀ (e : EngineNo) (s : State) (k : Key) (j : Job) (c : ContextNo) (x : Context),
    s.runs e k j → j.owner = .context c → s.context c = some x → x.state = .keying →
    (j.kind = .derive →
      ∃ t y, exec (.deriveJobCompletion e) s = .next t ∧ t.context c = some y ∧ y.state = .keying ∧
        y.tagKey = some (chain k j.input) ∧
        t.hasJob .session (.context c) (.tk c) [nonceBlock x.tagNonce (x.readerNonce.getD 0)] [] ∧
        (∀ n, x.boundSlot = some n → (s.slot n).serves = true → cacheTaken s.cache t.cache
          { issuer := x.issuer, generation := x.generation, tagNumber := x.tagNumber, tagKey := chain k j.input }) ∧
        (∀ n, x.boundSlot = some n → (s.slot n).serves = false → t.cache = s.cache) ∧
        { s with cache := t.cache }.jobsApart t (some c)) ∧
    (j.kind = .session →
      ∃ t y, exec (.sessionJobCompletion e) s = .next t ∧ t.context c = some y ∧ y.state = .keying ∧
        y.sessionKey = some (chain k j.input) ∧ y.tagKey = x.tagKey ∧
        t.hasJob .ra (.context c) (.sk c)
          (paddedBlocks (raMessage x.tagNumber (x.readerNonce.getD 0) x.tagNonce x.requestedSet)) [] ∧
        s.jobsApart t (some c))

/-- RA completes in KEYING, and WA in CHECKING: the CHALLENGE, or the WRITE, joins the downlink queue toward the
serving zone with the context as owner, the context keeps it as its step frame and stands behind it in
CHALLENGING, or in WRITING, with its profile's retries and no step deadline (R43 step 3, R50, R7). -/
def Obligations.ChallengeAndWriteAreQueued : Prop :=
  ∀ (i : Instr) (e : EngineNo) (s : State) (k : Key) (j : Job) (c : ContextNo) (x : Context) (st : PassState)
    (fr : StepFrame),
    s.runs e k j → j.owner = .context c → s.context c = some x →
    ((i = .raJobCompletion e ∧ j.kind = .ra ∧ x.state = .keying ∧ st = .challenging ∧
        fr = .challenge x.tagNumber (x.readerNonce.getD 0) x.requestedSet (firstFour (chain k j.input))) ∨
      (i = .waJobCompletion e ∧ j.kind = .wa ∧ x.state = .checking ∧ st = .writing ∧
        fr = .write x.tagNumber x.counter (x.tripRecord.getD 0) (firstFour (chain k j.input)))) →
    ∃ t y, exec i s = .next t ∧ t.context c = some y ∧ y.state = st ∧ y.stepFrame = some fr ∧
      y.retriesLeft = x.profile.retries ∧ y.stepDeadline = none ∧
      t.air = s.air.enqueue (zoneByte x.servingZone) (some c) (.step fr) ∧
      { s with air := t.air }.jobsApart t (some c)

/-- TA completes in CHECKING (R48, R49, R53). On a mismatch the pass ends TAG-AUTH-FAIL with a CLOSE FAIL, its report
carries no records and the recent-pass table gets no entry. On a match the records held are the records read. An ENTRY
or POINT pass reaches composition (R29, R30): under a record write generation the trip record and its record-code
compute job, under NONE the end COMPLETE-NO-WRITE with NO-WRITE-KEY. An EXIT pass, or a VERIFY pass that asked for
record 1, makes its record check (R32): over an ENTRY record a slot serves, the record-code verify job; with record 1
not requested, or no ENTRY record, NO-ENTRY-RECORD; with no slot to serve it RECORD-KEY-UNAVAILABLE; so settled, a
VERIFY pass ends COMPLETE and an EXIT pass reaches composition. A VERIFY pass that did not ask for record 1 ends
COMPLETE with no outcome, its certain entry expecting the counter presented. -/
def Obligations.TaCompletion : Prop :=
  ∀ (e : EngineNo) (s : State) (k : Key) (j : Job) (c : ContextNo) (x : Context) (recs : List Block) (ta : Auth),
    s.runs e k j → j.kind = .ta → j.owner = .context c → s.context c = some x → x.state = .checking →
    x.held = some (recs, ta) → x.recordsRead = none →
    (firstFour (chain k j.input) ≠ ta →
      ∃ t, exec (.taJobCompletion e) s = .next t ∧ t.ended c x .tagAuthFail s.clock.laneTime ∧ s.passFrame t c ∧
        t.recent = s.recent ∧ s.closes t (s.air.withdraw c) x.servingZone x.tagNumber false ∧
        s.shows t c x (fun y => y.recordsRead = none) (fun r => r.records = none)) ∧
    (firstFour (chain k j.input) = ta → (x.profile.function = .entry ∨ x.profile.function = .point) →
      ∃ t, exec (.taJobCompletion e) s = .next t ∧ s.composes t c { x with recordsRead := some recs, held := none }) ∧
    (firstFour (chain k j.input) = ta →
      (x.profile.function = .exit ∨ (x.profile.function = .verify ∧ x.requestedSet.getLsbD 1 = true)) →
      (∀ r n, { x with recordsRead := some recs }.recordRead 1 = some r → blockByte r 9 = 1 →
        s.checkSlot (blockByte r 8) = some n →
        ∃ t y, exec (.taJobCompletion e) s = .next t ∧ t.context c = some y ∧ y.state = .checking ∧
          y.recordsRead = some recs ∧ y.held = none ∧
          t.hasJob .recordVerify (.context c) (.slot n) (paddedBlocks (recordCodeMessage x.tagNumber r)) [] ∧
          s.jobsApart t (some c)) ∧
      (∀ o : RecordCheck,
        (o = .noEntryRecord ∧ (∀ r, { x with recordsRead := some recs }.recordRead 1 = some r → blockByte r 9 ≠ 1) ∨
          o = .recordKeyUnavailable ∧ (∃ r, { x with recordsRead := some recs }.recordRead 1 = some r ∧
            blockByte r 9 = 1 ∧ s.checkSlot (blockByte r 8) = none)) →
        ∃ t, exec (.taJobCompletion e) s = .next t ∧
          (x.profile.function = .verify → s.verified t c (x.settled recs o)) ∧
          (x.profile.function = .exit → s.composes t c (x.settled recs o)))) ∧
    (firstFour (chain k j.input) = ta → x.profile.function = .verify → x.requestedSet.getLsbD 1 = false →
      ∃ t, exec (.taJobCompletion e) s = .next t ∧ s.verified t c { x with recordsRead := some recs, held := none })

/-- The record-code compute job completes in CHECKING (R31): with the record write generation unchanged the code is
placed and the WA job issued over the record with its code; changed, or the result discarded because the slot was lost
while the job ran (R133), the pass ends COMPLETE-NO-WRITE with the NO-WRITE-KEY flag, no trip record written, a CLOSE
OK and a certain entry that expects the counter presented (R8, R53). -/
def Obligations.RecordCodeCompute : Prop :=
  ∀ (e : EngineNo) (s : State) (k : Key) (j : Job) (c : ContextNo) (x : Context) (record : Block) (g : Generation),
    (s.engine e).state = .busy (some k) j → j.kind = .recordCompute → j.owner = .context c → s.context c = some x →
    x.state = .checking → x.tripRecord = some record → (blockByte record 8).toNat = g.toNat →
    (j.discard = false → s.keys.writeGen = some g →
      ∃ t y placed, exec (.recordCodeComputeCompletion e) s = .next t ∧ t.context c = some y ∧
        y.state = .checking ∧ y.tripRecord = some placed ∧
        recordCode placed = firstFour (chain k j.input) ∧ placed >>> 32 = record >>> 32 ∧
        t.hasJob .wa (.context c) (.sk c) (paddedBlocks (waMessage x.tagNumber x.counter placed)) [] ∧
        s.jobsApart t (some c)) ∧
    (j.discard = true ∨ s.keys.writeGen ≠ some g →
      ∃ t, exec (.recordCodeComputeCompletion e) s = .next t ∧ t.ended c x .completeNoWrite s.clock.laneTime ∧
        s.passFrame t c ∧ t.recent = s.recentWith x x.counter false ∧
        s.closes t (s.air.withdraw c) x.servingZone x.tagNumber true ∧
        s.shows t c x (fun y => y.flags.noWriteKey = true ∧ y.tripRecord = none)
          (fun r => r.flags.noWriteKey = true ∧ r.tripRecord = none))

/-- The record-code verify job completes in CHECKING (R32, R33): VALID when the code read equals the code
computed, RECORD-INVALID when it differs, RECORD-KEY-UNAVAILABLE when the slot was lost and the result is
discarded. A VERIFY pass then ends COMPLETE, with a CLOSE OK and a certain entry that expects the counter presented, and
an EXIT pass reaches composition (R8, R29, R30, R49, R53). -/
def Obligations.RecordCodeVerify : Prop :=
  ∀ (e : EngineNo) (s : State) (k : Key) (j : Job) (c : ContextNo) (x : Context) (record : Block) (o : RecordCheck),
    (s.engine e).state = .busy (some k) j → j.kind = .recordVerify → j.owner = .context c →
    s.context c = some x → x.state = .checking → x.recordRead 1 = some record →
    ((j.discard = false ∧ recordCode record = firstFour (chain k j.input) ∧ o = .valid) ∨
      (j.discard = false ∧ recordCode record ≠ firstFour (chain k j.input) ∧ o = .recordInvalid) ∨
      (j.discard = true ∧ o = .recordKeyUnavailable)) →
    ∃ t, exec (.recordCodeVerifyCompletion e) s = .next t ∧ s.passFrame t c ∧
      s.shows t c x (fun y => y.recordCheck = some o) (fun r => r.recordCheck = some o) ∧
      (x.profile.function = .verify →
        s.verified t c { x with recordCheck := some o, flags := x.flags.withCheck o }) ∧
      (x.profile.function = .exit →
        s.composes t c { x with recordCheck := some o, flags := x.flags.withCheck o })

/-- CA completes in CONFIRMING (R52, R53): on a match the pass ends COMPLETE with a CLOSE OK and the recent-pass table
expects the counter presented plus one; on a mismatch it ends COMMIT-AUTH-FAIL with a CLOSE FAIL and an uncertain entry
expecting the counter presented. The CLOSE is admitted or dropped under the shared quota (R8). -/
def Obligations.CaCompletion : Prop :=
  ∀ (e : EngineNo) (s : State) (k : Key) (j : Job) (c : ContextNo) (x : Context) (ca : Auth),
    s.runs e k j → j.kind = .ca → j.owner = .context c → s.context c = some x → x.state = .confirming →
    x.heldCa = some ca → x.profile.function ≠ .verify →
    (firstFour (chain k j.input) = ca →
      ∃ t, exec (.caJobCompletion e) s = .next t ∧ t.ended c x .complete s.clock.laneTime ∧ s.passFrame t c ∧
        t.recent = s.recentWith x (x.counter + 1) false ∧
        s.closes t (s.air.withdraw c) x.servingZone x.tagNumber true) ∧
    (firstFour (chain k j.input) ≠ ca →
      ∃ t, exec (.caJobCompletion e) s = .next t ∧ t.ended c x .commitAuthFail s.clock.laneTime ∧
        s.passFrame t c ∧ t.recent = s.recentWith x x.counter true ∧
        s.closes t (s.air.withdraw c) x.servingZone x.tagNumber false)

/-! ### Deadlines and ages (R46, R54, R98, R152) -/

/-- A step deadline that has expired leaves a copy of the step frame queued while retries remain, with no step
deadline, and ends the pass when none do: NO-REPLY, or in WRITING WRITE-UNCERTAIN with an uncertain recent-pass
entry, and a CLOSE FAIL offered; one not reached, or absent, has no effect (R8, R46, R53, R76). -/
def Obligations.StepDeadlineExpires : Prop :=
  ∀ (c : ContextNo) (s : State) (x : Context), s.context c = some x →
    (∀ d fr, x.stepDeadline = some d → expired d s.clock.laneTime = true → x.stepFrame = some fr →
      0 < x.retriesLeft →
      exec (.stepDeadlineExpiry c) s = .next { s with
        air := s.air.enqueue (zoneByte x.servingZone) (some c) (.step fr)
        passes := { s.passes with contexts := tableSet s.passes.contexts c (some { x with
          retriesLeft := x.retriesLeft - 1, stepDeadline := none }) } }) ∧
    (∀ d, x.stepDeadline = some d → expired d s.clock.laneTime = true → x.retriesLeft = 0 →
      ∃ t, exec (.stepDeadlineExpiry c) s = .next t ∧ s.passFrame t c ∧
        s.closes t (s.air.withdraw c) x.servingZone x.tagNumber false ∧
        ((x.state = .writing ∨ x.state = .confirming) →
          t.ended c x .writeUncertain s.clock.laneTime ∧ t.recent = s.recentWith x x.counter true) ∧
        (¬(x.state = .writing ∨ x.state = .confirming) →
          t.ended c x .noReply s.clock.laneTime ∧ t.recent = s.recent)) ∧
    ((∀ d, x.stepDeadline = some d → expired d s.clock.laneTime = false) →
      exec (.stepDeadlineExpiry c) s = .next s)

/-- A lifetime deadline that has expired ends the pass of a context not in DONE: WRITE-UNCERTAIN, with an uncertain
recent-pass entry, in WRITING and CONFIRMING, ABANDONED, with none, in KEYING, CHALLENGING and CHECKING; a CLOSE FAIL
is offered, and no frame has the context as owner any more. It has no effect before the deadline or in DONE (R8, R53,
R54). The head removal takes the aged entries off the head of the recent-pass table, up to the first young one, and
nothing else (R152). -/
def Obligations.LifetimeAndRecentPassAge : Prop :=
  ∀ s : State,
    (∀ (c : ContextNo) (x : Context), s.context c = some x →
      (x.state ≠ .done → expired x.lifetime s.clock.laneTime = true →
        ∃ t, exec (.lifetimeDeadlineExpiry c) s = .next t ∧ s.passFrame t c ∧
          s.closes t (s.air.withdraw c) x.servingZone x.tagNumber false ∧
          (∀ e ∈ t.air.queue, e.owner ≠ some c) ∧ (∀ y, t.air.tx = some y → y.entry.owner ≠ some c) ∧
          (∀ e ∈ t.air.confirm, e.owner ≠ some c) ∧
          ((x.state = .writing ∨ x.state = .confirming) →
            t.ended c x .writeUncertain s.clock.laneTime ∧
            t.recent = s.recentWith x x.counter true) ∧
          ((x.state = .keying ∨ x.state = .challenging ∨ x.state = .checking) →
            t.ended c x .abandoned s.clock.laneTime ∧ t.recent = s.recent)) ∧
      ((x.state = .done ∨ expired x.lifetime s.clock.laneTime = false) →
        exec (.lifetimeDeadlineExpiry c) s = .next s)) ∧
    (∃ l t, exec .recentPassAgeing s = .next t ∧ t = { s with recent := t.recent } ∧ s.recent = l ++ t.recent ∧
      (∀ x ∈ l, s.profile.repeatWindow * 10000 ≤ (s.clock.laneTime - x.tick).toNat) ∧
      (∀ x, t.recent.head? = some x → (s.clock.laneTime - x.tick).toNat < s.profile.repeatWindow * 10000))

/-! ### Engines and the arbiter (chapter 7) -/

/-- An opening that completes with the loss mark clear leaves the engine BUSY with its job and its marks as they stood
(R131). With it set the key is closed and the job ends without running: the engine is CLOSED-IDLE, or opening the key
of a job that the arbiter then took from the queue, both its marks are clear, and it has moved to the most recent end
of the last-use order; no engine has the old job, given that only this one had it, that the slot lost its material and
that every slot of the INIT check list holds its own (R97, R103; StepKeepsKeyLaws). The owner receives the end as a
discarded one (R133): a context in DONE keeps everything but its current job, for its release to be attempted; in
CHECKING a compute job ends the pass COMPLETE-NO-WRITE (R31) and a verify job settles RECORD-KEY-UNAVAILABLE (R33);
any other pass goes on; a scrub judges no slot, and the INIT check goes on to its next slot or ends (R103); a
KEY-LOAD-B ends NO-ROOT with its slot EMPTY (R114). -/
def Obligations.OpeningCompletes : Prop :=
  ∀ (e : EngineNo) (s : State) (m : Option Key) (j : Job), (s.engine e).state = .opening m j →
    ((s.engine e).loss = false → exec (.openCompletion e) s = .next { s with cipher := { s.cipher with
      engines := tableSet s.cipher.engines e { s.engine e with state := .busy m j } } }) ∧
    ((s.engine e).loss = true → ∃ t, exec (.openCompletion e) s = .next t ∧
      t.cipher.lastUse = s.cipher.lastUse.filter (fun d => decide (d ≠ e)) ++ [e] ∧
      (t.engine e).loss = false ∧ (t.engine e).closeAtEnd = false ∧
      ((t.engine e).state = .closedIdle ∨
        ∃ m' j', (t.engine e).state = .opening m' j' ∧ j' ∈ (s.deliver j none).cipher.queue) ∧
      ((∀ d, d ≠ e → (s.engine d).job? ≠ some j) → j ∉ s.cipher.queue →
        (∀ n, j.key = .slot n → (s.slot n).holdsMaterial = false) →
        (∀ m ∈ s.keys.initCheck, (s.slot m).holdsMaterial = true) → ∀ d, (t.engine d).job? ≠ some j) ∧
      (∀ c x, j.owner = .context c → s.context c = some x → j.kind.ofPass = true →
        (x.state = .done → (∀ k ∈ s.cipher.queue, k.owner ≠ .context c) →
          s.passFrame t c ∧ t.recent = s.recent ∧ ∀ y, t.context c = some y → y = { x with currentJob := .idle }) ∧
        (x.state = .checking → j.kind = .recordCompute →
          t.ended c x .completeNoWrite s.clock.laneTime ∧ s.passFrame t c ∧ t.recent = s.recentWith x x.counter false) ∧
        (x.state = .checking → j.kind = .recordVerify → s.passFrame t c ∧
          s.shows t c x (fun y => y.recordCheck = some .recordKeyUnavailable)
            (fun r => r.recordCheck = some .recordKeyUnavailable)) ∧
        (x.state ≠ .done → ¬(x.state = .checking ∧ (j.kind = .recordCompute ∨ j.kind = .recordVerify)) →
          s.jobsApart t none)) ∧
      (∀ n, j.kind = .scrub → j.key = .slot n →
        { s with
          device := t.device
          keys := { s.keys with initCheck := t.keys.initCheck } }.jobsApart t none ∧ s.checkGoesOn t) ∧
      (∀ f w q, j.kind = .unwrap → s.mgmt.twoPart = .load f → f.slot ≠ 0 →
        s.mgmt.inHand = some { tag := q.tag, code := q.code, work := .keyLoadB w } → s.lane.responses.length < 8 →
        s.loadLost t f q))

/-- The arbiter's choice for an idle engine (R134): the first of the tests - a forced scrub, the oldest job at the
bypass limit, the oldest job under the engine's open key, the oldest job whose key is not open on another idle
engine - that finds a job decides. A dispatch from the queue takes out the job chosen, adds one to the bypass
count of each older job, up to 4, and leaves the younger ones (R130, R136). At a job's arrival the engine is the lowest
idle one with its key open, else the lowest CLOSED-IDLE one, else the least recently used idle one; none is chosen
exactly when no engine is idle, and the job then waits at the tail; on the engine chosen it is BUSY at once under its
own open key and OPENING otherwise, and the queue and the other engines stay (R130, R135). At the end of every job that
ran, the owner acts first; the engine then keeps its key open and idle, or is CLOSED-IDLE where its close at end mark
stood, the key is a candidate, or the owner's action released the context or lost the slot of the key (for a context's
key the model's reading, log 14); both marks are clear, it is the most recently used, and the arbiter is asked for it;
no engine has that job any more, a job but a scrub that no other engine had and that did not wait (a scrub of the same
slot may follow at once) (R132). -/
def Obligations.ArbiterChoosesAndCountsBypasses : Prop :=
  (∀ (e : EngineNo) (s : State) (r : Option Key) (j : Job), (s.engine e).state = .busy r j →
    ∃ u v, u = s.deliver j (if j.discard then none else j.output r) ∧ s.engineEnds u v e r j ∧
      exec (jobRow j.kind e) s = .next (v.arbitrate e) ∧
      (j.kind ≠ .scrub → (∀ d, d ≠ e → (s.engine d).job? ≠ some j) → j ∉ s.cipher.queue →
        ∀ d, ((v.arbitrate e).engine d).job? ≠ some j)) ∧
  ∀ (s : State) (e : EngineNo) (tests : List (Job → Bool)),
    tests = [fun j => j.kind == .scrub && j.forced, fun j => j.bypass == 4,
             fun j => (s.engine e).openIdleUnder j.key, fun j => !s.openElsewhere e j.key] →
    (∀ i, s.choice e = some i ↔ ∃ (k : Nat) (j : Job), s.cipher.queue[i]? = some j ∧
      (∃ p : Job → Bool, tests[k]? = some p ∧ p j = true ∧
        ∀ (i' : Nat) (j' : Job), i' < i → s.cipher.queue[i']? = some j' → p j' = false) ∧
      ∀ (k' : Nat) (p' : Job → Bool), k' < k → tests[k']? = some p' → ∀ j' ∈ s.cipher.queue, p' j' = false) ∧
    (s.choice e = none ↔ ∀ p ∈ tests, ∀ j ∈ s.cipher.queue, p j = false) ∧
    (s.choice e = none → s.arbitrate e = s) ∧
    (∀ i j, s.choice e = some i → s.cipher.queue[i]? = some j →
      ((s.arbitrate e).engine e).job? = some j ∧
      (∀ r, (s.engine e).state = .openIdle j.key r → ((s.arbitrate e).engine e).state = .busy r j) ∧
      ((s.engine e).openIdleUnder j.key = false → ((s.arbitrate e).engine e).state = .opening (s.material j) j) ∧
      (s.keys.outstanding.isSome = true →
        ∃ older younger, s.cipher.queue = older ++ j :: younger ∧ older.length = i ∧
          (s.arbitrate e).cipher.queue =
            older.map (fun k => { k with bypass := min 4 (k.bypass + 1) }) ++ younger)) ∧
    (∀ j : Job,
      (s.idleEngineFor j = some e ↔
        ((s.engine e).openIdleUnder j.key = true ∧ ∀ d, d < e → (s.engine d).openIdleUnder j.key = false) ∨
        ((∀ d, (s.engine d).openIdleUnder j.key = false) ∧ (s.engine e).state = .closedIdle ∧
          ∀ d, d < e → (s.engine d).state ≠ .closedIdle) ∨
        ((∀ d, (s.engine d).openIdleUnder j.key = false ∧ (s.engine d).state ≠ .closedIdle) ∧
          (s.engine e).isIdle = true ∧ ∃ older newer, s.cipher.lastUse = older ++ e :: newer ∧
            ∀ d ∈ older, (s.engine d).isIdle = false)) ∧
      ((∀ d, d ∈ s.cipher.lastUse) → (s.idleEngineFor j = none ↔ ∀ d, (s.engine d).isIdle = false)) ∧
      (s.idleEngineFor j = none → s.arrive j = s.setJobs (s.cipher.queue ++ [j])) ∧
      (s.idleEngineFor j = some e →
        (s.arrive j).cipher.queue = s.cipher.queue ∧ (∀ d, d ≠ e → (s.arrive j).engine d = s.engine d) ∧
        (∀ r, (s.engine e).state = .openIdle j.key r → ((s.arrive j).engine e).state = .busy r j) ∧
        ((s.engine e).openIdleUnder j.key = false → ((s.arrive j).engine e).state = .opening (s.material j) j)))

/-! ### The key store (chapter 5) -/

/-- A SCRUB completes on a slot holding material (R100, R102): equal to the stored KCV, its last-check tick is the
lane time and nothing else of any slot changes; outside INIT, with no job of a context queued, the test for the next
scrub follows at once (R99). Different, the slot is FAULTED with its material cleared and its
attributes, stored KCV and last-check tick kept, SCRUB-FAULT is counted and the key-change indicator set, and the slot
is withdrawn by loss (R93 to R96, R138): write generation, cache, queued jobs, bound passes and a load whose UNWRAP
waited under it are told; an engine under the slot closes its key, and the engine of the scrub has closed it and is
CLOSED-IDLE or opening another; clock, lines, profile, lock and requests stay. Here the list names the slot once, and
a load pending's slot is another one, being PART-LOADED (R103, R106; StepKeepsKeyLaws). A discarded result, and one
for a slot that holds its material no longer, leave every slot. Whatever the outcome the INIT check goes on to its
next slot, or ends in MAINTENANCE (R103, R176). -/
def Obligations.ScrubJudgesSlot : Prop :=
  ∀ (e : EngineNo) (s : State) (k : Key) (j : Job) (n : SlotNo),
    (s.engine e).state = .busy (some k) j → j.kind = .scrub → j.owner = .scrub → j.key = .slot n →
    (j.discard = false → (s.slot n).holdsMaterial = true → firstThree (chain k j.input) = (s.slot n).kcv →
      ∃ t, exec (.scrubJobCompletion e) s = .next t ∧
        t.slot n = { s.slot n with lastCheck := s.clock.laneTime } ∧ (∀ m, m ≠ n → t.slot m = s.slot m) ∧
        { s with
          device := t.device
          keys := { s.keys with slots := t.keys.slots, initCheck := t.keys.initCheck } }.jobsApart t none ∧
        s.checkGoesOn t ∧
        (s.device ≠ .init → (∀ k ∈ s.cipher.queue, ∀ c, k.owner ≠ .context c) →
          { s with keys := { s.keys with slots := t.keys.slots, outstanding := none } }.scrubTested t)) ∧
    (j.discard = false → (s.slot n).holdsMaterial = true → firstThree (chain k j.input) ≠ (s.slot n).kcv →
      n ∉ s.keys.initCheck.drop 1 → (∀ f, s.mgmt.twoPart = .load f → f.slot ≠ n) →
      ∃ t, exec (.scrubJobCompletion e) s = .next t ∧
        t.slot n = { s.slot n with state := .faulted, material := none } ∧ t.keys.keyChange = true ∧
        t.events.flag Event.scrubFault.number = true ∧
        (tableGet t.events.counters Event.scrubFault.number).toNat =
          min 65535 ((tableGet s.events.counters Event.scrubFault.number).toNat + 1) ∧
        s.lossTold t n (s.slot n) ∧ s.lossLoads t n ∧ (∀ c, s.context c = none → t.context c = none) ∧
        (∀ d, d ≠ e → (s.engine d).afterLoss n (t.engine d)) ∧
        ((t.engine e).state = .closedIdle ∨ ∃ r j', (t.engine e).state = .opening r j' ∧ j'.key ≠ .slot n) ∧
        (t.engine e).loss = false ∧ (t.engine e).closeAtEnd = false ∧
        t = { s with
          device := t.device, passes := t.passes, cipher := t.cipher, air := t.air, recent := t.recent
          cache := t.cache, events := t.events, mgmt := t.mgmt
          lane := { s.lane with responses := t.lane.responses, reports := t.lane.reports }
          keys := { t.keys with rootLock := s.keys.rootLock } } ∧
        s.checkGoesOn t) ∧
    ((j.discard = true ∨ (s.slot n).holdsMaterial = false) → ∃ t, exec (.scrubJobCompletion e) s = .next t ∧
      { s with
        device := t.device
        keys := { s.keys with initCheck := t.keys.initCheck } }.jobsApart t none ∧ s.checkGoesOn t)

/-- A slot that becomes overdue in MAINTENANCE or SERVICE (R98, R99): with no scrub outstanding a forced scrub is
issued for the overdue slot of the greatest age, the lowest-numbered among equals; a queued background scrub
becomes forced; one that runs goes on. The scrub pointer stays, and nothing but the scrub and its job changes. -/
def Obligations.OverdueForcesScrub : Prop :=
  ∀ (n : SlotNo) (s : State), s.working = true → s.overdue n = true →
    ∃ t, exec (.slotOverdue n) s = .next t ∧ s.overdueNoted t

/-- The calendar advance (R185): below 0xFFFFFFFF one minute later, every slot from 1 to 127 walked and slot 0
left, no pass and no downlink frame touched; at 0xFFFFFFFF the calendar stays and no slot is walked. SET-CALENDAR
sets the minute, marks the calendar set, returns the minute timer to 0, walks every slot from 1 to 127 for the new
minute, and is answered OK with the minute (R186). A walk makes a slot EXPIRED at its valid-until, else ACTIVE from
STAGED with AUTO-ACTIVATE inside its window (R84 to R86). The expiry of an ACTIVE or RETIRING slot withdraws it: the
record write generation of a RECORD slot is NONE, the cached keys of a TAG-MASTER slot are gone, an engine idle under it
is CLOSED-IDLE, any other engine under it closes its key at the end of its job (R85, R91, R94, R95, R138). -/
def Obligations.CalendarWalks : Prop :=
  ∀ s : State,
    (s.clock.advanceDue = true → s.clock.minute ≠ 0xFFFFFFFF#32 → ∃ t, exec .calendarAdvance s = .next t ∧
      t.clock = { s.clock with minute := s.clock.minute + 1, advanceDue := false } ∧
      t.slot 0 = s.slot 0 ∧ (∀ n, n ≠ 0 → t.slot n = (s.slot n).walked (s.clock.minute + 1)) ∧
      ((∃ n, n ≠ 0 ∧ t.slot n ≠ s.slot n) → t.keys.keyChange = true) ∧
      ((∃ n, n ≠ 0 ∧ (t.slot n).state = .expired ∧ (s.slot n).state ≠ .expired) →
        t.events.flag Event.keyExpired.number = true) ∧
      t.passes = s.passes ∧ t.air = s.air ∧ t.mgmt = s.mgmt ∧ t.device = s.device ∧ t.profile = s.profile ∧
      t.recent = s.recent ∧ t.lane.reports = s.lane.reports ∧ t.keys.rootLock = s.keys.rootLock ∧
      s.expiryTold t (s.clock.minute + 1)) ∧
    (s.clock.advanceDue = true → s.clock.minute = 0xFFFFFFFF#32 →
      exec .calendarAdvance s = .next { s with clock := { s.clock with advanceDue := false } }) ∧
    (∀ (q : Request) (rest : List Request) (m : Minute),
      s.takes q rest → s.unhindered → q.code = 0x08#8 → m = BitVec.ofNat 32 (field q.params 0 4) →
      ∃ t, exec .setCalendar s = .next t ∧
        t.clock = { s.clock with calendarSet := true, minute := m, minuteTimer := 0, advanceDue := false } ∧
        t.slot 0 = s.slot 0 ∧ (∀ n, n ≠ 0 → t.slot n = (s.slot n).walked m) ∧
        ((∃ n, n ≠ 0 ∧ t.slot n ≠ s.slot n) → t.keys.keyChange = true) ∧
        t.passes = s.passes ∧ t.air = s.air ∧ t.device = s.device ∧ t.profile = s.profile ∧
        t.recent = s.recent ∧ t.lane.reports = s.lane.reports ∧ t.keys.rootLock = s.keys.rootLock ∧
        s.expiryTold t m ∧
        (s.lane.responses.length < 7 →
          t.lane.responses.getLast? = some (.response { tag := q.tag, code := q.code, status := .ok,
                                                        attention := t.events.flags != 0,
                                                        keyChange := t.keys.keyChange,
                                                        data := toBytes 4 m.toNat })))

/-! ### Ends of management jobs (R109, R113, R114) -/

/-- UNWRAP completes: the candidate is the wrapped key XOR the result of the root over the attribute block, and the
KCV job is issued under it; discarded, because the root was lost, the load ends NO-ROOT with its slot EMPTY (R71,
R113, R114). KCV completes for a load pending with its candidate held: with slot 0 ACTIVE and the KCV equal, the
slot is STAGED with the candidate, the KCV and the lane time, and the answer is OK; with the KCV different it is
EMPTY, LOAD-FAIL stands and the answer is KCV-MISMATCH; with slot 0 no longer ACTIVE it is EMPTY, no event is
raised and the answer is NO-ROOT; either way nothing is pending (R114). -/
def Obligations.UnwrapAndKcvCompletion : Prop :=
  ∀ (e : EngineNo) (s : State) (k : Key) (j : Job) (f : LoadFields) (w : Block) (q : Request),
    (s.engine e).state = .busy (some k) j → j.owner = .management → s.mgmt.twoPart = .load f → f.slot ≠ 0 →
    s.mgmt.inHand = some { tag := q.tag, code := q.code, work := .keyLoadB w } →
    (j.kind = .unwrap → j.extra = [w] → j.discard = false → ∃ t, exec (.unwrapJobCompletion e) s = .next t ∧
      t.mgmt = { s.mgmt with candidate := some (w ^^^ chain k j.input) } ∧
      t.hasJob .kcv .management .loadCandidate [0] [] ∧
      { s with mgmt := t.mgmt }.jobsApart t none) ∧
    (j.kind = .unwrap → j.discard = true → s.lane.responses.length < 8 →
      ∃ t, exec (.unwrapJobCompletion e) s = .next t ∧ s.loadLost t f q) ∧
    (∀ cand, j.kind = .kcv → j.discard = false → s.mgmt.candidate = some cand → s.lane.responses.length < 7 →
      ∃ t r, exec (.kcvJobCompletion e) s = .next t ∧ s.loadFrame t ∧ t.mgmt.twoPart = .idle ∧
        t.mgmt.candidate = none ∧ t.mgmt.inHand = none ∧ (∀ n, n ≠ f.slot → t.slot n = s.slot n) ∧
        t.keys.keyChange = true ∧
        t.lane.responses.getLast? = some (.response r) ∧ r.tag = q.tag ∧ r.code = q.code ∧ r.keyChange = true ∧
        ((s.slot 0).isActive = true → firstThree (chain k j.input) = f.kcv →
          t.slot f.slot = { s.slot f.slot with
            state := .staged, material := some cand, kcv := f.kcv, lastCheck := s.clock.laneTime } ∧
          r.status = .ok ∧ r.data = [BitVec.ofNat 8 f.slot.val, 2#8] ++ toBytes 3 f.kcv.toNat) ∧
        ((s.slot 0).isActive = true → firstThree (chain k j.input) ≠ f.kcv →
          t.slot f.slot = Slot.empty ∧ r.status = .kcvMismatch ∧ r.data = [] ∧
          t.events.flag Event.loadFail.number = true) ∧
        ((s.slot 0).isActive = false →
          t.slot f.slot = Slot.empty ∧ r.status = .noRoot ∧ r.data = [] ∧ t.events = s.events))

/-- COMBINE completes (R72, R109): with the KCV equal, slot 0 is ACTIVE, ROOT, with the XOR of the components, the
carried KCV and the lane time, every other attribute zero, and the answer is OK; different, no slot changes,
LOAD-FAIL stands and the answer is KCV-MISMATCH. Either way nothing is pending. -/
def Obligations.CombineCompletion : Prop :=
  ∀ (e : EngineNo) (s : State) (k : Key) (j : Job) (a b : Block) (kcv : Kcv) (q : Request),
    s.runs e k j → j.kind = .combine → j.owner = .management → j.extra = [a, b] →
    s.mgmt.inHand = some { tag := q.tag, code := q.code, work := .rootPart2 kcv } → s.lane.responses.length < 7 →
    ∃ t r, exec (.combineJobCompletion e) s = .next t ∧ s.loadFrame t ∧ t.mgmt.twoPart = .idle ∧
      t.mgmt.candidate = none ∧ t.mgmt.inHand = none ∧ (∀ n, n ≠ 0 → t.slot n = s.slot n) ∧
      t.lane.responses.getLast? = some (.response r) ∧ r.tag = q.tag ∧ r.code = q.code ∧ r.data = [] ∧
      (firstThree (chain k j.input) = kcv →
        t.slot 0 = { state := .active, role := some .root, issuer := 0, generation := 0, retain := false,
                     autoActivate := false, validFrom := 0, validUntil := 0, kcv, lastCheck := s.clock.laneTime,
                     erasePending := false, material := some (a ^^^ b) } ∧
        t.keys.keyChange = true ∧ r.status = .ok ∧ r.keyChange = true ∧ t.events = s.events) ∧
      (firstThree (chain k j.input) ≠ kcv →
        t.keys.slots = s.keys.slots ∧ t.keys.keyChange = s.keys.keyChange ∧ r.status = .kcvMismatch ∧
        t.events.flag Event.loadFail.number = true ∧ r.attention = true)

/-! ### Requests: order, state, status and events (chapters 6 and 9) -/

/-- A request taken while a first part is pending, that is neither ZEROISE nor the partner: the pending state is
discarded, a load pending's slot is EMPTY with the key-change indicator set, no other slot or key is touched, and the
request is answered ORDER and not executed; with nothing pending, ROOT-PART-2 and KEY-LOAD-B are answered ORDER and
change nothing (R107), in INIT too, which is the model's reading of the order of the tests (log 21, DEDUCED). In INIT
every other request whose code names one, but READ-STATUS, is answered STATE and changes nothing; a code that names
none is answered BAD-FIELD in every state (R165). -/
def Obligations.OrderStateAndUnknownCodes : Prop :=
  ∀ (s : State) (q : Request) (rest : List Request), s.takes q rest →
    (∀ c1, s.mgmt.twoPart = .root c1 → q.code ≠ 0x11#8 → q.code ≠ 0x1A#8 →
      exec (requestRow q.code) s = .next (({ s.left rest with
        mgmt := { s.mgmt with twoPart := .idle, candidate := none } }).answered q .order [])) ∧
    (∀ f, s.mgmt.twoPart = .load f → q.code ≠ 0x1A#8 →
      (q.code = 0x14#8 → (byteAt q.params 0).toNat ≠ f.slot.val) →
      exec (requestRow q.code) s = .next (({ s.left rest with
        mgmt := { s.mgmt with twoPart := .idle, candidate := none }
        keys := { s.keys with slots := tableSet s.keys.slots f.slot Slot.empty, keyChange := true } }).answered
          q .order [])) ∧
    (s.mgmt.twoPart = .idle →
      ((q.code = 0x11#8 ∨ q.code = 0x14#8) →
        exec (requestRow q.code) s = .next ((s.left rest).answered q .order [])) ∧
      (s.device = .init → requestLength q.code ≠ none → q.code ∉ [0x01#8, 0x11#8, 0x14#8] →
        exec (requestRow q.code) s = .next ((s.left rest).answered q .state [])) ∧
      (requestLength q.code = none →
        exec .unknownRequestCode s = .next ((s.left rest).answered q .badField [])))

/-- READ-STATUS (R170, R104): its answer carries what R170 lists, with the key-change indicator from before, and the
indicator is then clear; nothing else changes. It is taken in INIT too. The unused bits of its bits byte, and bits 13 to
15 of its event flags, are zero by the model's choice (log 35). -/
def Obligations.ReadStatusReports : Prop :=
  ∀ (s : State) (q : Request) (rest : List Request), s.takes q rest → s.mgmt.twoPart = .idle →
    q.code = 0x01#8 → ∃ t r, exec .readStatus s = .next t ∧
      t = { s with
        lane := { s.lane with requests := rest, responses := s.lane.responses ++ [.response r] }
        keys := { s.keys with keyChange := false } } ∧
      r.tag = q.tag ∧ r.code = q.code ∧ r.status = .ok ∧ r.attention = (s.events.flags != 0) ∧
      r.keyChange = s.keys.keyChange ∧ r.data.length = 16 ∧
      r.data[0]? = some s.device.byte ∧
      ((s.slot 0).state = .empty → r.data[1]? = some 0#8) ∧ ((s.slot 0).state = .active → r.data[1]? = some 1#8) ∧
      ((s.slot 0).state = .faulted → r.data[1]? = some 2#8) ∧
      r.data[2]? = some (bitByte 0 s.keys.rootLock ||| bitByte 1 s.clock.calendarSet) ∧
      field r.data 3 4 = (if s.clock.calendarSet then s.clock.minute.toNat else 0) ∧
      field r.data 7 4 = s.clock.laneTime.toNat ∧ field r.data 11 2 = s.events.flags.toNat ∧
      r.data[13]? = some (genByte s.keys.writeGen) ∧
      (r.data[14]?).map BitVec.toNat = some (allContexts.countP fun c => (s.context c).isNone) ∧
      r.data[15]? = some (BitVec.ofNat 8 s.lane.reports.length)

/-- READ-COUNTERS is answered OK with the thirteen counters in event order, as they stand when it is taken, and
changes nothing else; it has no refusal of its own (R172). -/
def Obligations.ReadCountersReports : Prop :=
  ∀ (s : State) (q : Request) (rest : List Request), s.takes q rest → s.unhindered → q.code = 0x02#8 →
    ∃ data, exec .readCounters s = .next ((s.left rest).answered q .ok data) ∧ data.length = 26 ∧
      ∀ n : EventNo, field data (2 * n.val) 2 = (tableGet s.events.counters n).toNat

/-- CLEAR-EVENTS (R171): a mask beyond the thirteen is answered BAD-FIELD and clears nothing; otherwise the flags
and counters named are cleared, the others kept, the answer carries the flags after the update with its attention
bit composed from them, bits 13 to 15 of their two bytes zero by the model's choice (log 35), and a raise of a named
event that follows sets its flag again and counts 1. SET-ALERT-MASK
(R173): a mask beyond the thirteen is answered BAD-FIELD and leaves the alert mask; otherwise the carried mask
replaces it as a whole, no alert is sent, and the answer carries the mask. -/
def Obligations.ClearEventsAndAlertMask : Prop :=
  ∀ (s : State) (q : Request) (rest : List Request) (m : Nat), s.takes q rest → s.unhindered →
    m = field q.params 0 2 →
    (q.code = 0x03#8 →
      (2 ^ 13 ≤ m → exec .clearEvents s = .next ((s.left rest).answered q .badField [])) ∧
      (m < 2 ^ 13 → ∃ w : Events,
        exec .clearEvents s = .next ({ s.left rest with events := w }.answered q .ok (toBytes 2 w.flags.toNat)) ∧
        w.alertMask = s.events.alertMask ∧
        (∀ n : EventNo,
          (m.testBit n.val = true → w.flag n = false ∧ tableGet w.counters n = 0) ∧
          (m.testBit n.val = false →
            w.flag n = s.events.flag n ∧ tableGet w.counters n = tableGet s.events.counters n)) ∧
        ∀ (t : State) (v : Event), t.events = w → m.testBit v.number.val = true →
          (t.raise v).events.flag v.number = true ∧ tableGet (t.raise v).events.counters v.number = 1)) ∧
    (q.code = 0x04#8 →
      (2 ^ 13 ≤ m → exec .setAlertMask s = .next ((s.left rest).answered q .badField [])) ∧
      (m < 2 ^ 13 → exec .setAlertMask s = .next ({ s.left rest with
        events := { s.events with alertMask := BitVec.ofNat 13 m } }.answered q .ok (toBytes 2 m))))

/-! ### SET-PROFILE, SET-TIMING, SET-SERVICE (chapters 2 and 10) -/

/-- SET-PROFILE (R21, R22): refused with STATE in INIT; a zone above 7, or a named function that names none of the
five, is answered BAD-FIELD and changes no field; otherwise each named field takes the value carried, brought into
its range, each other field and each other zone keeps its own, and the answer is CLAMPED exactly when a named field
was out of range, with the zone, the six fields as they stand and the clamp mask. The upper four bits of the
record-set byte, and bits 6 and 7 of the clamp mask, are zero by the model's choice (log 35). -/
def Obligations.SetProfileWritesNamedFields : Prop :=
  ∀ (s : State) (q : Request) (rest : List Request) (r : SetProfile), s.takes q rest → s.mgmt.twoPart = .idle →
    q.code = 0x05#8 → r = setProfileOf q.params →
    (s.device = .init → exec .setProfile s = .next ((s.left rest).answered q .state [])) ∧
    (s.device ≠ .init → (7 < r.zone.toNat ∨ (r.mask.getLsbD 0 = true ∧ 4 < r.function.toNat)) →
      exec .setProfile s = .next ((s.left rest).answered q .badField [])) ∧
    (∀ z : ZoneNo, s.device ≠ .init → r.zone.toNat = z.val → (r.mask.getLsbD 0 = true → r.function.toNat ≤ 4) →
      ∃ (p : ZoneProfile) (st : Status) (clamps : Byte),
        exec .setProfile s = .next ({ s.left rest with
          profile := { s.profile with zones := tableSet s.profile.zones z p } }.answered q st
            ([r.zone, p.function.byte] ++ toBytes 2 p.station.toNat ++ [BitVec.ofNat 8 p.lane.toNat,
              BitVec.ofNat 8 p.recordSet.toNat, BitVec.ofNat 8 p.replyTimeout, BitVec.ofNat 8 p.retries, clamps])) ∧
        (if r.mask.getLsbD 0 then p.function.byte = r.function else p.function = (s.zone z).function) ∧
        p.station = (if r.mask.getLsbD 1 then r.station else (s.zone z).station) ∧
        p.lane.toNat = (if r.mask.getLsbD 2 then min 15 r.lane.toNat else (s.zone z).lane.toNat) ∧
        p.recordSet = (if r.mask.getLsbD 3 then r.recordSet.setWidth 4 ||| 1#4 else (s.zone z).recordSet) ∧
        p.replyTimeout = (if r.mask.getLsbD 4 then max 5 r.replyTimeout.toNat else (s.zone z).replyTimeout) ∧
        p.retries = (if r.mask.getLsbD 5 then min 7 r.retries.toNat else (s.zone z).retries) ∧
        (∀ b : Nat, clamps.getLsbD b = true ↔
          (b = 2 ∧ r.mask.getLsbD 2 = true ∧ 15 < r.lane.toNat) ∨
          (b = 3 ∧ r.mask.getLsbD 3 = true ∧ r.recordSet.getLsbD 0 = false) ∨
          (b = 4 ∧ r.mask.getLsbD 4 = true ∧ r.replyTimeout.toNat < 5) ∨
          (b = 5 ∧ r.mask.getLsbD 5 = true ∧ 7 < r.retries.toNat)) ∧
        (st = .clamped ↔ clamps ≠ 0) ∧ (st = .ok ↔ clamps = 0))

/-- SET-TIMING (R23): refused with STATE in INIT; otherwise each named field takes the value carried, brought into its
range, the others keep theirs; the answer is CLAMPED exactly when a named field was out of range, and carries the
three fields as they stand and the clamp mask. A changed repeat window takes the entries aged under it off the head of
the recent-pass table, up to the first young one, in the same update (R152); a scrub period shortened below the age of
a slot makes it overdue at once: a forced scrub of the oldest is issued where none is outstanding, a queued background
one becomes forced (R98, R99). A field that is left as it was makes no such test, nor does a lengthened scrub period,
by the model's reading (log 26). Bits 3 to 7 of the clamp mask are zero by the model's choice (log 35). -/
def Obligations.SetTimingWritesNamedFields : Prop :=
  ∀ (s : State) (q : Request) (rest : List Request) (r : SetTiming), s.takes q rest → s.mgmt.twoPart = .idle →
    q.code = 0x06#8 → r = setTimingOf q.params →
    (s.device = .init → exec .setTiming s = .next ((s.left rest).answered q .state [])) ∧
    (s.device ≠ .init → ∃ (u v : State) (clamps : Byte),
      u = { s.left rest with profile := u.profile, recent := u.recent } ∧ u.profile.zones = s.profile.zones ∧
      u.profile.passLimit = (if r.mask.getLsbD 0 then max 100 (min 10000 r.passLimit) else s.profile.passLimit) ∧
      u.profile.repeatWindow = (if r.mask.getLsbD 1 then max 1 (min 255 r.repeatWindow) else s.profile.repeatWindow) ∧
      u.profile.scrubPeriod = (if r.mask.getLsbD 2 then max 1 (min 255 r.scrubPeriod) else s.profile.scrubPeriod) ∧
      (u.profile.repeatWindow = s.profile.repeatWindow → u.recent = s.recent) ∧
      (u.profile.repeatWindow ≠ s.profile.repeatWindow → ∃ l, s.recent = l ++ u.recent ∧
        (∀ x ∈ l, u.profile.repeatWindow * 10000 ≤ (s.clock.laneTime - x.tick).toNat) ∧
        (∀ x, u.recent.head? = some x → (s.clock.laneTime - x.tick).toNat < u.profile.repeatWindow * 10000)) ∧
      (u.profile.scrubPeriod < s.profile.scrubPeriod → (∃ n, u.overdue n = true) → u.overdueNoted v) ∧
      (s.profile.scrubPeriod ≤ u.profile.scrubPeriod ∨ (∀ n, u.overdue n = false) → v = u) ∧
      exec .setTiming s = .next (v.answered q (if clamps = 0 then .ok else .clamped)
        (toBytes 2 u.profile.passLimit ++
          [BitVec.ofNat 8 u.profile.repeatWindow, BitVec.ofNat 8 u.profile.scrubPeriod, clamps])) ∧
      ∀ b : Nat, clamps.getLsbD b = true ↔
        (b = 0 ∧ r.mask.getLsbD 0 = true ∧ (r.passLimit < 100 ∨ 10000 < r.passLimit)) ∨
        (b = 1 ∧ r.mask.getLsbD 1 = true ∧ r.repeatWindow = 0) ∨
        (b = 2 ∧ r.mask.getLsbD 2 = true ∧ r.scrubPeriod = 0))

/-- SET-SERVICE (R177, R190): on enters SERVICE when the calendar is set, stays in SERVICE, and is answered STATE in
MAINTENANCE with the calendar unset; off leaves SERVICE for MAINTENANCE and ends no pass; any other byte is answered
BAD-FIELD. At the entry to MAINTENANCE the key store tests for a scrub (R99): a forced one of the overdue slot of the
greatest age; with none overdue and no job of a context queued a background one of the first slot holding material from
the scrub pointer on, modulo 128, the pointer then one past it; otherwise none. -/
def Obligations.SetServiceMoves : Prop :=
  ∀ (s : State) (q : Request) (rest : List Request) (b : Byte), s.takes q rest → s.unhindered →
    q.code = 0x07#8 → b = byteAt q.params 0 →
    (b = 0x01#8 → (s.device = .service ∨ s.clock.calendarSet = true) →
      exec .setService s = .next ({ s.left rest with device := .service }.answered q .ok [2#8])) ∧
    (b = 0x01#8 → s.device = .maintenance → s.clock.calendarSet = false →
      exec .setService s = .next ((s.left rest).answered q .state [])) ∧
    (b = 0x00#8 → s.device = .maintenance →
      exec .setService s = .next ((s.left rest).answered q .ok [1#8])) ∧
    (b = 0x00#8 → s.device = .service → ∃ t, exec .setService s = .next t ∧
      ({ s.left rest with device := .maintenance }.answered q .ok [1#8]).jobsApart t none ∧
      { s.left rest with device := .maintenance }.scrubTested t) ∧
    (b ≠ 0x00#8 → b ≠ 0x01#8 → exec .setService s = .next ((s.left rest).answered q .badField []))

/-! ### Key requests (chapter 6) -/

/-- ROOT-PART-1 and LOCK-ROOT (R105, R108, R110): ROOT-PART-1 is answered STATE in SERVICE, SLOT-BUSY when slot 0 is
not EMPTY, and otherwise holds component 1 as root pending; LOCK-ROOT sets the lock when slot 0 is ACTIVE and is
answered STATE otherwise. -/
def Obligations.RootPart1AndLockRoot : Prop :=
  ∀ (s : State) (q : Request) (rest : List Request), s.takes q rest → s.unhindered →
    (q.code = 0x10#8 →
      (s.device = .service → exec .rootPart1 s = .next ((s.left rest).answered q .state [])) ∧
      (s.device = .maintenance → (s.slot 0).state ≠ .empty →
        exec .rootPart1 s = .next ((s.left rest).answered q .slotBusy [])) ∧
      (s.device = .maintenance → (s.slot 0).state = .empty →
        exec .rootPart1 s = .next ({ s.left rest with
          mgmt := { s.mgmt with twoPart := .root (blockAt q.params 0) } }.answered q .ok []))) ∧
    (q.code = 0x12#8 →
      ((s.slot 0).state = .active → (s.slot 0).erasePending = false →
        exec .lockRoot s = .next ({ s.left rest with keys := { s.keys with rootLock := true } }.answered q .ok [])) ∧
      ((s.slot 0).state ≠ .active → exec .lockRoot s = .next ((s.left rest).answered q .state [])))

/-- The partners (R107, R109, R113): ROOT-PART-2 after a root pending holds the management unit and issues the
COMBINE job over the two components; KEY-LOAD-B naming the load pending's slot holds it and issues the UNWRAP job
under slot 0 over the attribute block, or, with slot 0 not ACTIVE, is answered NO-ROOT with the slot EMPTY. -/
def Obligations.PartnersIssueJobs : Prop :=
  ∀ (s : State) (q : Request) (rest : List Request), s.takes q rest → s.device ≠ .init →
    (∀ c1, q.code = 0x11#8 → s.mgmt.twoPart = .root c1 →
      ∃ t, exec .rootPart2 s = .next t ∧
        t.mgmt = { s.mgmt with inHand := some (InHand.mk q.tag q.code
          (.rootPart2 (BitVec.ofNat 24 (field q.params 16 3)))) } ∧
        t.hasJob .combine .management .rootCandidate [0] [c1, blockAt q.params 0] ∧
        t = { s.left rest with mgmt := t.mgmt, cipher := t.cipher }) ∧
    (∀ f, q.code = 0x14#8 → s.mgmt.twoPart = .load f → (byteAt q.params 0).toNat = f.slot.val →
      ((s.slot 0).isActive = true →
        ∃ t, exec .keyLoadB s = .next t ∧
          t.mgmt = { s.mgmt with inHand := some (InHand.mk q.tag q.code (.keyLoadB (blockAt q.params 1))) } ∧
          t.hasJob .unwrap .management (.slot 0) [attributeBlock f] [blockAt q.params 1] ∧
          t = { s.left rest with mgmt := t.mgmt, cipher := t.cipher }) ∧
      ((s.slot 0).isActive = false →
        exec .keyLoadB s = .next ({ s.left rest with
          mgmt := { s.mgmt with twoPart := .idle, candidate := none }
          keys := { s.keys with slots := tableSet s.keys.slots f.slot Slot.empty, keyChange := true } }.answered
            q .noRoot [])))

/-- KEY-LOAD-A (R111, R112): the first failing check decides the status, and a refusal changes no slot; passing every
check, the slot is PART-LOADED with its attributes as carried, a zero stored KCV and no material, the request is
held as load pending, the key-change indicator is set, and the answer is OK with the slot number. -/
def Obligations.KeyLoadAClaimsSlot : Prop :=
  ∀ (s : State) (q : Request) (rest : List Request) (a : KeyLoadA), s.takes q rest → s.unhindered →
    q.code = 0x13#8 → a = keyLoadAOf q.params →
    ((a.slot = 0 ∨ 127 < a.slot.toNat) → exec .keyLoadA s = .next ((s.left rest).answered q .badSlot [])) ∧
    (∀ n : SlotNo, a.slot.toNat = n.val → n ≠ 0 →
      ((s.slot n).state ≠ .empty → exec .keyLoadA s = .next ((s.left rest).answered q .slotBusy [])) ∧
      ((s.slot n).state = .empty → ¬a.consistent →
        exec .keyLoadA s = .next ((s.left rest).answered q .badField [])) ∧
      (∀ role, role = (if a.role = 0x01#8 then Role.tagMaster else .record) →
        (s.slot n).state = .empty → a.consistent →
        ((∃ m, (s.slot m).state ≠ .empty ∧ (s.slot m).role = some role ∧ (s.slot m).issuer = a.issuer ∧
            (s.slot m).generation.toNat = a.generation.toNat) →
          exec .keyLoadA s = .next ((s.left rest).answered q .duplicate [])) ∧
        ((∀ m, (s.slot m).state ≠ .empty → (s.slot m).role = some role → (s.slot m).issuer = a.issuer →
            (s.slot m).generation.toNat ≠ a.generation.toNat) →
          ((s.slot 0).isActive = false → exec .keyLoadA s = .next ((s.left rest).answered q .noRoot [])) ∧
          ((s.slot 0).isActive = true → ∃ (x : Slot) (p : LoadFields),
            x.state = .partLoaded ∧ x.role = some role ∧ x.issuer = a.issuer ∧
            x.generation.toNat = a.generation.toNat ∧ x.retain = a.flags.getLsbD 0 ∧
            x.autoActivate = a.flags.getLsbD 1 ∧ x.validFrom = a.validFrom ∧ x.validUntil = a.validUntil ∧
            x.kcv = 0 ∧ x.lastCheck = 0 ∧ x.material = none ∧ x.erasePending = false ∧
            p = { slot := n, role := a.role, issuer := a.issuer, generation := a.generation, flags := a.flags,
                  validFrom := a.validFrom, validUntil := a.validUntil, kcv := a.kcv } ∧
            exec .keyLoadA s = .next ({ s.left rest with
              keys := { s.keys with slots := tableSet s.keys.slots n x, keyChange := true }
              mgmt := { s.mgmt with twoPart := .load p } }.answered q .ok [a.slot])))))

/-- ACTIVATE (R115): slot 0 and a slot above 127 are answered BAD-SLOT, a slot that is not STAGED and an unset calendar
STATE, a slot that has reached its valid-until WINDOW-ENDED, one before its valid-from STATE; otherwise the slot is
ACTIVE, the indicator is set, and the answer is OK with the slot number and its state. RETIRE (R116, R91): slot 0 and
a slot above 127 BAD-SLOT, a slot that is not ACTIVE STATE; an ACTIVE slot is RETIRING, the record write generation is
NONE if it was that of this RECORD slot, the indicator is set, and the answer is OK with the slot number and the
record write generation. -/
def Obligations.ActivateAndRetire : Prop :=
  ∀ (s : State) (q : Request) (rest : List Request) (b : Byte), s.takes q rest → s.unhindered →
    b = byteAt q.params 0 →
    ((b = 0 ∨ 127 < b.toNat) →
      (q.code = 0x15#8 → exec .activate s = .next ((s.left rest).answered q .badSlot [])) ∧
      (q.code = 0x16#8 → exec .retire s = .next ((s.left rest).answered q .badSlot []))) ∧
    (∀ n : SlotNo, b.toNat = n.val → n ≠ 0 → (s.slot n).erasePending = false →
      (q.code = 0x15#8 →
        (((s.slot n).state ≠ .staged ∨ s.clock.calendarSet = false) →
          exec .activate s = .next ((s.left rest).answered q .state [])) ∧
        ((s.slot n).state = .staged → s.clock.calendarSet = true → (s.slot n).validUntil ≠ 0xFFFFFFFF#32 →
          (s.slot n).validUntil ≤ s.clock.minute →
          exec .activate s = .next ((s.left rest).answered q .windowEnded [])) ∧
        ((s.slot n).state = .staged → s.clock.calendarSet = true →
          ((s.slot n).validUntil = 0xFFFFFFFF#32 ∨ s.clock.minute < (s.slot n).validUntil) →
          (s.clock.minute < (s.slot n).validFrom →
            exec .activate s = .next ((s.left rest).answered q .state [])) ∧
          ((s.slot n).validFrom ≤ s.clock.minute →
            exec .activate s = .next ({ s.left rest with keys := { s.keys with
              slots := tableSet s.keys.slots n { s.slot n with state := .active }
              keyChange := true } }.answered q .ok [b, 3#8])))) ∧
      (q.code = 0x16#8 →
        ((s.slot n).state ≠ .active → exec .retire s = .next ((s.left rest).answered q .state [])) ∧
        ((s.slot n).state = .active →
          ∀ g, g = (if (s.slot n).role = some .record ∧ s.keys.writeGen = some (s.slot n).generation then none
                    else s.keys.writeGen) →
          exec .retire s = .next ({ s.left rest with keys := { s.keys with
            slots := tableSet s.keys.slots n { s.slot n with state := .retiring }
            keyChange := true
            writeGen := g } }.answered q .ok [b, genByte g]))))

/-- ERASE (R118, R119, R93 to R96): a slot above 127 is answered BAD-SLOT, an EMPTY slot STATE, a locked slot 0
LOCKED, and none of these changes anything. Otherwise the key-change indicator is set, no queued job names the slot,
the slot's cache entries are gone for a TAG-MASTER slot and no others, the write generation is NONE if it was that of
this RECORD slot, and each context bound to it in KEYING, CHALLENGING or CHECKING has ended with KEY-WITHDRAWN (no
record-code job is under a TAG-MASTER slot). A pass whose record-code job waited under the slot goes on as R31 and R33
say, and any other that has not ended stands; clock, lines, profile, lock, device state, reports queued and the requests
behind this one stay. An engine idle under the slot
is CLOSED-IDLE, and stays so where no job was waiting, one opening it has its loss mark, one running a job under it
has the job's discard mark and its close at end mark, and engines at work under other keys go on (R138). Either the
slot is EMPTY and answered OK with nothing in hand, or it is erase pending and the erase holds the unit. The erase in
hand completes once no engine holds the slot's key: the slot is EMPTY with every field zero, the indicator is set, and
ERASE is answered OK with the slot number (R119, R104). -/
def Obligations.EraseRule : Prop :=
  ∀ (s : State) (q : Request) (rest : List Request) (b : Byte), b = byteAt q.params 0 →
    (s.takes q rest → s.unhindered → q.code = 0x17#8 →
      (127 < b.toNat → exec .erase s = .next ((s.left rest).answered q .badSlot [])) ∧
      (∀ n : SlotNo, b.toNat = n.val →
        ((s.slot n).state = .empty → exec .erase s = .next ((s.left rest).answered q .state [])) ∧
        ((s.slot n).state ≠ .empty → n = 0 → s.keys.rootLock = true →
          exec .erase s = .next ((s.left rest).answered q .locked [])) ∧
        ((s.slot n).state ≠ .empty → (n ≠ 0 ∨ s.keys.rootLock = false) →
          ∃ t, exec .erase s = .next t ∧ t.keys.keyChange = true ∧ (∀ m, m ≠ n → t.slot m = s.slot m) ∧
            (((∃ e, (t.engine e).key? = some (.slot n)) ∧ t.slot n = { s.slot n with erasePending := true } ∧
                t.mgmt = { s.mgmt with inHand := some { tag := q.tag, code := q.code, work := .erase n } }) ∨
              ((∀ e, (t.engine e).key? ≠ some (.slot n)) ∧ t.slot n = Slot.empty ∧
                t.mgmt = { s.mgmt with held := t.mgmt.held } ∧
                (s.lane.responses.length < 6 → t.mgmt.held = none ∧ t.lane.responses.getLast? =
                  some (.response { tag := q.tag, code := q.code, status := .ok, attention := t.events.flags != 0,
                                    keyChange := true, data := [b] })))) ∧
            s.lossTold t n (s.slot n) ∧ (∀ c, s.context c = none → t.context c = none) ∧
            t = { s with
              passes := t.passes, cipher := t.cipher, air := t.air, recent := t.recent, cache := t.cache
              events := t.events, mgmt := t.mgmt
              lane := { s.lane with requests := rest, responses := t.lane.responses, reports := t.lane.reports }
              keys := { t.keys with rootLock := s.keys.rootLock, initCheck := s.keys.initCheck } } ∧
            s.lane.reports <+: t.lane.reports ∧
            ((s.slot n).role = some .tagMaster → ∀ c x, t.context c = some x → x.boundSlot = some n →
              x.state = .writing ∨ x.state = .confirming ∨ x.state = .done) ∧
            (∀ e, (s.engine e).afterLoss n (t.engine e)) ∧
            (s.cipher.queue = [] → (∀ c x, s.context c = some x → x.jobQueued = false) →
              ∀ e, (s.engine e).openIdleUnder (.slot n) = true → t.engine e = Engine.closed)))) ∧
    (∀ n : SlotNo, s.mgmt.inHand = some { tag := q.tag, code := q.code, work := .erase n } →
      ((∀ e, (s.engine e).key? ≠ some (.slot n)) → s.lane.responses.length < 8 →
        exec .eraseCompletion s = .next ({ s with
          keys := { s.keys with slots := tableSet s.keys.slots n Slot.empty, keyChange := true }
          mgmt := { s.mgmt with inHand := none } }.answered q .ok [BitVec.ofNat 8 n.val])) ∧
      ((∃ e, (s.engine e).key? = some (.slot n)) → exec .eraseCompletion s = .next s))

/-- SELECT-WRITE-GEN (R117, R190): NONE makes the record write generation NONE; a generation whose RECORD slot is
ACTIVE with no erase pending becomes it; a generation without one is answered STATE, any other byte BAD-FIELD. The
indicator is set when the value changes, and only then. -/
def Obligations.SelectWriteGenRule : Prop :=
  ∀ (s : State) (q : Request) (rest : List Request) (b : Byte), s.takes q rest → s.unhindered →
    q.code = 0x18#8 → b = byteAt q.params 0 →
    (∀ g : Option Generation, ((b = 0xFF#8 ∧ g = none) ∨
        (∃ n v, b.toNat < 16 ∧ v = b.setWidth 4 ∧ g = some v ∧ s.findSlot .record 0 v = some n ∧
          (s.slot n).isActive = true)) →
      exec .selectWriteGen s = .next ({ s.left rest with keys := { s.keys with
        writeGen := g
        keyChange := s.keys.keyChange || decide (g ≠ s.keys.writeGen) } }.answered q .ok [b])) ∧
    (b.toNat < 16 → (∀ n, s.findSlot .record 0 (b.setWidth 4) = some n → (s.slot n).isActive = false) →
      exec .selectWriteGen s = .next ((s.left rest).answered q .state [])) ∧
    (16 ≤ b.toNat → b ≠ 0xFF#8 → exec .selectWriteGen s = .next ((s.left rest).answered q .badField []))

/-- READ-SLOT (R120, R77): a slot above 127 is answered BAD-SLOT; otherwise the answer is OK with the slot's state,
attributes, window, stored KCV, last-check age and marks, and nothing changes. The unused bits of its bits byte, and its
root-lock bit for a slot other than 0 that is not EMPTY, are zero by the model's choice (log 35). -/
def Obligations.ReadSlotReports : Prop :=
  ∀ (s : State) (q : Request) (rest : List Request) (b : Byte), s.takes q rest → s.unhindered →
    q.code = 0x19#8 → b = byteAt q.params 0 →
    (127 < b.toNat → exec .readSlot s = .next ((s.left rest).answered q .badSlot [])) ∧
    (∀ n : SlotNo, b.toNat = n.val → ∃ data, exec .readSlot s = .next ((s.left rest).answered q .ok data) ∧
      data.length = 23 ∧ data[0]? = some b ∧ data[1]? = some (s.slot n).state.byte ∧
      data[2]? = some (roleByte (s.slot n).role) ∧ field data 3 2 = (s.slot n).issuer.toNat ∧
      field data 5 1 = (s.slot n).generation.toNat ∧
      data[6]? = some (bitByte 0 (s.slot n).retain ||| bitByte 1 (s.slot n).autoActivate) ∧
      field data 7 4 = (s.slot n).validFrom.toNat ∧ field data 11 4 = (s.slot n).validUntil.toNat ∧
      field data 15 3 = (s.slot n).kcv.toNat ∧
      ((s.slot n).state ≠ .empty → (s.slot n).state ≠ .partLoaded →
        field data 18 4 = (s.clock.laneTime - (s.slot n).lastCheck).toNat) ∧
      ((s.slot n).state = .empty ∨ (s.slot n).state = .partLoaded → field data 18 4 = 0) ∧
      data[22]? = some (bitByte 0 (s.slot n).erasePending ||| bitByte 1 (decide (n = 0) && s.keys.rootLock)))

/-- No frame the part sends for a request that reports tells one key's material from another's: two parts that
differ only in the material of their slots give the same lane queues and transmission at READ-STATUS,
READ-COUNTERS, READ-SLOT and the start of a lane send (R82, R120). -/
def Obligations.ReportsHideMaterial : Prop :=
  ∀ (i : Instr) (s t s' t' : State), i ∈ [Instr.readStatus, .readCounters, .readSlot, .laneSendStart] →
    (∃ v, s' = { s with keys := { s.keys with slots := v } } ∧
      ∀ n, { tableGet v n with material := none } = { s.slot n with material := none }) →
    exec i s = .next t → exec i s' = .next t' → t'.lane = t.lane

/-! ### Wipe, HOLD, resets and lines (chapters 6 and 10) -/

/-- The wipe (R121 to R124), by the ZEROISE line outside held reset or by the ZEROISE request: every slot EMPTY, lock
clear, write generation NONE, indicator set; no scrub, no job, every engine CLOSED-IDLE; every context FREE, both
tables empty; nothing pending or in hand; CHALLENGE, WRITE and CLOSE frames gone from the queue and cut off in
transmission, passthrough frames kept in both, confirmation entries ownerless, outside HOLD; MAINTENANCE outside HOLD,
HOLD kept; ZEROISED counted. The clock, the profiles, the lines, the reports, the scrub pointer, the credit and the
next-handle value are kept, and the response queue but for the alert of ZEROISED and the OK to the request, which is
held where the queue is full (R166, R174). -/
def Obligations.WipeRule : Prop :=
  ∀ (i : Instr) (s : State),
    ((i = .zeroiseLine ∧ (s.device = .hold ∨ s.lines.reset = false)) ∨
      (i = .zeroise ∧ s.device ≠ .init ∧ ∃ q rest, s.takes q rest ∧ q.code = 0x1A#8)) →
    ∃ t, exec i s = .next t ∧ (∀ n, t.slot n = Slot.empty) ∧ t.keys.rootLock = false ∧ t.keys.writeGen = none ∧
      t.keys.keyChange = true ∧ t.keys.outstanding = none ∧ t.keys.initCheck = [] ∧
      t.keys.scrubPointer = s.keys.scrubPointer ∧ t.cipher = Cipher.cleared ∧ (∀ c, t.context c = none) ∧
      (∀ z, t.openList z = []) ∧ t.passes.stalled = [] ∧ t.cache = [] ∧ t.recent = [] ∧
      t.mgmt.twoPart = .idle ∧ t.mgmt.candidate = none ∧ t.mgmt.inHand = none ∧
      t.device = (if s.device = .hold then .hold else .maintenance) ∧
      t.events = s.events.record Event.zeroised.number ∧
      t.clock = s.clock ∧ t.profile = s.profile ∧ t.lane.reports = s.lane.reports ∧
      t.air.credit = s.air.credit ∧ t.air.nextHandle = s.air.nextHandle ∧
      t.lines = s.lines ∧ t.lane.tx = s.lane.tx ∧
      (i = .zeroiseLine → t.lane.requests = s.lane.requests ∧ t.mgmt.held = s.mgmt.held) ∧
      (s.device = .hold → t.air = s.air) ∧
      (s.device ≠ .hold → t.air.queue = s.air.queue.filter (fun e => e.body.isPassthrough) ∧
        t.air.tx = s.air.tx.filter (fun x => x.entry.body.isPassthrough) ∧ (∀ e ∈ t.air.confirm, e.owner = none) ∧
        t.air.confirm.map ConfirmEntry.handle = s.air.confirm.map ConfirmEntry.handle) ∧
      ∃ alerts : List Answer, alerts = (if s.events.flag Event.zeroised.number = false ∧
          s.events.selected Event.zeroised.number = true ∧ s.device ≠ .hold ∧ s.lane.responses.length < 8
          then [.alert Event.zeroised.number s.clock.laneTime] else []) ∧
        (i = .zeroiseLine → t.lane.responses = s.lane.responses ++ alerts) ∧
        (i = .zeroise → ∀ q rest r, s.lane.requests = q :: rest →
          r = ({ tag := q.tag, code := q.code, status := .ok, attention := true, keyChange := true, data := [] } : Response) →
          t.lane.requests = rest ∧
          ((s.lane.responses ++ alerts).length < 8 →
            t.lane.responses = s.lane.responses ++ alerts ++ [.response r] ∧ t.mgmt.held = none) ∧
          (8 ≤ (s.lane.responses ++ alerts).length →
            t.lane.responses = s.lane.responses ++ alerts ∧ t.mgmt.held = some r))

/-- HOLD entry (R178, R179, R87, R92), at SUPPLY-FAIL in INIT, MAINTENANCE or SERVICE and at the HOLD request: contexts,
queues, engines and tables are gone; slot 0 and each RETAIN slot that is neither PART-LOADED nor erase pending are
kept, every other slot is EMPTY; the write generation stays only when its RECORD slot is kept ACTIVE; the lock, the
calendar and the events are kept. The HOLD request leaves its OK, with the number of contexts that were in use, as
the one entry of the response queue; SUPPLY-FAIL leaves none, and in HOLD it takes the HOLD response, queued or being
sent, and changes nothing else (R178). Two clauses are the model's choice: an erase pending in slot 0 is completed like
any other, although R179 keeps slot 0 (log 20, DEDUCED), and the air port, its next-handle value included, stands at its
exit values from HOLD entry on (log 19, DESIGN CHOICE). -/
def Obligations.HoldEntry : Prop :=
  (∀ s : State, s.device = .hold → s.lines.supplyFail = false → exec .supplyFail s =
    .next { s with lines := { s.lines with supplyFail := true }, lane := LanePort.cleared }) ∧
  ∀ (i : Instr) (s : State),
    ((i = .supplyFail ∧ s.lines.supplyFail = false ∧ s.device ≠ .hold) ∨
      (i = .hold ∧ s.unhindered ∧ ∃ q rest, s.takes q rest ∧ q.code = 0x09#8)) →
    ∃ t, exec i s = .next t ∧ t.device = .hold ∧ (∀ c, t.context c = none) ∧ t.air = AirPort.cleared ∧
      t.cipher = Cipher.cleared ∧ t.cache = [] ∧ t.recent = [] ∧ t.lane.requests = [] ∧ t.lane.reports = [] ∧
      t.lane.tx = none ∧ t.mgmt = Management.cleared ∧ t.keys.outstanding = none ∧ t.keys.initCheck = [] ∧
      (∀ n, ((s.slot n).erasePending = true ∨
          (n ≠ 0 ∧ ((s.slot n).retain = false ∨ (s.slot n).state = .partLoaded))) → t.slot n = Slot.empty) ∧
      (∀ n, (s.slot n).erasePending = false →
        (n = 0 ∨ ((s.slot n).retain = true ∧ (s.slot n).state ≠ .partLoaded)) → t.slot n = s.slot n) ∧
      (∀ g, t.keys.writeGen = some g ↔ s.keys.writeGen = some g ∧
        ∃ n, (t.slot n).role = some .record ∧ (t.slot n).generation = g ∧ (t.slot n).isActive = true) ∧
      ((∃ n, (s.slot n).state ≠ .empty ∧ (t.slot n).state = .empty) → t.keys.keyChange = true) ∧
      t.keys.rootLock = s.keys.rootLock ∧ t.clock.minute = s.clock.minute ∧
      t.clock.calendarSet = s.clock.calendarSet ∧ t.clock.minuteTimer = s.clock.minuteTimer ∧
      t.events = s.events ∧
      (i = .supplyFail → t.lane.responses = [] ∧ t.lines = { s.lines with supplyFail := true }) ∧
      (∀ q rest, i = .hold → s.lane.requests = q :: rest → t.lines = s.lines ∧ t.lane.responses =
        [.response { tag := q.tag, code := q.code, status := .ok, attention := s.events.flags != 0,
                     keyChange := t.keys.keyChange,
                     data := [BitVec.ofNat 8 (allContexts.countP fun c => (s.context c).isSome)] }])

/-- HOLD exit (R181, R103): the change of line that completes the pair - WAKE asserted, SUPPLY-FAIL deasserted - with
RESET deasserted and no ZEROISE latched, enters INIT with lane time 0, default profiles, cleared events, an empty air
port and lane queues, and the scrub pointer 0; slots, lock, calendar, the pass table, the two tables and the
management unit stay. With no slot holding material the check is complete at once and the part is in MAINTENANCE;
otherwise the check of the lowest such slot is outstanding. With RESET asserted the same is left, but no check begins:
the part is held in reset, a lane send is cut off (log 18), and INIT is entered when RESET is deasserted (R181, R182).
-/
def Obligations.HoldExit : Prop :=
  ∀ (i : Instr) (s : State), s.device = .hold →
    ((i = .wake ∧ s.lines.wake = false ∧ s.lines.supplyFail = false) ∨
      (i = .supplyFailDeasserted ∧ s.lines.supplyFail = true ∧ s.lines.wake = true)) →
    (s.lines.reset = false → s.lines.zeroiseLatched = 0 →
      ∃ t, exec i s = .next t ∧ t.clock = { s.clock with laneTime := 0 } ∧ t.profile = LaneProfile.defaults ∧
        t.events = Events.cleared ∧ t.air = AirPort.cleared ∧ t.lane.requests = [] ∧ t.lane.responses = [] ∧
        t.lane.reports = [] ∧ t.lane.tx = s.lane.tx ∧ t.keys.slots = s.keys.slots ∧ t.keys.scrubPointer = 0 ∧
        t.keys.rootLock = s.keys.rootLock ∧ t.keys.writeGen = s.keys.writeGen ∧ t.keys.keyChange = s.keys.keyChange ∧
        t.lines = { s.lines with wake := true, supplyFail := false } ∧
        t.passes = s.passes ∧ t.cache = s.cache ∧ t.recent = s.recent ∧ t.mgmt = s.mgmt ∧
        ((∀ n, (s.slot n).holdsMaterial = false) → t.device = .maintenance ∧ t.keys.outstanding = none) ∧
        (∀ n, (s.slot n).holdsMaterial = true → (∀ m, m < n → (s.slot m).holdsMaterial = false) →
          t.device = .init ∧ ∃ r, t.keys.outstanding = some { slot := n, forced := true, running := r })) ∧
    (s.lines.reset = true → ∃ t, exec i s = .next t ∧ t.heldInReset = true ∧ t.live = false ∧
      t = { s with
        device := t.device
        clock := { s.clock with laneTime := 0 }
        profile := LaneProfile.defaults
        air := AirPort.cleared
        keys := { s.keys with scrubPointer := 0 }
        lane := LanePort.cleared
        events := Events.cleared
        lines := { s.lines with wake := true, supplyFail := false } })

/-- The line changes that complete no pair change their level alone (R163, R181): LRDY both ways, WAKE's deassertion,
a WAKE assertion outside HOLD or while SUPPLY-FAIL is asserted, a SUPPLY-FAIL deassertion outside HOLD or while WAKE is
deasserted; an assertion of RESET in HOLD is not taken, and neither is its deassertion there (R180, R181). -/
def Obligations.LineLevels : Prop :=
  ∀ s : State,
    exec .lrdyAsserted s = .next { s with lines := { s.lines with lrdy := true } } ∧
    exec .lrdyDeasserted s = .next { s with lines := { s.lines with lrdy := false } } ∧
    exec .wakeDeasserted s = .next { s with lines := { s.lines with wake := false } } ∧
    ((s.device ≠ .hold ∨ s.lines.supplyFail = true) →
      exec .wake s = .next { s with lines := { s.lines with wake := true } }) ∧
    ((s.device ≠ .hold ∨ s.lines.wake = false) →
      exec .supplyFailDeasserted s = .next { s with lines := { s.lines with supplyFail := false } }) ∧
    (s.device = .hold → exec .laneReset s = .next { s with lines := { s.lines with reset := true } } ∧
      exec .resetDeasserted s = .next { s with lines := { s.lines with reset := false } })

/-- A lane reset (R182, R83): the part is held in reset; contexts, queues, engines and tables are cleared, events and
alert mask cleared, profiles at their defaults, lane time 0; PART-LOADED and erase-pending slots are EMPTY, every other
slot is kept, with the lock, the write generation and the calendar. At its end, with no ZEROISE latched, the part enters
INIT with lane time 0 and cleared events and counters; with no slot holding material it is in MAINTENANCE at once,
otherwise its INIT check list holds every slot holding material in ascending order and the first is outstanding (R182,
R103, R176). A ZEROISE assertion while RESET is held changes nothing but what will be taken when INIT is entered; it
leaves every slot EMPTY then, and the part in MAINTENANCE (R182). -/
def Obligations.LaneResetRule : Prop :=
  ∀ s : State, s.device ≠ .hold →
    (s.lines.reset = false →
      ∃ t, exec .laneReset s = .next t ∧ t.live = false ∧ t.lines = { s.lines with reset := true } ∧
        (∀ c, t.context c = none) ∧ t.air = AirPort.cleared ∧ t.lane = LanePort.cleared ∧
        t.cipher = Cipher.cleared ∧ t.cache = [] ∧ t.recent = [] ∧ t.mgmt = Management.cleared ∧
        t.events = Events.cleared ∧ t.profile = LaneProfile.defaults ∧ t.clock = { s.clock with laneTime := 0 } ∧
        (∀ n, ((s.slot n).state = .partLoaded ∨ (s.slot n).erasePending = true) → t.slot n = Slot.empty) ∧
        (∀ n, (s.slot n).state ≠ .partLoaded → (s.slot n).erasePending = false → t.slot n = s.slot n) ∧
        ((∃ n, (s.slot n).state = .partLoaded) → t.keys.keyChange = true) ∧
        t.keys.outstanding = none ∧ t.keys.initCheck = [] ∧ t.keys.scrubPointer = 0 ∧
        t.keys.rootLock = s.keys.rootLock ∧ t.keys.writeGen = s.keys.writeGen) ∧
    (s.lines.reset = true →
      exec .zeroiseLine s = .next { s with lines := { s.lines with zeroiseLatched := s.lines.zeroiseLatched + 1 } } ∧
      ∃ t, exec .resetDeasserted s = .next t ∧ t.clock = { s.clock with laneTime := 0 } ∧
        t.lines = { s.lines with reset := false, zeroiseLatched := 0 } ∧
        (s.lines.zeroiseLatched = 0 →
          t = { s with
            device := t.device, clock := t.clock, lines := t.lines, events := Events.cleared, cipher := t.cipher
            keys := { s.keys with initCheck := t.keys.initCheck, outstanding := t.keys.outstanding } } ∧
          t.keys.initCheck = allSlots.filter (fun n => (s.slot n).holdsMaterial) ∧
          ((∀ n, (s.slot n).holdsMaterial = false) → t.device = .maintenance) ∧
          (∀ n l, t.keys.initCheck = n :: l →
            t.device = .init ∧ ∃ r, t.keys.outstanding = some { slot := n, forced := true, running := r })) ∧
        (0 < s.lines.zeroiseLatched → t.device = .maintenance ∧ (∀ n, t.slot n = Slot.empty) ∧
          t.keys.keyChange = true ∧ t.events.flag Event.zeroised.number = true))

/-- Power-on reset with SUPPLY-FAIL and RESET deasserted (R183): every slot EMPTY, lock clear, write generation NONE,
indicator clear, calendar unset with its timer at 0, lane time 0, default profiles, every queue, table, context and
engine empty, events cleared, and the part in MAINTENANCE, its INIT check complete at once. With SUPPLY-FAIL standing
asserted the part is in HOLD. The levels of the lines and, with RESET standing asserted, the part held in reset are the
model's choice (logs 7, 15 and 17), and so is a ZEROISE assertion latched before it, which it drops (log 34). -/
def Obligations.PowerOnReset : Prop :=
  ∀ s : State,
    (s.lines.supplyFail = false → s.lines.reset = false → exec .powerOnReset s = .next { State.reset with
      lines := { s.lines with zeroiseLatched := 0 }
      randomDraws := s.randomDraws
      pending := s.pending }) ∧
    (s.lines.supplyFail = false → s.lines.reset = true → ∃ t, exec .powerOnReset s = .next t ∧ t.live = false ∧
      { t with device := .maintenance } = { State.reset with
        lines := { s.lines with zeroiseLatched := 0 }
        randomDraws := s.randomDraws
        pending := s.pending }) ∧
    (s.lines.supplyFail = true → ∃ t, exec .powerOnReset s = .next t ∧ t.device = .hold ∧
      (∀ n, t.slot n = Slot.empty) ∧ t.keys.keyChange = false ∧ t.clock = Clock.powerOn) ∧
    (∀ n, State.reset.slot n = Slot.empty) ∧ State.reset.keys.rootLock = false ∧ State.reset.keys.writeGen = none ∧
    State.reset.keys.keyChange = false ∧ State.reset.clock.calendarSet = false ∧
    State.reset.clock.minuteTimer = 0 ∧ State.reset.clock.laneTime = 0

/-! ### The lane port (chapter 9) -/

/-- An arriving lane frame (R158, R160): one that fails its CRC or length check, or whose class is neither incoming
class, is dropped with LANE-CRC; a REQUEST of good shape joins the tail of the request queue, or is answered BUSY when
4 wait; a REQUEST of wrong shape is answered BAD-FIELD with the code it carried, 0x00 if none; an answer that finds 8
responses queued is dropped with REQUEST-DROP; a REQUEST without a tag is dropped with LANE-CRC. -/
def Obligations.LaneFramesArrive : Prop :=
  ∀ (i : Instr) (cls : Byte) (f : PortFrame) (s : State), laneFrameOf i = some (cls, f) →
    (s.live = false → exec i s = .next s) ∧
    (s.live = true → (laneFrameGood cls f = false ∨ cls ∉ [0x11#8, 0x12#8] ∨ (cls = 0x12#8 ∧ f.payload = [])) →
      exec i s = .next (s.raise .laneCrc)) ∧
    (s.live = true → laneFrameGood cls f = true → cls = 0x12#8 → ∀ tag body, f.payload = tag :: body →
      (requestShapeGood f.payload = true → s.lane.requests.length < 4 →
        exec i s = .next { s with lane := { s.lane with requests := s.lane.requests ++
          [{ tag, code := byteAt body 0, params := body.drop 1 }] } }) ∧
      (∀ st, ((requestShapeGood f.payload = true ∧ 4 ≤ s.lane.requests.length ∧ st = .busy) ∨
          (requestShapeGood f.payload = false ∧ st = .badField)) →
        (s.lane.responses.length < 8 →
          exec i s = .next (s.answered { tag, code := byteAt body 0, params := [] } st [])) ∧
        (8 ≤ s.lane.responses.length → exec i s = .next (s.raise .requestDrop))))

/-- The start of a lane send (R163, R164, R166): with LRDY asserted and no send in progress the head of the response
queue goes first and a held response takes the place it leaves; with no response waiting the head of the report queue
goes, and a stalled context that can be released is released into the place it leaves (R58), an engine that is idle
under its tag key or session key being CLOSED-IDLE then, and no key of a context still in use being closed (R139; what
an engine at work under such a key does is the model's choice, log 14); without LRDY, or during a send, or with both
queues empty, nothing starts. Frame-out ends the send. Every RESPONSE, ALERT, REPORT and UP-PASSTHROUGH has the code,
the payload and the CRC of chapter 11 (R187, R188); the unused bits of a report's bytes are zero by the model's choice
(log 35). -/
def Obligations.LaneSendRule : Prop :=
  (∀ a : Answer, a.laidOut) ∧ (∀ x : ReportItem, x.laidOut) ∧
  [Status.ok, .clamped, .busy, .order, .badSlot, .badField, .slotBusy, .duplicate, .kcvMismatch, .noRoot, .locked,
    .state, .windowEnded].map Status.byte = [0, 1, 2, 3, 4, 5, 6, 7, 8, 9, 10, 11, 12] ∧
  [PassResult.complete, .completeNoWrite, .writeUncertain, .commitAuthFail, .tagAuthFail, .noReply, .abandoned, .noKey,
    .replay, .keyWithdrawn].map PassResult.byte = [0, 1, 2, 3, 4, 5, 6, 7, 8, 9] ∧
  ∀ s : State,
    (s.lines.lrdy = true → s.lane.tx = none → s.heldInReset = false →
      (∀ a rest, s.lane.responses = a :: rest → ∃ t, exec .laneSendStart s = .next t ∧
        t = { s with lane := t.lane, mgmt := t.mgmt } ∧ t.lane.tx = some a.wire ∧
        t.mgmt = { s.mgmt with held := none } ∧
        t.lane.reports = s.lane.reports ∧ t.lane.requests = s.lane.requests ∧
        (s.mgmt.held = none → t.lane.responses = rest) ∧
        (∀ r, s.mgmt.held = some r → t.lane.responses = rest ++ [.response r])) ∧
      (∀ r rest, s.lane.responses = [] → s.lane.reports = r :: rest → ∃ t l, exec .laneSendStart s = .next t ∧
        t.lane.tx = some r.wire ∧ t.lane.reports = rest ++ l ∧
        (s.passes.stalled = [] → t = { s with lane := { s.lane with reports := rest, tx := some r.wire } }) ∧
        (∀ c more x, s.passes.stalled = c :: more → s.context c = some x → x.state = .done → x.jobRunning = false →
          s.openList x.homeZone = c :: (s.openList x.homeZone).drop 1 → rest.length < 64 →
          t.context c = none ∧
          rest ++ [.report (x.report (x.result.getD .abandoned))] <+: t.lane.reports ∧
          (∀ e, ((s.engine e).key? = some (.tk c) ∨ (s.engine e).key? = some (.sk c)) →
            ((s.engine e).isIdle = true → t.engine e = Engine.closed) ∧
            ((s.engine e).isIdle = false → t.engine e = { s.engine e with closeAtEnd := true })) ∧
          (∀ e, (∀ d, ((s.engine e).key? = some (.tk d) ∨ (s.engine e).key? = some (.sk d)) → t.context d ≠ none) →
            t.engine e = s.engine e)))) ∧
    ((s.lines.lrdy = false ∨ s.lane.tx.isSome = true ∨ (s.lane.responses = [] ∧ s.lane.reports = [])) →
      exec .laneSendStart s = .next s) ∧
    exec .laneFrameOut s = .next { s with lane := { s.lane with tx := none } }
end

