-- ==== Sys2Proof/Laws/Tables.lean ====
section
/-! SUPPORT. Read after write in a table of fixed size, and in the state through its numbers. -/

namespace Sys2Proof.Machine

@[simp] theorem tableGet_tableSet_self {α : Type} {n : Nat} (v : Vector α n) (i : Fin n) (a : α) :
    tableGet (tableSet v i a) i = a := by
  simp [tableGet, tableSet]

theorem tableGet_tableSet_ne {α : Type} {n : Nat} (v : Vector α n) {i j : Fin n} (a : α) (h : j ≠ i) :
    tableGet (tableSet v i a) j = tableGet v j := by
  have h' : i.val ≠ j.val := fun e => h (Fin.ext e.symm)
  simp [tableGet, tableSet, Vector.getElem_set_ne _ _ h']

theorem tableGet_tableSet {α : Type} {n : Nat} (v : Vector α n) (i j : Fin n) (a : α) :
    tableGet (tableSet v i a) j = if j = i then a else tableGet v j := by
  by_cases h : j = i
  · subst h; simp
  · simp [h, tableGet_tableSet_ne]

@[simp] theorem tableGet_tableMap {α : Type} {n : Nat} (f : Fin n → α → α) (v : Vector α n) (i : Fin n) :
    tableGet (tableMap f v) i = f i (tableGet v i) := by
  simp [tableGet, tableMap]

@[simp] theorem tableGet_replicate {α : Type} {n : Nat} (a : α) (i : Fin n) :
    tableGet (Vector.replicate n a) i = a := by
  simp [tableGet]

@[simp] theorem tableGet_ofFn {α : Type} {n : Nat} (f : Fin n → α) (i : Fin n) :
    tableGet (Vector.ofFn f) i = f i := by
  simp [tableGet]

theorem table_ext {α : Type} {n : Nat} {v w : Vector α n} (h : ∀ i : Fin n, tableGet v i = tableGet w i) :
    v = w := by
  ext i hi
  exact h ⟨i, hi⟩

@[simp] theorem tableSet_same {α : Type} {n : Nat} (v : Vector α n) (i : Fin n) :
    tableSet v i (tableGet v i) = v :=
  table_ext fun j => by
    rw [tableGet_tableSet]; split
    · simp [*]
    · rfl

@[simp] theorem tableSet_tableSet {α : Type} {n : Nat} (v : Vector α n) (i : Fin n) (a b : α) :
    tableSet (tableSet v i a) i b = tableSet v i b :=
  table_ext fun j => by simp only [tableGet_tableSet]; split <;> simp_all

/-! ### The state through its numbers -/

theorem State.slot_setSlot (s : State) (n m : SlotNo) (x : Slot) :
    (s.setSlot n x).slot m = if m = n then x else s.slot m :=
  tableGet_tableSet _ _ _ _

@[simp] theorem State.slot_setSlot_self (s : State) (n : SlotNo) (x : Slot) : (s.setSlot n x).slot n = x :=
  tableGet_tableSet_self _ _ _

theorem State.slot_changeSlot (s : State) (n m : SlotNo) (x : Slot) :
    (s.changeSlot n x).slot m = if m = n then x else s.slot m :=
  tableGet_tableSet _ _ _ _

@[simp] theorem State.slot_changeSlot_self (s : State) (n : SlotNo) (x : Slot) :
    (s.changeSlot n x).slot n = x :=
  tableGet_tableSet_self _ _ _

theorem State.context_setContext (s : State) (c d : ContextNo) (x : Option Context) :
    (s.setContext c x).context d = if d = c then x else s.context d :=
  tableGet_tableSet _ _ _ _

@[simp] theorem State.context_setContext_self (s : State) (c : ContextNo) (x : Option Context) :
    (s.setContext c x).context c = x :=
  tableGet_tableSet_self _ _ _

theorem State.context_modContext (s : State) (c d : ContextNo) (f : Context → Context) :
    (s.modContext c f).context d = if d = c then (s.context c).map f else s.context d :=
  tableGet_tableSet _ _ _ _

theorem State.openList_setOpenList (s : State) (z w : ZoneNo) (l : List ContextNo) :
    (s.setOpenList z l).openList w = if w = z then l else s.openList w :=
  tableGet_tableSet _ _ _ _

theorem State.engine_setEngine (s : State) (e d : EngineNo) (x : Engine) :
    (s.setEngine e x).engine d = if d = e then x else s.engine d :=
  tableGet_tableSet _ _ _ _

@[simp] theorem State.engine_setEngine_self (s : State) (e : EngineNo) (x : Engine) :
    (s.setEngine e x).engine e = x :=
  tableGet_tableSet_self _ _ _

theorem State.engine_tellEngines (s : State) (f : Engine → Engine) (e : EngineNo) :
    ((tableGet (tableMap (fun _ x => f x) s.cipher.engines)) e) = f (s.engine e) :=
  tableGet_tableMap _ _ _

end Sys2Proof.Machine
end

