-- ==== Sys2Proof/Laws/Events.lean ====
section
/-! SUPPORT. Raising an event: everything it does (R168, R174). -/

namespace Sys2Proof.Machine

theorem eventBit_getLsbD (n m : EventNo) : (eventBit n).getLsbD m.val = decide (m = n) := by
  revert n m; decide

/-- A record of event n sets its flag and leaves every other flag. -/
theorem Events.flag_record (v : Events) (n m : EventNo) :
    (v.record n).flag m = (decide (m = n) || v.flag m) := by
  simp only [Events.flag, Events.record, BitVec.getLsbD_or, eventBit_getLsbD, Bool.or_comm]

/-- A record of event n counts it and leaves every other counter. -/
theorem Events.counter_record (v : Events) (n m : EventNo) :
    tableGet (v.record n).counters m = if m = n then countUp (tableGet v.counters n) else tableGet v.counters m :=
  tableGet_tableSet _ _ _ _

@[simp] theorem Events.alertMask_record (v : Events) (n : EventNo) : (v.record n).alertMask = v.alertMask := rfl

theorem countUp_ne_zero (n : BitVec 16) : countUp n ≠ 0 := by
  unfold countUp
  split
  · simp_all
  · bv_omega

/-- The alerts a raise sends: one where the flag was clear, the mask selects the event, the part is not in HOLD
and the response queue has room; else none (R174). -/
def State.alertsOf (s : State) (v : Event) : List Answer :=
  if s.events.flag v.number = false ∧ s.events.selected v.number = true ∧ s.device ≠ .hold ∧
      s.lane.responses.length < 8 then [.alert v.number s.clock.laneTime] else []

/-- All that a raise does (R168, R174). -/
theorem State.raise_eq (s : State) (v : Event) :
    s.raise v = { s with events := s.events.record v.number,
                         lane := { s.lane with responses := s.lane.responses ++ s.alertsOf v } } := by
  unfold State.raise State.alertsOf State.queueAlert
  by_cases hf : s.events.flag v.number = true <;> by_cases hs : s.events.selected v.number = true <;>
    by_cases hd : s.device = .hold <;> by_cases hl : s.lane.responses.length < 8 <;> simp [hf, hs, hd, hl]

@[simp] theorem State.raise_device (s : State) (v : Event) : (s.raise v).device = s.device := by rw [raise_eq]
@[simp] theorem State.raise_clock (s : State) (v : Event) : (s.raise v).clock = s.clock := by rw [raise_eq]
@[simp] theorem State.raise_lines (s : State) (v : Event) : (s.raise v).lines = s.lines := by rw [raise_eq]
@[simp] theorem State.raise_air (s : State) (v : Event) : (s.raise v).air = s.air := by rw [raise_eq]
@[simp] theorem State.raise_profile (s : State) (v : Event) : (s.raise v).profile = s.profile := by rw [raise_eq]
@[simp] theorem State.raise_passes (s : State) (v : Event) : (s.raise v).passes = s.passes := by rw [raise_eq]
@[simp] theorem State.raise_keys (s : State) (v : Event) : (s.raise v).keys = s.keys := by rw [raise_eq]
@[simp] theorem State.raise_cipher (s : State) (v : Event) : (s.raise v).cipher = s.cipher := by rw [raise_eq]
@[simp] theorem State.raise_cache (s : State) (v : Event) : (s.raise v).cache = s.cache := by rw [raise_eq]
@[simp] theorem State.raise_recent (s : State) (v : Event) : (s.raise v).recent = s.recent := by rw [raise_eq]
@[simp] theorem State.raise_mgmt (s : State) (v : Event) : (s.raise v).mgmt = s.mgmt := by rw [raise_eq]
@[simp] theorem State.raise_randomDraws (s : State) (v : Event) : (s.raise v).randomDraws = s.randomDraws := by
  rw [raise_eq]
@[simp] theorem State.raise_pending (s : State) (v : Event) : (s.raise v).pending = s.pending := by rw [raise_eq]
@[simp] theorem State.raise_events (s : State) (v : Event) : (s.raise v).events = s.events.record v.number := by
  rw [raise_eq]
@[simp] theorem State.raise_requests (s : State) (v : Event) : (s.raise v).lane.requests = s.lane.requests := by
  rw [raise_eq]
@[simp] theorem State.raise_reports (s : State) (v : Event) : (s.raise v).lane.reports = s.lane.reports := by
  rw [raise_eq]
@[simp] theorem State.raise_tx (s : State) (v : Event) : (s.raise v).lane.tx = s.lane.tx := by rw [raise_eq]
theorem State.raise_responses (s : State) (v : Event) :
    (s.raise v).lane.responses = s.lane.responses ++ s.alertsOf v := by rw [raise_eq]

/-- A raise never takes the response queue past its capacity. -/
theorem State.raise_responses_le (s : State) (v : Event) (h : s.lane.responses.length ≤ 8) :
    (s.raise v).lane.responses.length ≤ 8 := by
  rw [raise_responses, List.length_append]
  unfold State.alertsOf
  split <;> simp <;> omega

/-- A raise keeps the law of flags and counters. -/
theorem Events.lawful_record_aux (v : Events) (n m : EventNo)
    (h : v.flag m = true ↔ tableGet v.counters m ≠ 0) :
    (v.record n).flag m = true ↔ tableGet (v.record n).counters m ≠ 0 := by
  rw [Events.flag_record, Events.counter_record]
  by_cases e : m = n
  · subst e
    simpa using countUp_ne_zero (tableGet v.counters m)
  · simpa [e] using h

end Sys2Proof.Machine
end

