-- ==== Sys2Proof/Laws/Frames.lean ====
section
/-! SUPPORT. The bytes of numbers and of frames: a number's bytes spell it, and what the part sends is what a receiver
carries. -/

namespace Sys2Proof.Machine

/-- The two bytes of a CRC, high byte first, carry it (R187). -/
@[simp] theorem carriedCrc_split (crc : BitVec 16) (len : Byte) (p : List Byte) :
    carriedCrc { len, payload := p, crcHigh := crc.extractLsb' 8 8, crcLow := crc.extractLsb' 0 8 } = crc := by
  simp only [carriedCrc]
  exact (BitVec.extractLsb'_append_extractLsb'_eq_extractLsb' (by decide)).trans (by simp)

/-- A frame on the wire is its code, its length, its payload and two bytes more (R187). -/
@[simp] theorem wireFrame_length (code : Byte) (p : List Byte) : (wireFrame code p).length = p.length + 4 := by
  simp [wireFrame, crcBytes]

/-- The payload stands between the length byte and the CRC. -/
theorem wireFrame_payload (code : Byte) (p : List Byte) : ((wireFrame code p).drop 2).take p.length = p := by
  simp [wireFrame]

/-- The last two bytes of a frame are its CRC, high byte first (R187). -/
theorem wireFrame_crc (code : Byte) (p : List Byte) :
    (wireFrame code p).drop (p.length + 2) = crcBytes (frameCrc code (BitVec.ofNat 8 p.length) p) := by
  simp [wireFrame]

/-- What the part sends is a frame in the words of the claims (R187). -/
theorem wireFrame_framed (code : Byte) (p : List Byte) : framed (wireFrame code p) code p := by
  refine ⟨_, rfl, ?_⟩
  simp only [wireFrame, crcBytes, frameCrc, List.cons.injEq, true_and, List.append_cancel_left_eq, and_true]
  constructor <;> apply BitVec.eq_of_toNat_eq <;> simp [BitVec.extractLsb', Nat.shiftRight_eq_div_pow]

/-- The CRC takes one byte more (R187). -/
theorem crc16_append (l : List Byte) (b : Byte) : crc16 (l ++ [b]) = crcByte (crc16 l) b := by
  simp [crc16]

/-! ### Numbers as bytes, most significant first -/

/-- A number's k bytes are k bytes. -/
@[simp] theorem toBytes_length (k v : Nat) : (toBytes k v).length = k := by
  induction k with
  | zero => rfl
  | succ k ih => simp [toBytes, ih]

/-- A byte string after a number n is n moved up by the string's length, and the string's own number. -/
theorem foldl_bytes (l : List Byte) (n : Nat) :
    l.foldl (fun acc b => acc * 256 + b.toNat) n = n * 256 ^ l.length + fromBytes l := by
  induction l generalizing n with
  | nil => simp [fromBytes]
  | cons b l ih =>
    have h := ih (0 * 256 + b.toNat)
    rw [List.foldl_cons, ih, fromBytes, fromBytes, List.foldl_cons, h, List.length_cons, fromBytes]
    ring

/-- The k bytes of a number spell it modulo 256 to the k. -/
theorem fromBytes_toBytes (k v : Nat) : fromBytes (toBytes k v) = v % 256 ^ k := by
  induction k generalizing v with
  | zero => simp [toBytes, fromBytes, Nat.mod_one]
  | succ k ih =>
    rw [toBytes, fromBytes, List.foldl_cons, foldl_bytes, ih, toBytes_length, Nat.pow_succ, Nat.mod_mul]
    simp [Nat.mul_comm, Nat.add_comm]

/-- A field that starts after a prefix is a field of what follows it. -/
theorem field_append (l m : List Byte) (i n : Nat) : field (l ++ m) (l.length + i) n = field m i n := by
  rw [field, field, ← List.drop_drop, List.drop_left]

/-- A number's bytes at the head of a string are the field of that length. -/
theorem field_toBytes (k v : Nat) (l : List Byte) (h : v < 256 ^ k) : field (toBytes k v ++ l) 0 k = v := by
  have : (toBytes k v ++ l).take k = toBytes k v := by simp
  rw [field, List.drop_zero, this, fromBytes_toBytes, Nat.mod_eq_of_lt h]

end Sys2Proof.Machine
end

