-- ==== Sys2Proof/Laws/State.lean ====
section
/-! SUPPORT. What each plain update of the state leaves as it was: one lemma for each field. -/

namespace Sys2Proof.Machine

/-! ### setSlot -/

@[simp] theorem State.setSlot_device (s : State) (n : SlotNo) (x : Slot) : (s.setSlot n x).device = s.device := rfl
@[simp] theorem State.setSlot_clock (s : State) (n : SlotNo) (x : Slot) : (s.setSlot n x).clock = s.clock := rfl
@[simp] theorem State.setSlot_lines (s : State) (n : SlotNo) (x : Slot) : (s.setSlot n x).lines = s.lines := rfl
@[simp] theorem State.setSlot_air (s : State) (n : SlotNo) (x : Slot) : (s.setSlot n x).air = s.air := rfl
@[simp] theorem State.setSlot_profile (s : State) (n : SlotNo) (x : Slot) : (s.setSlot n x).profile = s.profile := rfl
@[simp] theorem State.setSlot_passes (s : State) (n : SlotNo) (x : Slot) : (s.setSlot n x).passes = s.passes := rfl
@[simp] theorem State.setSlot_cipher (s : State) (n : SlotNo) (x : Slot) : (s.setSlot n x).cipher = s.cipher := rfl
@[simp] theorem State.setSlot_cache (s : State) (n : SlotNo) (x : Slot) : (s.setSlot n x).cache = s.cache := rfl
@[simp] theorem State.setSlot_recent (s : State) (n : SlotNo) (x : Slot) : (s.setSlot n x).recent = s.recent := rfl
@[simp] theorem State.setSlot_lane (s : State) (n : SlotNo) (x : Slot) : (s.setSlot n x).lane = s.lane := rfl
@[simp] theorem State.setSlot_mgmt (s : State) (n : SlotNo) (x : Slot) : (s.setSlot n x).mgmt = s.mgmt := rfl
@[simp] theorem State.setSlot_events (s : State) (n : SlotNo) (x : Slot) : (s.setSlot n x).events = s.events := rfl
@[simp] theorem State.setSlot_randomDraws (s : State) (n : SlotNo) (x : Slot) : (s.setSlot n x).randomDraws = s.randomDraws := rfl
@[simp] theorem State.setSlot_pending (s : State) (n : SlotNo) (x : Slot) : (s.setSlot n x).pending = s.pending := rfl

/-! ### noteKeyChange -/

@[simp] theorem State.noteKeyChange_device (s : State) : (s.noteKeyChange).device = s.device := rfl
@[simp] theorem State.noteKeyChange_clock (s : State) : (s.noteKeyChange).clock = s.clock := rfl
@[simp] theorem State.noteKeyChange_lines (s : State) : (s.noteKeyChange).lines = s.lines := rfl
@[simp] theorem State.noteKeyChange_air (s : State) : (s.noteKeyChange).air = s.air := rfl
@[simp] theorem State.noteKeyChange_profile (s : State) : (s.noteKeyChange).profile = s.profile := rfl
@[simp] theorem State.noteKeyChange_passes (s : State) : (s.noteKeyChange).passes = s.passes := rfl
@[simp] theorem State.noteKeyChange_cipher (s : State) : (s.noteKeyChange).cipher = s.cipher := rfl
@[simp] theorem State.noteKeyChange_cache (s : State) : (s.noteKeyChange).cache = s.cache := rfl
@[simp] theorem State.noteKeyChange_recent (s : State) : (s.noteKeyChange).recent = s.recent := rfl
@[simp] theorem State.noteKeyChange_lane (s : State) : (s.noteKeyChange).lane = s.lane := rfl
@[simp] theorem State.noteKeyChange_mgmt (s : State) : (s.noteKeyChange).mgmt = s.mgmt := rfl
@[simp] theorem State.noteKeyChange_events (s : State) : (s.noteKeyChange).events = s.events := rfl
@[simp] theorem State.noteKeyChange_randomDraws (s : State) : (s.noteKeyChange).randomDraws = s.randomDraws := rfl
@[simp] theorem State.noteKeyChange_pending (s : State) : (s.noteKeyChange).pending = s.pending := rfl

/-! ### changeSlot -/

@[simp] theorem State.changeSlot_device (s : State) (n : SlotNo) (x : Slot) : (s.changeSlot n x).device = s.device := rfl
@[simp] theorem State.changeSlot_clock (s : State) (n : SlotNo) (x : Slot) : (s.changeSlot n x).clock = s.clock := rfl
@[simp] theorem State.changeSlot_lines (s : State) (n : SlotNo) (x : Slot) : (s.changeSlot n x).lines = s.lines := rfl
@[simp] theorem State.changeSlot_air (s : State) (n : SlotNo) (x : Slot) : (s.changeSlot n x).air = s.air := rfl
@[simp] theorem State.changeSlot_profile (s : State) (n : SlotNo) (x : Slot) : (s.changeSlot n x).profile = s.profile := rfl
@[simp] theorem State.changeSlot_passes (s : State) (n : SlotNo) (x : Slot) : (s.changeSlot n x).passes = s.passes := rfl
@[simp] theorem State.changeSlot_cipher (s : State) (n : SlotNo) (x : Slot) : (s.changeSlot n x).cipher = s.cipher := rfl
@[simp] theorem State.changeSlot_cache (s : State) (n : SlotNo) (x : Slot) : (s.changeSlot n x).cache = s.cache := rfl
@[simp] theorem State.changeSlot_recent (s : State) (n : SlotNo) (x : Slot) : (s.changeSlot n x).recent = s.recent := rfl
@[simp] theorem State.changeSlot_lane (s : State) (n : SlotNo) (x : Slot) : (s.changeSlot n x).lane = s.lane := rfl
@[simp] theorem State.changeSlot_mgmt (s : State) (n : SlotNo) (x : Slot) : (s.changeSlot n x).mgmt = s.mgmt := rfl
@[simp] theorem State.changeSlot_events (s : State) (n : SlotNo) (x : Slot) : (s.changeSlot n x).events = s.events := rfl
@[simp] theorem State.changeSlot_randomDraws (s : State) (n : SlotNo) (x : Slot) : (s.changeSlot n x).randomDraws = s.randomDraws := rfl
@[simp] theorem State.changeSlot_pending (s : State) (n : SlotNo) (x : Slot) : (s.changeSlot n x).pending = s.pending := rfl

/-! ### setOutstanding -/

@[simp] theorem State.setOutstanding_device (s : State) (o : Option Scrub) : (s.setOutstanding o).device = s.device := rfl
@[simp] theorem State.setOutstanding_clock (s : State) (o : Option Scrub) : (s.setOutstanding o).clock = s.clock := rfl
@[simp] theorem State.setOutstanding_lines (s : State) (o : Option Scrub) : (s.setOutstanding o).lines = s.lines := rfl
@[simp] theorem State.setOutstanding_air (s : State) (o : Option Scrub) : (s.setOutstanding o).air = s.air := rfl
@[simp] theorem State.setOutstanding_profile (s : State) (o : Option Scrub) : (s.setOutstanding o).profile = s.profile := rfl
@[simp] theorem State.setOutstanding_passes (s : State) (o : Option Scrub) : (s.setOutstanding o).passes = s.passes := rfl
@[simp] theorem State.setOutstanding_cipher (s : State) (o : Option Scrub) : (s.setOutstanding o).cipher = s.cipher := rfl
@[simp] theorem State.setOutstanding_cache (s : State) (o : Option Scrub) : (s.setOutstanding o).cache = s.cache := rfl
@[simp] theorem State.setOutstanding_recent (s : State) (o : Option Scrub) : (s.setOutstanding o).recent = s.recent := rfl
@[simp] theorem State.setOutstanding_lane (s : State) (o : Option Scrub) : (s.setOutstanding o).lane = s.lane := rfl
@[simp] theorem State.setOutstanding_mgmt (s : State) (o : Option Scrub) : (s.setOutstanding o).mgmt = s.mgmt := rfl
@[simp] theorem State.setOutstanding_events (s : State) (o : Option Scrub) : (s.setOutstanding o).events = s.events := rfl
@[simp] theorem State.setOutstanding_randomDraws (s : State) (o : Option Scrub) : (s.setOutstanding o).randomDraws = s.randomDraws := rfl
@[simp] theorem State.setOutstanding_pending (s : State) (o : Option Scrub) : (s.setOutstanding o).pending = s.pending := rfl

/-! ### setContext -/

@[simp] theorem State.setContext_device (s : State) (c : ContextNo) (x : Option Context) : (s.setContext c x).device = s.device := rfl
@[simp] theorem State.setContext_clock (s : State) (c : ContextNo) (x : Option Context) : (s.setContext c x).clock = s.clock := rfl
@[simp] theorem State.setContext_lines (s : State) (c : ContextNo) (x : Option Context) : (s.setContext c x).lines = s.lines := rfl
@[simp] theorem State.setContext_air (s : State) (c : ContextNo) (x : Option Context) : (s.setContext c x).air = s.air := rfl
@[simp] theorem State.setContext_profile (s : State) (c : ContextNo) (x : Option Context) : (s.setContext c x).profile = s.profile := rfl
@[simp] theorem State.setContext_keys (s : State) (c : ContextNo) (x : Option Context) : (s.setContext c x).keys = s.keys := rfl
@[simp] theorem State.setContext_cipher (s : State) (c : ContextNo) (x : Option Context) : (s.setContext c x).cipher = s.cipher := rfl
@[simp] theorem State.setContext_cache (s : State) (c : ContextNo) (x : Option Context) : (s.setContext c x).cache = s.cache := rfl
@[simp] theorem State.setContext_recent (s : State) (c : ContextNo) (x : Option Context) : (s.setContext c x).recent = s.recent := rfl
@[simp] theorem State.setContext_lane (s : State) (c : ContextNo) (x : Option Context) : (s.setContext c x).lane = s.lane := rfl
@[simp] theorem State.setContext_mgmt (s : State) (c : ContextNo) (x : Option Context) : (s.setContext c x).mgmt = s.mgmt := rfl
@[simp] theorem State.setContext_events (s : State) (c : ContextNo) (x : Option Context) : (s.setContext c x).events = s.events := rfl
@[simp] theorem State.setContext_randomDraws (s : State) (c : ContextNo) (x : Option Context) : (s.setContext c x).randomDraws = s.randomDraws := rfl
@[simp] theorem State.setContext_pending (s : State) (c : ContextNo) (x : Option Context) : (s.setContext c x).pending = s.pending := rfl

/-! ### modContext -/

@[simp] theorem State.modContext_device (s : State) (c : ContextNo) (f : Context → Context) : (s.modContext c f).device = s.device := rfl
@[simp] theorem State.modContext_clock (s : State) (c : ContextNo) (f : Context → Context) : (s.modContext c f).clock = s.clock := rfl
@[simp] theorem State.modContext_lines (s : State) (c : ContextNo) (f : Context → Context) : (s.modContext c f).lines = s.lines := rfl
@[simp] theorem State.modContext_air (s : State) (c : ContextNo) (f : Context → Context) : (s.modContext c f).air = s.air := rfl
@[simp] theorem State.modContext_profile (s : State) (c : ContextNo) (f : Context → Context) : (s.modContext c f).profile = s.profile := rfl
@[simp] theorem State.modContext_keys (s : State) (c : ContextNo) (f : Context → Context) : (s.modContext c f).keys = s.keys := rfl
@[simp] theorem State.modContext_cipher (s : State) (c : ContextNo) (f : Context → Context) : (s.modContext c f).cipher = s.cipher := rfl
@[simp] theorem State.modContext_cache (s : State) (c : ContextNo) (f : Context → Context) : (s.modContext c f).cache = s.cache := rfl
@[simp] theorem State.modContext_recent (s : State) (c : ContextNo) (f : Context → Context) : (s.modContext c f).recent = s.recent := rfl
@[simp] theorem State.modContext_lane (s : State) (c : ContextNo) (f : Context → Context) : (s.modContext c f).lane = s.lane := rfl
@[simp] theorem State.modContext_mgmt (s : State) (c : ContextNo) (f : Context → Context) : (s.modContext c f).mgmt = s.mgmt := rfl
@[simp] theorem State.modContext_events (s : State) (c : ContextNo) (f : Context → Context) : (s.modContext c f).events = s.events := rfl
@[simp] theorem State.modContext_randomDraws (s : State) (c : ContextNo) (f : Context → Context) : (s.modContext c f).randomDraws = s.randomDraws := rfl
@[simp] theorem State.modContext_pending (s : State) (c : ContextNo) (f : Context → Context) : (s.modContext c f).pending = s.pending := rfl

/-! ### setOpenList -/

@[simp] theorem State.setOpenList_device (s : State) (z : ZoneNo) (l : List ContextNo) : (s.setOpenList z l).device = s.device := rfl
@[simp] theorem State.setOpenList_clock (s : State) (z : ZoneNo) (l : List ContextNo) : (s.setOpenList z l).clock = s.clock := rfl
@[simp] theorem State.setOpenList_lines (s : State) (z : ZoneNo) (l : List ContextNo) : (s.setOpenList z l).lines = s.lines := rfl
@[simp] theorem State.setOpenList_air (s : State) (z : ZoneNo) (l : List ContextNo) : (s.setOpenList z l).air = s.air := rfl
@[simp] theorem State.setOpenList_profile (s : State) (z : ZoneNo) (l : List ContextNo) : (s.setOpenList z l).profile = s.profile := rfl
@[simp] theorem State.setOpenList_keys (s : State) (z : ZoneNo) (l : List ContextNo) : (s.setOpenList z l).keys = s.keys := rfl
@[simp] theorem State.setOpenList_cipher (s : State) (z : ZoneNo) (l : List ContextNo) : (s.setOpenList z l).cipher = s.cipher := rfl
@[simp] theorem State.setOpenList_cache (s : State) (z : ZoneNo) (l : List ContextNo) : (s.setOpenList z l).cache = s.cache := rfl
@[simp] theorem State.setOpenList_recent (s : State) (z : ZoneNo) (l : List ContextNo) : (s.setOpenList z l).recent = s.recent := rfl
@[simp] theorem State.setOpenList_lane (s : State) (z : ZoneNo) (l : List ContextNo) : (s.setOpenList z l).lane = s.lane := rfl
@[simp] theorem State.setOpenList_mgmt (s : State) (z : ZoneNo) (l : List ContextNo) : (s.setOpenList z l).mgmt = s.mgmt := rfl
@[simp] theorem State.setOpenList_events (s : State) (z : ZoneNo) (l : List ContextNo) : (s.setOpenList z l).events = s.events := rfl
@[simp] theorem State.setOpenList_randomDraws (s : State) (z : ZoneNo) (l : List ContextNo) : (s.setOpenList z l).randomDraws = s.randomDraws := rfl
@[simp] theorem State.setOpenList_pending (s : State) (z : ZoneNo) (l : List ContextNo) : (s.setOpenList z l).pending = s.pending := rfl

/-! ### setEngine -/

@[simp] theorem State.setEngine_device (s : State) (e : EngineNo) (x : Engine) : (s.setEngine e x).device = s.device := rfl
@[simp] theorem State.setEngine_clock (s : State) (e : EngineNo) (x : Engine) : (s.setEngine e x).clock = s.clock := rfl
@[simp] theorem State.setEngine_lines (s : State) (e : EngineNo) (x : Engine) : (s.setEngine e x).lines = s.lines := rfl
@[simp] theorem State.setEngine_air (s : State) (e : EngineNo) (x : Engine) : (s.setEngine e x).air = s.air := rfl
@[simp] theorem State.setEngine_profile (s : State) (e : EngineNo) (x : Engine) : (s.setEngine e x).profile = s.profile := rfl
@[simp] theorem State.setEngine_passes (s : State) (e : EngineNo) (x : Engine) : (s.setEngine e x).passes = s.passes := rfl
@[simp] theorem State.setEngine_keys (s : State) (e : EngineNo) (x : Engine) : (s.setEngine e x).keys = s.keys := rfl
@[simp] theorem State.setEngine_cache (s : State) (e : EngineNo) (x : Engine) : (s.setEngine e x).cache = s.cache := rfl
@[simp] theorem State.setEngine_recent (s : State) (e : EngineNo) (x : Engine) : (s.setEngine e x).recent = s.recent := rfl
@[simp] theorem State.setEngine_lane (s : State) (e : EngineNo) (x : Engine) : (s.setEngine e x).lane = s.lane := rfl
@[simp] theorem State.setEngine_mgmt (s : State) (e : EngineNo) (x : Engine) : (s.setEngine e x).mgmt = s.mgmt := rfl
@[simp] theorem State.setEngine_events (s : State) (e : EngineNo) (x : Engine) : (s.setEngine e x).events = s.events := rfl
@[simp] theorem State.setEngine_randomDraws (s : State) (e : EngineNo) (x : Engine) : (s.setEngine e x).randomDraws = s.randomDraws := rfl
@[simp] theorem State.setEngine_pending (s : State) (e : EngineNo) (x : Engine) : (s.setEngine e x).pending = s.pending := rfl

/-! ### setJobs -/

@[simp] theorem State.setJobs_device (s : State) (q : List Job) : (s.setJobs q).device = s.device := rfl
@[simp] theorem State.setJobs_clock (s : State) (q : List Job) : (s.setJobs q).clock = s.clock := rfl
@[simp] theorem State.setJobs_lines (s : State) (q : List Job) : (s.setJobs q).lines = s.lines := rfl
@[simp] theorem State.setJobs_air (s : State) (q : List Job) : (s.setJobs q).air = s.air := rfl
@[simp] theorem State.setJobs_profile (s : State) (q : List Job) : (s.setJobs q).profile = s.profile := rfl
@[simp] theorem State.setJobs_passes (s : State) (q : List Job) : (s.setJobs q).passes = s.passes := rfl
@[simp] theorem State.setJobs_keys (s : State) (q : List Job) : (s.setJobs q).keys = s.keys := rfl
@[simp] theorem State.setJobs_cache (s : State) (q : List Job) : (s.setJobs q).cache = s.cache := rfl
@[simp] theorem State.setJobs_recent (s : State) (q : List Job) : (s.setJobs q).recent = s.recent := rfl
@[simp] theorem State.setJobs_lane (s : State) (q : List Job) : (s.setJobs q).lane = s.lane := rfl
@[simp] theorem State.setJobs_mgmt (s : State) (q : List Job) : (s.setJobs q).mgmt = s.mgmt := rfl
@[simp] theorem State.setJobs_events (s : State) (q : List Job) : (s.setJobs q).events = s.events := rfl
@[simp] theorem State.setJobs_randomDraws (s : State) (q : List Job) : (s.setJobs q).randomDraws = s.randomDraws := rfl
@[simp] theorem State.setJobs_pending (s : State) (q : List Job) : (s.setJobs q).pending = s.pending := rfl

/-! ### touchEngine -/

@[simp] theorem State.touchEngine_device (s : State) (e : EngineNo) : (s.touchEngine e).device = s.device := rfl
@[simp] theorem State.touchEngine_clock (s : State) (e : EngineNo) : (s.touchEngine e).clock = s.clock := rfl
@[simp] theorem State.touchEngine_lines (s : State) (e : EngineNo) : (s.touchEngine e).lines = s.lines := rfl
@[simp] theorem State.touchEngine_air (s : State) (e : EngineNo) : (s.touchEngine e).air = s.air := rfl
@[simp] theorem State.touchEngine_profile (s : State) (e : EngineNo) : (s.touchEngine e).profile = s.profile := rfl
@[simp] theorem State.touchEngine_passes (s : State) (e : EngineNo) : (s.touchEngine e).passes = s.passes := rfl
@[simp] theorem State.touchEngine_keys (s : State) (e : EngineNo) : (s.touchEngine e).keys = s.keys := rfl
@[simp] theorem State.touchEngine_cache (s : State) (e : EngineNo) : (s.touchEngine e).cache = s.cache := rfl
@[simp] theorem State.touchEngine_recent (s : State) (e : EngineNo) : (s.touchEngine e).recent = s.recent := rfl
@[simp] theorem State.touchEngine_lane (s : State) (e : EngineNo) : (s.touchEngine e).lane = s.lane := rfl
@[simp] theorem State.touchEngine_mgmt (s : State) (e : EngineNo) : (s.touchEngine e).mgmt = s.mgmt := rfl
@[simp] theorem State.touchEngine_events (s : State) (e : EngineNo) : (s.touchEngine e).events = s.events := rfl
@[simp] theorem State.touchEngine_randomDraws (s : State) (e : EngineNo) : (s.touchEngine e).randomDraws = s.randomDraws := rfl
@[simp] theorem State.touchEngine_pending (s : State) (e : EngineNo) : (s.touchEngine e).pending = s.pending := rfl

/-! ### tellEngines -/

@[simp] theorem State.tellEngines_device (s : State) (f : Engine → Engine) : (s.tellEngines f).device = s.device := rfl
@[simp] theorem State.tellEngines_clock (s : State) (f : Engine → Engine) : (s.tellEngines f).clock = s.clock := rfl
@[simp] theorem State.tellEngines_lines (s : State) (f : Engine → Engine) : (s.tellEngines f).lines = s.lines := rfl
@[simp] theorem State.tellEngines_air (s : State) (f : Engine → Engine) : (s.tellEngines f).air = s.air := rfl
@[simp] theorem State.tellEngines_profile (s : State) (f : Engine → Engine) : (s.tellEngines f).profile = s.profile := rfl
@[simp] theorem State.tellEngines_passes (s : State) (f : Engine → Engine) : (s.tellEngines f).passes = s.passes := rfl
@[simp] theorem State.tellEngines_keys (s : State) (f : Engine → Engine) : (s.tellEngines f).keys = s.keys := rfl
@[simp] theorem State.tellEngines_cache (s : State) (f : Engine → Engine) : (s.tellEngines f).cache = s.cache := rfl
@[simp] theorem State.tellEngines_recent (s : State) (f : Engine → Engine) : (s.tellEngines f).recent = s.recent := rfl
@[simp] theorem State.tellEngines_lane (s : State) (f : Engine → Engine) : (s.tellEngines f).lane = s.lane := rfl
@[simp] theorem State.tellEngines_mgmt (s : State) (f : Engine → Engine) : (s.tellEngines f).mgmt = s.mgmt := rfl
@[simp] theorem State.tellEngines_events (s : State) (f : Engine → Engine) : (s.tellEngines f).events = s.events := rfl
@[simp] theorem State.tellEngines_randomDraws (s : State) (f : Engine → Engine) : (s.tellEngines f).randomDraws = s.randomDraws := rfl
@[simp] theorem State.tellEngines_pending (s : State) (f : Engine → Engine) : (s.tellEngines f).pending = s.pending := rfl

/-! ### offerStep -/

@[simp] theorem State.offerStep_device (s : State) (c : ContextNo) (z : ZoneNo) (f : StepFrame) : (s.offerStep c z f).device = s.device := rfl
@[simp] theorem State.offerStep_clock (s : State) (c : ContextNo) (z : ZoneNo) (f : StepFrame) : (s.offerStep c z f).clock = s.clock := rfl
@[simp] theorem State.offerStep_lines (s : State) (c : ContextNo) (z : ZoneNo) (f : StepFrame) : (s.offerStep c z f).lines = s.lines := rfl
@[simp] theorem State.offerStep_profile (s : State) (c : ContextNo) (z : ZoneNo) (f : StepFrame) : (s.offerStep c z f).profile = s.profile := rfl
@[simp] theorem State.offerStep_passes (s : State) (c : ContextNo) (z : ZoneNo) (f : StepFrame) : (s.offerStep c z f).passes = s.passes := rfl
@[simp] theorem State.offerStep_keys (s : State) (c : ContextNo) (z : ZoneNo) (f : StepFrame) : (s.offerStep c z f).keys = s.keys := rfl
@[simp] theorem State.offerStep_cipher (s : State) (c : ContextNo) (z : ZoneNo) (f : StepFrame) : (s.offerStep c z f).cipher = s.cipher := rfl
@[simp] theorem State.offerStep_cache (s : State) (c : ContextNo) (z : ZoneNo) (f : StepFrame) : (s.offerStep c z f).cache = s.cache := rfl
@[simp] theorem State.offerStep_recent (s : State) (c : ContextNo) (z : ZoneNo) (f : StepFrame) : (s.offerStep c z f).recent = s.recent := rfl
@[simp] theorem State.offerStep_lane (s : State) (c : ContextNo) (z : ZoneNo) (f : StepFrame) : (s.offerStep c z f).lane = s.lane := rfl
@[simp] theorem State.offerStep_mgmt (s : State) (c : ContextNo) (z : ZoneNo) (f : StepFrame) : (s.offerStep c z f).mgmt = s.mgmt := rfl
@[simp] theorem State.offerStep_events (s : State) (c : ContextNo) (z : ZoneNo) (f : StepFrame) : (s.offerStep c z f).events = s.events := rfl
@[simp] theorem State.offerStep_randomDraws (s : State) (c : ContextNo) (z : ZoneNo) (f : StepFrame) : (s.offerStep c z f).randomDraws = s.randomDraws := rfl
@[simp] theorem State.offerStep_pending (s : State) (c : ContextNo) (z : ZoneNo) (f : StepFrame) : (s.offerStep c z f).pending = s.pending := rfl

/-! ### withdrawFrames -/

@[simp] theorem State.withdrawFrames_device (s : State) (c : ContextNo) : (s.withdrawFrames c).device = s.device := rfl
@[simp] theorem State.withdrawFrames_clock (s : State) (c : ContextNo) : (s.withdrawFrames c).clock = s.clock := rfl
@[simp] theorem State.withdrawFrames_lines (s : State) (c : ContextNo) : (s.withdrawFrames c).lines = s.lines := rfl
@[simp] theorem State.withdrawFrames_profile (s : State) (c : ContextNo) : (s.withdrawFrames c).profile = s.profile := rfl
@[simp] theorem State.withdrawFrames_passes (s : State) (c : ContextNo) : (s.withdrawFrames c).passes = s.passes := rfl
@[simp] theorem State.withdrawFrames_keys (s : State) (c : ContextNo) : (s.withdrawFrames c).keys = s.keys := rfl
@[simp] theorem State.withdrawFrames_cipher (s : State) (c : ContextNo) : (s.withdrawFrames c).cipher = s.cipher := rfl
@[simp] theorem State.withdrawFrames_cache (s : State) (c : ContextNo) : (s.withdrawFrames c).cache = s.cache := rfl
@[simp] theorem State.withdrawFrames_recent (s : State) (c : ContextNo) : (s.withdrawFrames c).recent = s.recent := rfl
@[simp] theorem State.withdrawFrames_lane (s : State) (c : ContextNo) : (s.withdrawFrames c).lane = s.lane := rfl
@[simp] theorem State.withdrawFrames_mgmt (s : State) (c : ContextNo) : (s.withdrawFrames c).mgmt = s.mgmt := rfl
@[simp] theorem State.withdrawFrames_events (s : State) (c : ContextNo) : (s.withdrawFrames c).events = s.events := rfl
@[simp] theorem State.withdrawFrames_randomDraws (s : State) (c : ContextNo) : (s.withdrawFrames c).randomDraws = s.randomDraws := rfl
@[simp] theorem State.withdrawFrames_pending (s : State) (c : ContextNo) : (s.withdrawFrames c).pending = s.pending := rfl

/-! ### removeConfirm -/

@[simp] theorem State.removeConfirm_device (s : State) (e : ConfirmEntry) : (s.removeConfirm e).device = s.device := rfl
@[simp] theorem State.removeConfirm_clock (s : State) (e : ConfirmEntry) : (s.removeConfirm e).clock = s.clock := rfl
@[simp] theorem State.removeConfirm_lines (s : State) (e : ConfirmEntry) : (s.removeConfirm e).lines = s.lines := rfl
@[simp] theorem State.removeConfirm_profile (s : State) (e : ConfirmEntry) : (s.removeConfirm e).profile = s.profile := rfl
@[simp] theorem State.removeConfirm_passes (s : State) (e : ConfirmEntry) : (s.removeConfirm e).passes = s.passes := rfl
@[simp] theorem State.removeConfirm_keys (s : State) (e : ConfirmEntry) : (s.removeConfirm e).keys = s.keys := rfl
@[simp] theorem State.removeConfirm_cipher (s : State) (e : ConfirmEntry) : (s.removeConfirm e).cipher = s.cipher := rfl
@[simp] theorem State.removeConfirm_cache (s : State) (e : ConfirmEntry) : (s.removeConfirm e).cache = s.cache := rfl
@[simp] theorem State.removeConfirm_recent (s : State) (e : ConfirmEntry) : (s.removeConfirm e).recent = s.recent := rfl
@[simp] theorem State.removeConfirm_lane (s : State) (e : ConfirmEntry) : (s.removeConfirm e).lane = s.lane := rfl
@[simp] theorem State.removeConfirm_mgmt (s : State) (e : ConfirmEntry) : (s.removeConfirm e).mgmt = s.mgmt := rfl
@[simp] theorem State.removeConfirm_events (s : State) (e : ConfirmEntry) : (s.removeConfirm e).events = s.events := rfl
@[simp] theorem State.removeConfirm_randomDraws (s : State) (e : ConfirmEntry) : (s.removeConfirm e).randomDraws = s.randomDraws := rfl
@[simp] theorem State.removeConfirm_pending (s : State) (e : ConfirmEntry) : (s.removeConfirm e).pending = s.pending := rfl

/-! ### popRequest -/

@[simp] theorem State.popRequest_device (s : State) : (s.popRequest).device = s.device := rfl
@[simp] theorem State.popRequest_clock (s : State) : (s.popRequest).clock = s.clock := rfl
@[simp] theorem State.popRequest_lines (s : State) : (s.popRequest).lines = s.lines := rfl
@[simp] theorem State.popRequest_air (s : State) : (s.popRequest).air = s.air := rfl
@[simp] theorem State.popRequest_profile (s : State) : (s.popRequest).profile = s.profile := rfl
@[simp] theorem State.popRequest_passes (s : State) : (s.popRequest).passes = s.passes := rfl
@[simp] theorem State.popRequest_keys (s : State) : (s.popRequest).keys = s.keys := rfl
@[simp] theorem State.popRequest_cipher (s : State) : (s.popRequest).cipher = s.cipher := rfl
@[simp] theorem State.popRequest_cache (s : State) : (s.popRequest).cache = s.cache := rfl
@[simp] theorem State.popRequest_recent (s : State) : (s.popRequest).recent = s.recent := rfl
@[simp] theorem State.popRequest_mgmt (s : State) : (s.popRequest).mgmt = s.mgmt := rfl
@[simp] theorem State.popRequest_events (s : State) : (s.popRequest).events = s.events := rfl
@[simp] theorem State.popRequest_randomDraws (s : State) : (s.popRequest).randomDraws = s.randomDraws := rfl
@[simp] theorem State.popRequest_pending (s : State) : (s.popRequest).pending = s.pending := rfl

/-! ### queueRequest -/

@[simp] theorem State.queueRequest_device (s : State) (p : List Byte) : (s.queueRequest p).device = s.device := rfl
@[simp] theorem State.queueRequest_clock (s : State) (p : List Byte) : (s.queueRequest p).clock = s.clock := rfl
@[simp] theorem State.queueRequest_lines (s : State) (p : List Byte) : (s.queueRequest p).lines = s.lines := rfl
@[simp] theorem State.queueRequest_air (s : State) (p : List Byte) : (s.queueRequest p).air = s.air := rfl
@[simp] theorem State.queueRequest_profile (s : State) (p : List Byte) : (s.queueRequest p).profile = s.profile := rfl
@[simp] theorem State.queueRequest_passes (s : State) (p : List Byte) : (s.queueRequest p).passes = s.passes := rfl
@[simp] theorem State.queueRequest_keys (s : State) (p : List Byte) : (s.queueRequest p).keys = s.keys := rfl
@[simp] theorem State.queueRequest_cipher (s : State) (p : List Byte) : (s.queueRequest p).cipher = s.cipher := rfl
@[simp] theorem State.queueRequest_cache (s : State) (p : List Byte) : (s.queueRequest p).cache = s.cache := rfl
@[simp] theorem State.queueRequest_recent (s : State) (p : List Byte) : (s.queueRequest p).recent = s.recent := rfl
@[simp] theorem State.queueRequest_mgmt (s : State) (p : List Byte) : (s.queueRequest p).mgmt = s.mgmt := rfl
@[simp] theorem State.queueRequest_events (s : State) (p : List Byte) : (s.queueRequest p).events = s.events := rfl
@[simp] theorem State.queueRequest_randomDraws (s : State) (p : List Byte) : (s.queueRequest p).randomDraws = s.randomDraws := rfl
@[simp] theorem State.queueRequest_pending (s : State) (p : List Byte) : (s.queueRequest p).pending = s.pending := rfl

/-! ### takeInHand -/

@[simp] theorem State.takeInHand_device (s : State) (q : Request) (w : HeldWork) : (s.takeInHand q w).device = s.device := rfl
@[simp] theorem State.takeInHand_clock (s : State) (q : Request) (w : HeldWork) : (s.takeInHand q w).clock = s.clock := rfl
@[simp] theorem State.takeInHand_lines (s : State) (q : Request) (w : HeldWork) : (s.takeInHand q w).lines = s.lines := rfl
@[simp] theorem State.takeInHand_air (s : State) (q : Request) (w : HeldWork) : (s.takeInHand q w).air = s.air := rfl
@[simp] theorem State.takeInHand_profile (s : State) (q : Request) (w : HeldWork) : (s.takeInHand q w).profile = s.profile := rfl
@[simp] theorem State.takeInHand_passes (s : State) (q : Request) (w : HeldWork) : (s.takeInHand q w).passes = s.passes := rfl
@[simp] theorem State.takeInHand_keys (s : State) (q : Request) (w : HeldWork) : (s.takeInHand q w).keys = s.keys := rfl
@[simp] theorem State.takeInHand_cipher (s : State) (q : Request) (w : HeldWork) : (s.takeInHand q w).cipher = s.cipher := rfl
@[simp] theorem State.takeInHand_cache (s : State) (q : Request) (w : HeldWork) : (s.takeInHand q w).cache = s.cache := rfl
@[simp] theorem State.takeInHand_recent (s : State) (q : Request) (w : HeldWork) : (s.takeInHand q w).recent = s.recent := rfl
@[simp] theorem State.takeInHand_lane (s : State) (q : Request) (w : HeldWork) : (s.takeInHand q w).lane = s.lane := rfl
@[simp] theorem State.takeInHand_events (s : State) (q : Request) (w : HeldWork) : (s.takeInHand q w).events = s.events := rfl
@[simp] theorem State.takeInHand_randomDraws (s : State) (q : Request) (w : HeldWork) : (s.takeInHand q w).randomDraws = s.randomDraws := rfl
@[simp] theorem State.takeInHand_pending (s : State) (q : Request) (w : HeldWork) : (s.takeInHand q w).pending = s.pending := rfl

/-! ### clearTwoPart -/

@[simp] theorem State.clearTwoPart_device (s : State) : (s.clearTwoPart).device = s.device := rfl
@[simp] theorem State.clearTwoPart_clock (s : State) : (s.clearTwoPart).clock = s.clock := rfl
@[simp] theorem State.clearTwoPart_lines (s : State) : (s.clearTwoPart).lines = s.lines := rfl
@[simp] theorem State.clearTwoPart_air (s : State) : (s.clearTwoPart).air = s.air := rfl
@[simp] theorem State.clearTwoPart_profile (s : State) : (s.clearTwoPart).profile = s.profile := rfl
@[simp] theorem State.clearTwoPart_passes (s : State) : (s.clearTwoPart).passes = s.passes := rfl
@[simp] theorem State.clearTwoPart_keys (s : State) : (s.clearTwoPart).keys = s.keys := rfl
@[simp] theorem State.clearTwoPart_cipher (s : State) : (s.clearTwoPart).cipher = s.cipher := rfl
@[simp] theorem State.clearTwoPart_cache (s : State) : (s.clearTwoPart).cache = s.cache := rfl
@[simp] theorem State.clearTwoPart_recent (s : State) : (s.clearTwoPart).recent = s.recent := rfl
@[simp] theorem State.clearTwoPart_lane (s : State) : (s.clearTwoPart).lane = s.lane := rfl
@[simp] theorem State.clearTwoPart_events (s : State) : (s.clearTwoPart).events = s.events := rfl
@[simp] theorem State.clearTwoPart_randomDraws (s : State) : (s.clearTwoPart).randomDraws = s.randomDraws := rfl
@[simp] theorem State.clearTwoPart_pending (s : State) : (s.clearTwoPart).pending = s.pending := rfl

/-! ### setLines -/

@[simp] theorem State.setLines_device (s : State) (f : Lines → Lines) : (s.setLines f).device = s.device := rfl
@[simp] theorem State.setLines_clock (s : State) (f : Lines → Lines) : (s.setLines f).clock = s.clock := rfl
@[simp] theorem State.setLines_air (s : State) (f : Lines → Lines) : (s.setLines f).air = s.air := rfl
@[simp] theorem State.setLines_profile (s : State) (f : Lines → Lines) : (s.setLines f).profile = s.profile := rfl
@[simp] theorem State.setLines_passes (s : State) (f : Lines → Lines) : (s.setLines f).passes = s.passes := rfl
@[simp] theorem State.setLines_keys (s : State) (f : Lines → Lines) : (s.setLines f).keys = s.keys := rfl
@[simp] theorem State.setLines_cipher (s : State) (f : Lines → Lines) : (s.setLines f).cipher = s.cipher := rfl
@[simp] theorem State.setLines_cache (s : State) (f : Lines → Lines) : (s.setLines f).cache = s.cache := rfl
@[simp] theorem State.setLines_recent (s : State) (f : Lines → Lines) : (s.setLines f).recent = s.recent := rfl
@[simp] theorem State.setLines_lane (s : State) (f : Lines → Lines) : (s.setLines f).lane = s.lane := rfl
@[simp] theorem State.setLines_mgmt (s : State) (f : Lines → Lines) : (s.setLines f).mgmt = s.mgmt := rfl
@[simp] theorem State.setLines_events (s : State) (f : Lines → Lines) : (s.setLines f).events = s.events := rfl
@[simp] theorem State.setLines_randomDraws (s : State) (f : Lines → Lines) : (s.setLines f).randomDraws = s.randomDraws := rfl
@[simp] theorem State.setLines_pending (s : State) (f : Lines → Lines) : (s.setLines f).pending = s.pending := rfl

/-! ### cacheHit -/

@[simp] theorem State.cacheHit_device (s : State) (x : CacheEntry) : (s.cacheHit x).device = s.device := rfl
@[simp] theorem State.cacheHit_clock (s : State) (x : CacheEntry) : (s.cacheHit x).clock = s.clock := rfl
@[simp] theorem State.cacheHit_lines (s : State) (x : CacheEntry) : (s.cacheHit x).lines = s.lines := rfl
@[simp] theorem State.cacheHit_air (s : State) (x : CacheEntry) : (s.cacheHit x).air = s.air := rfl
@[simp] theorem State.cacheHit_profile (s : State) (x : CacheEntry) : (s.cacheHit x).profile = s.profile := rfl
@[simp] theorem State.cacheHit_passes (s : State) (x : CacheEntry) : (s.cacheHit x).passes = s.passes := rfl
@[simp] theorem State.cacheHit_keys (s : State) (x : CacheEntry) : (s.cacheHit x).keys = s.keys := rfl
@[simp] theorem State.cacheHit_cipher (s : State) (x : CacheEntry) : (s.cacheHit x).cipher = s.cipher := rfl
@[simp] theorem State.cacheHit_recent (s : State) (x : CacheEntry) : (s.cacheHit x).recent = s.recent := rfl
@[simp] theorem State.cacheHit_lane (s : State) (x : CacheEntry) : (s.cacheHit x).lane = s.lane := rfl
@[simp] theorem State.cacheHit_mgmt (s : State) (x : CacheEntry) : (s.cacheHit x).mgmt = s.mgmt := rfl
@[simp] theorem State.cacheHit_events (s : State) (x : CacheEntry) : (s.cacheHit x).events = s.events := rfl
@[simp] theorem State.cacheHit_randomDraws (s : State) (x : CacheEntry) : (s.cacheHit x).randomDraws = s.randomDraws := rfl
@[simp] theorem State.cacheHit_pending (s : State) (x : CacheEntry) : (s.cacheHit x).pending = s.pending := rfl

/-! ### cacheFill -/

@[simp] theorem State.cacheFill_device (s : State) (x : CacheEntry) : (s.cacheFill x).device = s.device := rfl
@[simp] theorem State.cacheFill_clock (s : State) (x : CacheEntry) : (s.cacheFill x).clock = s.clock := rfl
@[simp] theorem State.cacheFill_lines (s : State) (x : CacheEntry) : (s.cacheFill x).lines = s.lines := rfl
@[simp] theorem State.cacheFill_air (s : State) (x : CacheEntry) : (s.cacheFill x).air = s.air := rfl
@[simp] theorem State.cacheFill_profile (s : State) (x : CacheEntry) : (s.cacheFill x).profile = s.profile := rfl
@[simp] theorem State.cacheFill_passes (s : State) (x : CacheEntry) : (s.cacheFill x).passes = s.passes := rfl
@[simp] theorem State.cacheFill_keys (s : State) (x : CacheEntry) : (s.cacheFill x).keys = s.keys := rfl
@[simp] theorem State.cacheFill_cipher (s : State) (x : CacheEntry) : (s.cacheFill x).cipher = s.cipher := rfl
@[simp] theorem State.cacheFill_recent (s : State) (x : CacheEntry) : (s.cacheFill x).recent = s.recent := rfl
@[simp] theorem State.cacheFill_lane (s : State) (x : CacheEntry) : (s.cacheFill x).lane = s.lane := rfl
@[simp] theorem State.cacheFill_mgmt (s : State) (x : CacheEntry) : (s.cacheFill x).mgmt = s.mgmt := rfl
@[simp] theorem State.cacheFill_events (s : State) (x : CacheEntry) : (s.cacheFill x).events = s.events := rfl
@[simp] theorem State.cacheFill_randomDraws (s : State) (x : CacheEntry) : (s.cacheFill x).randomDraws = s.randomDraws := rfl
@[simp] theorem State.cacheFill_pending (s : State) (x : CacheEntry) : (s.cacheFill x).pending = s.pending := rfl

/-! ### ageRecent -/

@[simp] theorem State.ageRecent_device (s : State) : (s.ageRecent).device = s.device := rfl
@[simp] theorem State.ageRecent_clock (s : State) : (s.ageRecent).clock = s.clock := rfl
@[simp] theorem State.ageRecent_lines (s : State) : (s.ageRecent).lines = s.lines := rfl
@[simp] theorem State.ageRecent_air (s : State) : (s.ageRecent).air = s.air := rfl
@[simp] theorem State.ageRecent_profile (s : State) : (s.ageRecent).profile = s.profile := rfl
@[simp] theorem State.ageRecent_passes (s : State) : (s.ageRecent).passes = s.passes := rfl
@[simp] theorem State.ageRecent_keys (s : State) : (s.ageRecent).keys = s.keys := rfl
@[simp] theorem State.ageRecent_cipher (s : State) : (s.ageRecent).cipher = s.cipher := rfl
@[simp] theorem State.ageRecent_cache (s : State) : (s.ageRecent).cache = s.cache := rfl
@[simp] theorem State.ageRecent_lane (s : State) : (s.ageRecent).lane = s.lane := rfl
@[simp] theorem State.ageRecent_mgmt (s : State) : (s.ageRecent).mgmt = s.mgmt := rfl
@[simp] theorem State.ageRecent_events (s : State) : (s.ageRecent).events = s.events := rfl
@[simp] theorem State.ageRecent_randomDraws (s : State) : (s.ageRecent).randomDraws = s.randomDraws := rfl
@[simp] theorem State.ageRecent_pending (s : State) : (s.ageRecent).pending = s.pending := rfl

/-! ### insertRecent -/

@[simp] theorem State.insertRecent_device (s : State) (x : RecentEntry) : (s.insertRecent x).device = s.device := rfl
@[simp] theorem State.insertRecent_clock (s : State) (x : RecentEntry) : (s.insertRecent x).clock = s.clock := rfl
@[simp] theorem State.insertRecent_lines (s : State) (x : RecentEntry) : (s.insertRecent x).lines = s.lines := rfl
@[simp] theorem State.insertRecent_air (s : State) (x : RecentEntry) : (s.insertRecent x).air = s.air := rfl
@[simp] theorem State.insertRecent_profile (s : State) (x : RecentEntry) : (s.insertRecent x).profile = s.profile := rfl
@[simp] theorem State.insertRecent_passes (s : State) (x : RecentEntry) : (s.insertRecent x).passes = s.passes := rfl
@[simp] theorem State.insertRecent_keys (s : State) (x : RecentEntry) : (s.insertRecent x).keys = s.keys := rfl
@[simp] theorem State.insertRecent_cipher (s : State) (x : RecentEntry) : (s.insertRecent x).cipher = s.cipher := rfl
@[simp] theorem State.insertRecent_cache (s : State) (x : RecentEntry) : (s.insertRecent x).cache = s.cache := rfl
@[simp] theorem State.insertRecent_lane (s : State) (x : RecentEntry) : (s.insertRecent x).lane = s.lane := rfl
@[simp] theorem State.insertRecent_mgmt (s : State) (x : RecentEntry) : (s.insertRecent x).mgmt = s.mgmt := rfl
@[simp] theorem State.insertRecent_events (s : State) (x : RecentEntry) : (s.insertRecent x).events = s.events := rfl
@[simp] theorem State.insertRecent_randomDraws (s : State) (x : RecentEntry) : (s.insertRecent x).randomDraws = s.randomDraws := rfl
@[simp] theorem State.insertRecent_pending (s : State) (x : RecentEntry) : (s.insertRecent x).pending = s.pending := rfl

/-! ### tick -/

@[simp] theorem State.tick_device (s : State) : (s.tick).device = s.device := rfl
@[simp] theorem State.tick_lines (s : State) : (s.tick).lines = s.lines := rfl
@[simp] theorem State.tick_air (s : State) : (s.tick).air = s.air := rfl
@[simp] theorem State.tick_profile (s : State) : (s.tick).profile = s.profile := rfl
@[simp] theorem State.tick_passes (s : State) : (s.tick).passes = s.passes := rfl
@[simp] theorem State.tick_keys (s : State) : (s.tick).keys = s.keys := rfl
@[simp] theorem State.tick_cipher (s : State) : (s.tick).cipher = s.cipher := rfl
@[simp] theorem State.tick_cache (s : State) : (s.tick).cache = s.cache := rfl
@[simp] theorem State.tick_recent (s : State) : (s.tick).recent = s.recent := rfl
@[simp] theorem State.tick_lane (s : State) : (s.tick).lane = s.lane := rfl
@[simp] theorem State.tick_mgmt (s : State) : (s.tick).mgmt = s.mgmt := rfl
@[simp] theorem State.tick_events (s : State) : (s.tick).events = s.events := rfl
@[simp] theorem State.tick_randomDraws (s : State) : (s.tick).randomDraws = s.randomDraws := rfl
@[simp] theorem State.tick_pending (s : State) : (s.tick).pending = s.pending := rfl

/-! ### emptySlot -/

@[simp] theorem State.emptySlot_device (s : State) (n : SlotNo) : (s.emptySlot n).device = s.device := rfl
@[simp] theorem State.emptySlot_clock (s : State) (n : SlotNo) : (s.emptySlot n).clock = s.clock := rfl
@[simp] theorem State.emptySlot_lines (s : State) (n : SlotNo) : (s.emptySlot n).lines = s.lines := rfl
@[simp] theorem State.emptySlot_air (s : State) (n : SlotNo) : (s.emptySlot n).air = s.air := rfl
@[simp] theorem State.emptySlot_profile (s : State) (n : SlotNo) : (s.emptySlot n).profile = s.profile := rfl
@[simp] theorem State.emptySlot_passes (s : State) (n : SlotNo) : (s.emptySlot n).passes = s.passes := rfl
@[simp] theorem State.emptySlot_cipher (s : State) (n : SlotNo) : (s.emptySlot n).cipher = s.cipher := rfl
@[simp] theorem State.emptySlot_cache (s : State) (n : SlotNo) : (s.emptySlot n).cache = s.cache := rfl
@[simp] theorem State.emptySlot_recent (s : State) (n : SlotNo) : (s.emptySlot n).recent = s.recent := rfl
@[simp] theorem State.emptySlot_lane (s : State) (n : SlotNo) : (s.emptySlot n).lane = s.lane := rfl
@[simp] theorem State.emptySlot_mgmt (s : State) (n : SlotNo) : (s.emptySlot n).mgmt = s.mgmt := rfl
@[simp] theorem State.emptySlot_events (s : State) (n : SlotNo) : (s.emptySlot n).events = s.events := rfl
@[simp] theorem State.emptySlot_randomDraws (s : State) (n : SlotNo) : (s.emptySlot n).randomDraws = s.randomDraws := rfl
@[simp] theorem State.emptySlot_pending (s : State) (n : SlotNo) : (s.emptySlot n).pending = s.pending := rfl

/-! ### removeJobs -/

@[simp] theorem State.removeJobs_device (s : State) (n : SlotNo) : (s.removeJobs n).device = s.device := rfl
@[simp] theorem State.removeJobs_clock (s : State) (n : SlotNo) : (s.removeJobs n).clock = s.clock := rfl
@[simp] theorem State.removeJobs_lines (s : State) (n : SlotNo) : (s.removeJobs n).lines = s.lines := rfl
@[simp] theorem State.removeJobs_air (s : State) (n : SlotNo) : (s.removeJobs n).air = s.air := rfl
@[simp] theorem State.removeJobs_profile (s : State) (n : SlotNo) : (s.removeJobs n).profile = s.profile := rfl
@[simp] theorem State.removeJobs_passes (s : State) (n : SlotNo) : (s.removeJobs n).passes = s.passes := rfl
@[simp] theorem State.removeJobs_keys (s : State) (n : SlotNo) : (s.removeJobs n).keys = s.keys := rfl
@[simp] theorem State.removeJobs_cache (s : State) (n : SlotNo) : (s.removeJobs n).cache = s.cache := rfl
@[simp] theorem State.removeJobs_recent (s : State) (n : SlotNo) : (s.removeJobs n).recent = s.recent := rfl
@[simp] theorem State.removeJobs_lane (s : State) (n : SlotNo) : (s.removeJobs n).lane = s.lane := rfl
@[simp] theorem State.removeJobs_mgmt (s : State) (n : SlotNo) : (s.removeJobs n).mgmt = s.mgmt := rfl
@[simp] theorem State.removeJobs_events (s : State) (n : SlotNo) : (s.removeJobs n).events = s.events := rfl
@[simp] theorem State.removeJobs_randomDraws (s : State) (n : SlotNo) : (s.removeJobs n).randomDraws = s.randomDraws := rfl
@[simp] theorem State.removeJobs_pending (s : State) (n : SlotNo) : (s.removeJobs n).pending = s.pending := rfl

/-! ### The fields of a block that an update of the block leaves -/

@[simp] theorem State.setSlot_keys_rootLock (s : State) (n : SlotNo) (x : Slot) : (s.setSlot n x).keys.rootLock = s.keys.rootLock := rfl
@[simp] theorem State.setSlot_keys_writeGen (s : State) (n : SlotNo) (x : Slot) : (s.setSlot n x).keys.writeGen = s.keys.writeGen := rfl
@[simp] theorem State.setSlot_keys_keyChange (s : State) (n : SlotNo) (x : Slot) : (s.setSlot n x).keys.keyChange = s.keys.keyChange := rfl
@[simp] theorem State.setSlot_keys_scrubPointer (s : State) (n : SlotNo) (x : Slot) : (s.setSlot n x).keys.scrubPointer = s.keys.scrubPointer := rfl
@[simp] theorem State.setSlot_keys_outstanding (s : State) (n : SlotNo) (x : Slot) : (s.setSlot n x).keys.outstanding = s.keys.outstanding := rfl
@[simp] theorem State.setSlot_keys_initCheck (s : State) (n : SlotNo) (x : Slot) : (s.setSlot n x).keys.initCheck = s.keys.initCheck := rfl
@[simp] theorem State.changeSlot_keys_rootLock (s : State) (n : SlotNo) (x : Slot) : (s.changeSlot n x).keys.rootLock = s.keys.rootLock := rfl
@[simp] theorem State.changeSlot_keys_writeGen (s : State) (n : SlotNo) (x : Slot) : (s.changeSlot n x).keys.writeGen = s.keys.writeGen := rfl
@[simp] theorem State.changeSlot_keys_scrubPointer (s : State) (n : SlotNo) (x : Slot) : (s.changeSlot n x).keys.scrubPointer = s.keys.scrubPointer := rfl
@[simp] theorem State.changeSlot_keys_outstanding (s : State) (n : SlotNo) (x : Slot) : (s.changeSlot n x).keys.outstanding = s.keys.outstanding := rfl
@[simp] theorem State.changeSlot_keys_initCheck (s : State) (n : SlotNo) (x : Slot) : (s.changeSlot n x).keys.initCheck = s.keys.initCheck := rfl
@[simp] theorem State.setOutstanding_keys_slots (s : State) (o : Option Scrub) : (s.setOutstanding o).keys.slots = s.keys.slots := rfl
@[simp] theorem State.setOutstanding_keys_rootLock (s : State) (o : Option Scrub) : (s.setOutstanding o).keys.rootLock = s.keys.rootLock := rfl
@[simp] theorem State.setOutstanding_keys_writeGen (s : State) (o : Option Scrub) : (s.setOutstanding o).keys.writeGen = s.keys.writeGen := rfl
@[simp] theorem State.setOutstanding_keys_keyChange (s : State) (o : Option Scrub) : (s.setOutstanding o).keys.keyChange = s.keys.keyChange := rfl
@[simp] theorem State.setOutstanding_keys_scrubPointer (s : State) (o : Option Scrub) : (s.setOutstanding o).keys.scrubPointer = s.keys.scrubPointer := rfl
@[simp] theorem State.setOutstanding_keys_initCheck (s : State) (o : Option Scrub) : (s.setOutstanding o).keys.initCheck = s.keys.initCheck := rfl
@[simp] theorem State.setContext_passes_openLists (s : State) (c : ContextNo) (x : Option Context) : (s.setContext c x).passes.openLists = s.passes.openLists := rfl
@[simp] theorem State.setContext_passes_stalled (s : State) (c : ContextNo) (x : Option Context) : (s.setContext c x).passes.stalled = s.passes.stalled := rfl
@[simp] theorem State.modContext_passes_openLists (s : State) (c : ContextNo) (f : Context → Context) : (s.modContext c f).passes.openLists = s.passes.openLists := rfl
@[simp] theorem State.modContext_passes_stalled (s : State) (c : ContextNo) (f : Context → Context) : (s.modContext c f).passes.stalled = s.passes.stalled := rfl
@[simp] theorem State.setOpenList_passes_contexts (s : State) (z : ZoneNo) (l : List ContextNo) : (s.setOpenList z l).passes.contexts = s.passes.contexts := rfl
@[simp] theorem State.setOpenList_passes_stalled (s : State) (z : ZoneNo) (l : List ContextNo) : (s.setOpenList z l).passes.stalled = s.passes.stalled := rfl
@[simp] theorem State.setEngine_cipher_lastUse (s : State) (e : EngineNo) (x : Engine) : (s.setEngine e x).cipher.lastUse = s.cipher.lastUse := rfl
@[simp] theorem State.setEngine_cipher_queue (s : State) (e : EngineNo) (x : Engine) : (s.setEngine e x).cipher.queue = s.cipher.queue := rfl
@[simp] theorem State.setJobs_cipher_engines (s : State) (q : List Job) : (s.setJobs q).cipher.engines = s.cipher.engines := rfl
@[simp] theorem State.setJobs_cipher_lastUse (s : State) (q : List Job) : (s.setJobs q).cipher.lastUse = s.cipher.lastUse := rfl
@[simp] theorem State.touchEngine_cipher_engines (s : State) (e : EngineNo) : (s.touchEngine e).cipher.engines = s.cipher.engines := rfl
@[simp] theorem State.touchEngine_cipher_queue (s : State) (e : EngineNo) : (s.touchEngine e).cipher.queue = s.cipher.queue := rfl
@[simp] theorem State.tellEngines_cipher_lastUse (s : State) (f : Engine → Engine) : (s.tellEngines f).cipher.lastUse = s.cipher.lastUse := rfl
@[simp] theorem State.tellEngines_cipher_queue (s : State) (f : Engine → Engine) : (s.tellEngines f).cipher.queue = s.cipher.queue := rfl
@[simp] theorem State.popRequest_lane_responses (s : State) : (s.popRequest).lane.responses = s.lane.responses := rfl
@[simp] theorem State.popRequest_lane_reports (s : State) : (s.popRequest).lane.reports = s.lane.reports := rfl
@[simp] theorem State.popRequest_lane_tx (s : State) : (s.popRequest).lane.tx = s.lane.tx := rfl
@[simp] theorem State.queueRequest_lane_responses (s : State) (p : List Byte) : (s.queueRequest p).lane.responses = s.lane.responses := rfl
@[simp] theorem State.queueRequest_lane_reports (s : State) (p : List Byte) : (s.queueRequest p).lane.reports = s.lane.reports := rfl
@[simp] theorem State.queueRequest_lane_tx (s : State) (p : List Byte) : (s.queueRequest p).lane.tx = s.lane.tx := rfl
@[simp] theorem State.takeInHand_mgmt_held (s : State) (q : Request) (w : HeldWork) : (s.takeInHand q w).mgmt.held = s.mgmt.held := rfl
@[simp] theorem State.takeInHand_mgmt_twoPart (s : State) (q : Request) (w : HeldWork) : (s.takeInHand q w).mgmt.twoPart = s.mgmt.twoPart := rfl
@[simp] theorem State.takeInHand_mgmt_candidate (s : State) (q : Request) (w : HeldWork) : (s.takeInHand q w).mgmt.candidate = s.mgmt.candidate := rfl
@[simp] theorem State.clearTwoPart_mgmt_inHand (s : State) : (s.clearTwoPart).mgmt.inHand = s.mgmt.inHand := rfl
@[simp] theorem State.clearTwoPart_mgmt_held (s : State) : (s.clearTwoPart).mgmt.held = s.mgmt.held := rfl

end Sys2Proof.Machine
end

