-- ==== Sys2Proof/Laws/Jobs.lean ====
section
/-! SUPPORT. What issuing, dispatching and arbitrating jobs can change: engines, queue, last-use order, the
current jobs of contexts, the outstanding scrub and the scrub pointer, and nothing else (chapter 7, R38, R97). -/

namespace Sys2Proof.Machine

/-- t is s after work on jobs alone. -/
structure JobsOnly (s t : State) : Prop where
  rest : t = { s with passes := t.passes, keys := t.keys, cipher := t.cipher }
  passes : t.passes = { s.passes with contexts := t.passes.contexts }
  contexts : ∀ c, (t.context c).map Context.apart = (s.context c).map Context.apart
  keys : t.keys = { s.keys with outstanding := t.keys.outstanding, scrubPointer := t.keys.scrubPointer }

namespace JobsOnly

theorem refl (s : State) : JobsOnly s s :=
  ⟨rfl, rfl, fun _ => rfl, rfl⟩

theorem trans {s t u : State} (h : JobsOnly s t) (k : JobsOnly t u) : JobsOnly s u where
  rest := by rw [k.rest, h.rest]
  passes := by rw [k.passes, h.passes]
  contexts c := (k.contexts c).trans (h.contexts c)
  keys := by rw [k.keys, h.keys]

theorem device {s t : State} (h : JobsOnly s t) : t.device = s.device := by rw [h.rest]
theorem clock {s t : State} (h : JobsOnly s t) : t.clock = s.clock := by rw [h.rest]
theorem lines {s t : State} (h : JobsOnly s t) : t.lines = s.lines := by rw [h.rest]
theorem air {s t : State} (h : JobsOnly s t) : t.air = s.air := by rw [h.rest]
theorem profile {s t : State} (h : JobsOnly s t) : t.profile = s.profile := by rw [h.rest]
theorem cache {s t : State} (h : JobsOnly s t) : t.cache = s.cache := by rw [h.rest]
theorem recent {s t : State} (h : JobsOnly s t) : t.recent = s.recent := by rw [h.rest]
theorem lane {s t : State} (h : JobsOnly s t) : t.lane = s.lane := by rw [h.rest]
theorem mgmt {s t : State} (h : JobsOnly s t) : t.mgmt = s.mgmt := by rw [h.rest]
theorem events {s t : State} (h : JobsOnly s t) : t.events = s.events := by rw [h.rest]
theorem randomDraws {s t : State} (h : JobsOnly s t) : t.randomDraws = s.randomDraws := by rw [h.rest]
theorem pending {s t : State} (h : JobsOnly s t) : t.pending = s.pending := by rw [h.rest]
theorem slots {s t : State} (h : JobsOnly s t) : t.keys.slots = s.keys.slots := by rw [h.keys]
theorem slot {s t : State} (h : JobsOnly s t) (n : SlotNo) : t.slot n = s.slot n := by
  unfold State.slot; rw [h.slots]
theorem openLists {s t : State} (h : JobsOnly s t) : t.passes.openLists = s.passes.openLists := by
  rw [h.passes]
theorem stalled {s t : State} (h : JobsOnly s t) : t.passes.stalled = s.passes.stalled := by rw [h.passes]

/-- A context in use stays in use, its record unchanged but for its current job. -/
theorem context_some {s t : State} (h : JobsOnly s t) {c : ContextNo} {x : Context}
    (hx : s.context c = some x) : ∃ j, t.context c = some { x with currentJob := j } := by
  have hc := h.contexts c
  rw [hx] at hc
  cases ht : t.context c with
  | none => simp [ht] at hc
  | some y =>
    refine ⟨y.currentJob, ?_⟩
    simp only [ht, Option.map_some, Option.some.injEq] at hc
    have : y = { y.apart with currentJob := y.currentJob } := rfl
    rw [this, hc]
    rfl

/-- A FREE context stays FREE. -/
theorem context_none {s t : State} (h : JobsOnly s t) {c : ContextNo} (hx : s.context c = none) :
    t.context c = none := by
  have hc := h.contexts c
  rw [hx] at hc
  cases ht : t.context c <;> simp_all

end JobsOnly

theorem State.setJobs_jobsOnly (s : State) (q : List Job) : JobsOnly s (s.setJobs q) :=
  ⟨rfl, rfl, fun _ => rfl, rfl⟩

theorem State.setEngine_jobsOnly (s : State) (e : EngineNo) (x : Engine) : JobsOnly s (s.setEngine e x) :=
  ⟨rfl, rfl, fun _ => rfl, rfl⟩

theorem State.touchEngine_jobsOnly (s : State) (e : EngineNo) : JobsOnly s (s.touchEngine e) :=
  ⟨rfl, rfl, fun _ => rfl, rfl⟩

theorem State.tellEngines_jobsOnly (s : State) (f : Engine → Engine) : JobsOnly s (s.tellEngines f) :=
  ⟨rfl, rfl, fun _ => rfl, rfl⟩

theorem State.setOutstanding_jobsOnly (s : State) (o : Option Scrub) : JobsOnly s (s.setOutstanding o) :=
  ⟨rfl, rfl, fun _ => rfl, rfl⟩

/-- A change of a context's current job alone. -/
theorem State.setCurrentJob_jobsOnly (s : State) (c : ContextNo) (j : CurrentJob) :
    JobsOnly s (s.modContext c fun x => { x with currentJob := j }) := by
  refine ⟨rfl, rfl, fun d => ?_, rfl⟩
  rw [State.context_modContext]
  split
  · subst_vars
    cases s.context d <;> rfl
  · rfl

theorem State.jobStarted_jobsOnly (s : State) (j : Job) : JobsOnly s (s.jobStarted j) := by
  unfold State.jobStarted
  split
  · exact s.setCurrentJob_jobsOnly _ _
  · exact s.setOutstanding_jobsOnly _
  · exact .refl s

theorem State.dispatch_jobsOnly (s : State) (e : EngineNo) (j : Job) : JobsOnly s (s.dispatch e j) :=
  (s.setEngine_jobsOnly _ _).trans (State.jobStarted_jobsOnly _ _)

theorem State.arrive_jobsOnly (s : State) (j : Job) : JobsOnly s (s.arrive j) := by
  unfold State.arrive
  split
  · exact s.dispatch_jobsOnly _ _
  · exact s.setJobs_jobsOnly _

theorem State.issueScrub_jobsOnly (s : State) (n : SlotNo) (forced : Bool) :
    JobsOnly s (s.issueScrub n forced) :=
  (s.setOutstanding_jobsOnly _).trans (State.arrive_jobsOnly _ _)

theorem State.scrubTest_jobsOnly (s : State) : JobsOnly s s.scrubTest := by
  unfold State.scrubTest
  split
  · split
    · exact s.issueScrub_jobsOnly _ _
    · split
      · exact .refl s
      · split
        · refine JobsOnly.trans ?_ (State.issueScrub_jobsOnly _ _ _)
          exact ⟨rfl, rfl, fun _ => rfl, rfl⟩
        · exact .refl s
  · exact .refl s

theorem State.forceScrub_jobsOnly (s : State) : JobsOnly s s.forceScrub := by
  unfold State.forceScrub
  split
  · split
    · exact .refl s
    · exact (s.setOutstanding_jobsOnly _).trans (State.setJobs_jobsOnly _ _)
  · exact .refl s

theorem State.noteOverdue_jobsOnly (s : State) : JobsOnly s s.noteOverdue := by
  unfold State.noteOverdue
  split
  · exact s.forceScrub_jobsOnly.trans (State.scrubTest_jobsOnly _)
  · exact .refl s

theorem State.afterLeaving_jobsOnly (s : State) (j : Job) : JobsOnly s (s.afterLeaving j) := by
  unfold State.afterLeaving
  split
  · exact s.scrubTest_jobsOnly
  · exact .refl s

/-- The arbiter's choice and dispatch change jobs alone (R134, R136). -/
theorem State.arbitrate_jobsOnly (s : State) (e : EngineNo) : JobsOnly s (s.arbitrate e) := by
  unfold State.arbitrate
  split
  · exact .refl s
  · split
    · exact .refl s
    · exact ((s.setJobs_jobsOnly _).trans (State.dispatch_jobsOnly _ _ _)).trans
        (State.afterLeaving_jobsOnly _ _)

theorem State.engineEnd_jobsOnly (s : State) (e : EngineNo) : JobsOnly s (s.engineEnd e) :=
  (s.setEngine_jobsOnly _ _).trans (State.touchEngine_jobsOnly _ _)

/-- The issue of a context's job changes jobs alone (R38, R127). -/
theorem State.issueFor_jobsOnly (s : State) (c : ContextNo) (kind : JobKind) (key : KeyId) (input : List Block) :
    JobsOnly s (s.issueFor c kind key input) := by
  refine (s.setCurrentJob_jobsOnly c (.queued kind)).trans ?_
  show JobsOnly _ (match State.idleEngineFor _ _ with | some e => _ | none => _)
  split
  · exact (State.dispatch_jobsOnly _ _ _).trans (State.scrubTest_jobsOnly _)
  · exact State.setJobs_jobsOnly _ _

theorem State.dropQueuedJob_jobsOnly (s : State) (c : ContextNo) : JobsOnly s (s.dropQueuedJob c) :=
  ((s.setJobs_jobsOnly _).trans (State.setCurrentJob_jobsOnly _ _ _)).trans (State.scrubTest_jobsOnly _)

/-! ### Jobs stay where they are until they end (R127, R130, R134, R135) -/

/-- A job of the part has a property: it stands in the queue or on an engine, other than engine `off` where one is
named. -/
def State.someJob (s : State) (off : Option EngineNo) (P : Job → Prop) : Prop :=
  ∃ j : Job, (j ∈ s.cipher.queue ∨ ∃ e : EngineNo, off ≠ some e ∧ (s.engine e).job? = some j) ∧ P j

theorem State.hasJob_iff (s : State) (kind : JobKind) (owner : JobOwner) (key : KeyId) (input extra : List Block) :
    s.hasJob kind owner key input extra ↔
      s.someJob none fun j => j.kind = kind ∧ j.owner = owner ∧ j.key = key ∧ j.input = input ∧ j.extra = extra := by
  simp [State.hasJob, State.jobStands, State.someJob]

theorem State.someJob.all {s : State} {off : Option EngineNo} {P : Job → Prop} (h : s.someJob off P) :
    s.someJob none P := by
  obtain ⟨j, hj, hp⟩ := h
  refine ⟨j, hj.imp_right ?_, hp⟩
  rintro ⟨e, -, he⟩
  exact ⟨e, by simp, he⟩

theorem Engine.job?_of_isIdle {x : Engine} (h : x.isIdle = true) : x.job? = none := by
  unfold Engine.isIdle at h
  unfold Engine.job?
  split at h <;> simp_all

/-- The cipher unit alone decides which jobs there are. -/
theorem State.someJob_of_cipher {s t : State} (h : t.cipher = s.cipher) {off : Option EngineNo} {P : Job → Prop} :
    t.someJob off P ↔ s.someJob off P := by
  unfold State.someJob State.engine
  rw [h]

theorem State.jobStarted_cipher (s : State) (j : Job) : (s.jobStarted j).cipher = s.cipher := by
  unfold State.jobStarted
  split <;> rfl

/-- All that a dispatch does to the cipher unit: the engine holds the job, and is not idle (R130). -/
theorem State.dispatch_cipher (s : State) (e : EngineNo) (j : Job) :
    ∃ x : Engine, x.job? = some j ∧ x.isIdle = false ∧ x.closeAtEnd = false ∧ x.loss = false ∧
      (s.dispatch e j).cipher = (s.setEngine e x).cipher := by
  unfold State.dispatch
  simp only [State.jobStarted_cipher]
  refine ⟨_, ?_, ?_, rfl, rfl, rfl⟩
  · cases (s.engine e).state with
    | openIdle k r => by_cases hk : k = j.key <;> simp only [hk, if_true, if_false, Engine.job?]
    | _ => rfl
  · cases (s.engine e).state with
    | openIdle k r => by_cases hk : k = j.key <;> simp only [hk, if_true, if_false, Engine.isIdle]
    | _ => rfl

/-- A dispatch leaves every other engine (R130). -/
theorem State.dispatch_engine_ne (s : State) {e d : EngineNo} (h : d ≠ e) (j : Job) :
    (s.dispatch e j).engine d = s.engine d := by
  obtain ⟨x, -, -, -, -, hx⟩ := s.dispatch_cipher e j
  unfold State.engine
  rw [hx]
  exact tableGet_tableSet_ne _ _ h

theorem State.dispatch_job (s : State) (e : EngineNo) (j : Job) : ((s.dispatch e j).engine e).job? = some j := by
  obtain ⟨x, hj, -, -, -, hx⟩ := s.dispatch_cipher e j
  unfold State.engine
  rw [hx]
  exact (congrArg Engine.job? (tableGet_tableSet_self _ _ _)).trans hj

theorem State.dispatch_queue (s : State) (e : EngineNo) (j : Job) : (s.dispatch e j).cipher.queue = s.cipher.queue := by
  obtain ⟨x, -, -, -, -, hx⟩ := s.dispatch_cipher e j
  rw [hx]
  rfl

/-- A dispatch to an idle engine loses no job and adds its own (R130). -/
theorem State.someJob_dispatch {s : State} {e : EngineNo} (hi : (s.engine e).isIdle = true) (j : Job)
    {off : Option EngineNo} {P : Job → Prop} (h : s.someJob off P ∨ (P j ∧ off ≠ some e)) :
    (s.dispatch e j).someJob off P := by
  rcases h with ⟨k, hk, hp⟩ | ⟨hp, ho⟩
  · refine ⟨k, ?_, hp⟩
    rcases hk with hk | ⟨d, hd, hk⟩
    · exact .inl (by rw [State.dispatch_queue]; exact hk)
    · refine .inr ⟨d, hd, ?_⟩
      rw [State.dispatch_engine_ne, hk]
      rintro rfl
      rw [Engine.job?_of_isIdle hi] at hk
      cases hk
  · exact ⟨j, .inr ⟨e, ho, s.dispatch_job e j⟩, hp⟩

/-- The engine an arriving job is given to is idle (R135). -/
theorem State.idleEngineFor_isIdle {s : State} {j : Job} {e : EngineNo} (h : s.idleEngineFor j = some e) :
    (s.engine e).isIdle = true := by
  unfold State.idleEngineFor at h
  cases h1 : allEngines.find? (fun e => (s.engine e).openIdleUnder j.key) with
  | some d =>
    have := List.find?_some h1
    simp [h1] at h
    subst h
    simp [Engine.openIdleUnder] at this
    exact this.1
  | none =>
    cases h2 : allEngines.find? (fun e => (s.engine e).isClosed) with
    | some d =>
      have := List.find?_some h2
      simp [h1, h2] at h
      subst h
      unfold Engine.isClosed at this
      unfold Engine.isIdle
      split at this <;> simp_all
    | none =>
      simp [h1, h2] at h
      exact List.find?_some (p := fun e => (s.engine e).isIdle) h

/-- An arriving job is held, and none is lost (R135). -/
theorem State.someJob_arrive {s : State} (j : Job) {off : Option EngineNo} {P : Job → Prop}
    (ho : ∀ e, off = some e → (s.engine e).isIdle = false) (h : s.someJob off P ∨ P j) :
    (s.arrive j).someJob off P := by
  unfold State.arrive
  split
  · rename_i e he
    have hi := State.idleEngineFor_isIdle he
    refine State.someJob_dispatch hi j (h.imp_right fun hp => ⟨hp, ?_⟩)
    intro hoff
    rw [ho e hoff] at hi
    cases hi
  · rcases h with ⟨k, hk, hp⟩ | hp
    · exact ⟨k, hk.imp_left fun hk => List.mem_append_left _ hk, hp⟩
    · exact ⟨j, .inl (List.mem_append_right _ (List.mem_singleton_self j)), hp⟩

/-- A scrub test loses no job (R99). -/
theorem State.someJob_scrubTest {s : State} {off : Option EngineNo} {P : Job → Prop}
    (ho : ∀ e, off = some e → (s.engine e).isIdle = false) (h : s.someJob off P) : s.scrubTest.someJob off P := by
  unfold State.scrubTest
  split
  · split
    · exact State.someJob_arrive _ (s := s.setOutstanding _) ho (.inl h)
    · split
      · exact h
      · split
        · exact State.someJob_arrive _ (s := State.setOutstanding _ _) ho (.inl h)
        · exact h
  · exact h

/-- A job of a context is held once issued, and no other is lost (R38, R127). -/
theorem State.someJob_issueFor {s : State} (c : ContextNo) (kind : JobKind) (key : KeyId) (input : List Block)
    {off : Option EngineNo} {P : Job → Prop} (ho : ∀ e, off = some e → (s.engine e).isIdle = false)
    (h : s.someJob off P ∨ P (freshJob kind (.context c) key input)) :
    (s.issueFor c kind key input).someJob off P := by
  show State.someJob (match State.idleEngineFor _ _ with | some e => _ | none => _) off P
  split
  · rename_i e he
    have hi := State.idleEngineFor_isIdle he
    have hoff : off ≠ some e := by
      intro hoff
      have := ho e hoff
      have h2 : (s.engine e).isIdle = true := hi
      rw [this] at h2
      cases h2
    refine State.someJob_scrubTest ?_ (State.someJob_dispatch hi _ (h.imp_right fun hp => ⟨hp, hoff⟩))
    intro d hd
    have hde : d ≠ e := fun he => hoff (he ▸ hd)
    rw [State.dispatch_engine_ne _ hde]
    exact ho d hd
  · rcases h with ⟨k, hk, hp⟩ | hp
    · exact ⟨k, hk.imp_left fun hk => List.mem_append_left _ hk, hp⟩
    · exact ⟨_, .inl (List.mem_append_right _ (List.mem_singleton_self _)), hp⟩

/-- The end of a job on an engine loses no other job, and leaves the engine idle (R132). -/
theorem State.someJob_engineEnd {s : State} (e : EngineNo) {P : Job → Prop} (h : s.someJob (some e) P) :
    (s.engineEnd e).someJob (some e) P := by
  obtain ⟨j, hj, hp⟩ := h
  refine ⟨j, hj.imp_right ?_, hp⟩
  rintro ⟨d, hd, hk⟩
  refine ⟨d, hd, ?_⟩
  have hde : d ≠ e := fun he => hd (he ▸ rfl)
  have : (s.engineEnd e).engine d = s.engine d := tableGet_tableSet_ne _ _ hde
  rw [this]
  exact hk

/-- The arbiter loses no job (R134, R136). -/
theorem State.someJob_arbitrate {s : State} (e : EngineNo) {P : Job → Prop}
    (hb : ∀ j n, P j → P { j with bypass := n }) (h : s.someJob (some e) P) :
    (s.arbitrate e).someJob none P := by
  unfold State.arbitrate
  split
  · exact h.all
  · split
    · exact h.all
    · rename_i i _ _ j hj
      have hd : (State.dispatch
          (s.setJobs ((s.cipher.queue.take i).map Job.passedOver ++ s.cipher.queue.drop (i + 1))) e j).someJob none P := by
        obtain ⟨k, hk, hp⟩ := h
        rcases hk with hk | ⟨d, hd, hk⟩
        · obtain ⟨m, hm, rfl⟩ := List.getElem_of_mem hk
          rcases Nat.lt_trichotomy m i with hlt | rfl | hgt
          · refine ⟨(s.cipher.queue[m]).passedOver, .inl ?_, hb _ _ hp⟩
            rw [State.dispatch_queue]
            refine List.mem_append_left _ (List.mem_map_of_mem ?_)
            exact List.mem_take_iff_getElem.mpr ⟨m, by omega, rfl⟩
          · rw [List.getElem?_eq_getElem hm, Option.some.injEq] at hj
            subst hj
            exact ⟨_, .inr ⟨e, by simp, State.dispatch_job _ _ _⟩, hp⟩
          · refine ⟨s.cipher.queue[m], .inl ?_, hp⟩
            rw [State.dispatch_queue]
            refine List.mem_append_right _ (List.mem_drop_iff_getElem.mpr ⟨m - (i + 1), by omega, ?_⟩)
            congr 1
            omega
        · refine ⟨k, .inr ⟨d, by simp, ?_⟩, hp⟩
          have hde : d ≠ e := fun he => hd (he ▸ rfl)
          rw [State.dispatch_engine_ne _ hde]
          exact hk
      unfold State.afterLeaving
      split
      · exact State.someJob_scrubTest (by simp) hd
      · exact hd

end Sys2Proof.Machine
end

