-- ==== Sys2Proof/Laws/Passes.lean ====
section
/-! SUPPORT. What the work of one pass can change, and that the end of a pass ends it: release, the end of a pass,
retries (R45, R53, R57, R58). -/

namespace Sys2Proof.Machine

/-! ### The frame of one pass -/

theorem State.passFrame_refl (s : State) (c : ContextNo) : s.passFrame s c :=
  ⟨rfl, fun _ _ h => h, fun _ _ _ h _ => by rw [h]; rfl⟩

theorem State.passFrame_trans {s t u : State} {c : ContextNo} (h : s.passFrame t c) (k : t.passFrame u c) :
    s.passFrame u c := by
  obtain ⟨h1, h2, h3⟩ := h
  obtain ⟨k1, k2, k3⟩ := k
  refine ⟨by rw [k1, h1], fun d hd hs => k2 d hd (h2 d hd hs), fun d y hd hs hy => ?_⟩
  have ht := h3 d y hd hs hy
  cases hx : t.context d with
  | none => rw [hx] at ht; cases ht
  | some x =>
    rw [hx, Option.map_some, Option.some.injEq] at ht
    have hst : x.state = y.state := by
      show x.apart.state = y.apart.state
      rw [ht]
    rw [k3 d x hd hx (by rw [hst]; exact hy), ht]

/-- Work on jobs alone is inside the frame of any pass. -/
theorem JobsOnly.passFrame {s t : State} (h : JobsOnly s t) (c : ContextNo) : s.passFrame t c := by
  refine ⟨?_, fun d _ hs => h.context_none hs, fun d y _ hs _ => ?_⟩
  · rw [h.rest]
    dsimp only
    rw [h.keys]
  · rw [h.contexts d, hs]
    rfl

/-- An update that leaves every other context, and writes only what the frame allows. -/
theorem State.passFrame_of {s t : State} {c : ContextNo}
    (h : t = { s with
        passes := t.passes, cipher := t.cipher, air := t.air, recent := t.recent, events := t.events
        lane := { s.lane with responses := t.lane.responses, reports := t.lane.reports } })
    (hc : ∀ d, d ≠ c → t.context d = s.context d) : s.passFrame t c := by
  have hk : t.keys = s.keys := by rw [h]
  refine ⟨?_, fun d hd hs => by rw [hc d hd, hs], fun d y hd hs _ => by rw [hc d hd, hs]; rfl⟩
  rw [hk]
  exact h

theorem State.raise_passFrame (s : State) (v : Event) (c : ContextNo) : s.passFrame (s.raise v) c :=
  State.passFrame_of (by rw [State.raise_eq]) fun d _ => by unfold State.context; rw [State.raise_passes]

theorem State.setContext_passFrame (s : State) (c : ContextNo) (x : Option Context) :
    s.passFrame (s.setContext c x) c :=
  State.passFrame_of rfl fun _ hd => by rw [State.context_setContext, if_neg hd]

theorem State.modContext_passFrame (s : State) (c : ContextNo) (f : Context → Context) :
    s.passFrame (s.modContext c f) c :=
  s.setContext_passFrame c _

theorem State.withdrawFrames_passFrame (s : State) (d c : ContextNo) : s.passFrame (s.withdrawFrames d) c :=
  State.passFrame_of rfl fun _ _ => rfl

theorem State.offerStep_passFrame (s : State) (d : ContextNo) (z : ZoneNo) (f : StepFrame) (c : ContextNo) :
    s.passFrame (s.offerStep d z f) c :=
  State.passFrame_of rfl fun _ _ => rfl

theorem State.offerClose_passFrame (s : State) (z : ZoneNo) (tag : TagNumber) (ok : Bool) (c : ContextNo) :
    s.passFrame (s.offerClose z tag ok) c := by
  unfold State.offerClose
  split
  · exact State.passFrame_of rfl fun _ _ => rfl
  · exact s.raise_passFrame _ _

theorem State.handRecent_passFrame (s : State) (x : Context) (r : PassResult) (c : ContextNo) :
    s.passFrame (s.handRecent x r) c := by
  unfold State.handRecent
  split
  · exact State.passFrame_of rfl fun _ _ => rfl
  · exact s.passFrame_refl c

/-- The release of the pass itself, or of one that has ended (R57). -/
theorem State.release_passFrame {s : State} {d : ContextNo} {x : Context} (hs : s.context d = some x)
    (hx : x.state = .done) (c : ContextNo) : s.passFrame (s.release d x) c := by
  refine ⟨rfl, fun e _ he => ?_, fun e y _ he hy => ?_⟩
  · show (State.setContext _ d none).context e = none
    rw [State.context_setContext]
    split
    · rfl
    · exact he
  · show ((State.setContext _ d none).context e).map _ = _
    rw [State.context_setContext, if_neg]
    · exact congrArg (Option.map Context.apart) he
    · rintro rfl
      rw [hs, Option.some.injEq] at he
      exact hy (he ▸ hx)

theorem State.stall_passFrame (s : State) (d c : ContextNo) : s.passFrame (s.stall d) c := by
  unfold State.stall
  split
  · exact s.passFrame_refl c
  · exact State.passFrame_trans (t := { s with passes := { s.passes with stalled := s.passes.stalled ++ [d] } })
      (State.passFrame_of rfl fun _ _ => rfl) (State.raise_passFrame _ _ _)

/-- Releases free contexts that have ended, and touch no other pass (R57, R58). -/
theorem State.releaseHeads_passFrame (k : Nat) (z : ZoneNo) (s : State) (c : ContextNo) :
    s.passFrame (s.releaseHeads k z) c := by
  induction k generalizing s with
  | zero => exact s.passFrame_refl c
  | succ k ih =>
    unfold State.releaseHeads
    split
    · exact s.passFrame_refl c
    · split
      · exact s.passFrame_refl c
      · split
        · rename_i x hs hd
          split
          · exact State.passFrame_trans (State.release_passFrame hs hd.1 c) (ih _)
          · exact s.stall_passFrame _ _
        · exact s.passFrame_refl c

theorem State.attemptRelease_passFrame (s : State) (z : ZoneNo) (c : ContextNo) :
    s.passFrame (s.attemptRelease z) c :=
  State.releaseHeads_passFrame _ _ _ _

/-- The end of a pass touches no other pass that goes on (R53). -/
theorem State.endPass_passFrame (s : State) (c : ContextNo) (r : PassResult) : s.passFrame (s.endPass c r) c := by
  unfold State.endPass
  split
  · exact s.passFrame_refl c
  · rename_i x _
    refine State.passFrame_trans ?_ (State.attemptRelease_passFrame _ _ _)
    refine State.passFrame_trans ?_ (State.modContext_passFrame _ _ _)
    refine State.passFrame_trans ?_ (State.handRecent_passFrame _ _ _ _)
    refine State.passFrame_trans ?_ (State.offerClose_passFrame _ _ _ _ _)
    have h : s.passFrame ((s.setContext c (some { x with
        result := some r, doneTick := some s.clock.laneTime, stepFrame := none,
        stepDeadline := none })).withdrawFrames c) c :=
      State.passFrame_trans (s.setContext_passFrame c _) (State.withdrawFrames_passFrame _ _ _)
    split
    · exact State.passFrame_trans h ((State.dropQueuedJob_jobsOnly _ _).passFrame c)
    · exact h

theorem State.queueStep_passFrame (s : State) (c : ContextNo) : s.passFrame (s.queueStep c) c := by
  unfold State.queueStep
  split
  · split
    · exact s.offerStep_passFrame _ _ _ _
    · exact s.passFrame_refl c
  · exact s.passFrame_refl c

theorem State.retryOrEnd_passFrame (s : State) (c : ContextNo) : s.passFrame (s.retryOrEnd c) c := by
  unfold State.retryOrEnd
  split
  · exact s.passFrame_refl c
  · split
    · exact State.passFrame_trans (s.setContext_passFrame c _) (State.queueStep_passFrame _ _)
    · exact s.endPass_passFrame _ _

theorem State.issueFor_passFrame (s : State) (c : ContextNo) (kind : JobKind) (key : KeyId) (input : List Block) :
    s.passFrame (s.issueFor c kind key input) c :=
  (s.issueFor_jobsOnly c kind key input).passFrame c

theorem State.endNoWrite_passFrame (s : State) (c : ContextNo) : s.passFrame (s.endNoWrite c) c :=
  State.passFrame_trans (s.modContext_passFrame c _) (State.endPass_passFrame _ _ _)

theorem State.compose_passFrame (s : State) (c : ContextNo) : s.passFrame (s.compose c) c := by
  unfold State.compose
  (repeat' split) <;> first
    | exact s.passFrame_refl c
    | exact s.endNoWrite_passFrame c
    | exact State.passFrame_trans (s.setContext_passFrame c _) (State.issueFor_passFrame _ _ _ _ _)

theorem State.afterCheck_passFrame (s : State) (c : ContextNo) : s.passFrame (s.afterCheck c) c := by
  unfold State.afterCheck
  (repeat' split) <;> first
    | exact s.passFrame_refl c
    | exact s.endPass_passFrame c _
    | exact s.compose_passFrame c

theorem State.settleCheck_passFrame (s : State) (c : ContextNo) (o : RecordCheck) :
    s.passFrame (s.settleCheck c o) c :=
  State.passFrame_trans (s.modContext_passFrame c _) (State.afterCheck_passFrame _ _)

theorem State.recordCheck_passFrame (s : State) (c : ContextNo) (x : Context) :
    s.passFrame (s.recordCheck c x) c := by
  unfold State.recordCheck
  (repeat' split) <;> first
    | exact s.settleCheck_passFrame c _
    | exact State.issueFor_passFrame _ _ _ _ _

theorem State.taVerified_passFrame (s : State) (c : ContextNo) (x : Context) :
    s.passFrame (s.taVerified c x) c := by
  unfold State.taVerified
  dsimp only
  split
  · exact State.passFrame_trans (s.setContext_passFrame c _) (State.recordCheck_passFrame _ _ _)
  · exact State.passFrame_trans (s.setContext_passFrame c _) (State.afterCheck_passFrame _ _)

/-! ### A pass that has ended stays ended (R53, R57) -/

theorem JobsOnly.ended {s t : State} (h : JobsOnly s t) {c : ContextNo} {x : Context} {r : PassResult} {tick : Tick}
    (he : s.ended c x r tick) : t.ended c x r tick := by
  rcases he with ⟨y, hy, h1, h2, h3, h4, h5⟩ | ⟨hn, hp⟩
  · obtain ⟨j, hj⟩ := h.context_some hy
    exact .inl ⟨_, hj, h1, h2, h3, h4, h5⟩
  · exact .inr ⟨h.context_none hn, by rw [h.lane]; exact hp⟩

/-- Releases keep a pass ended: its report stands once its context is FREE (R57). -/
theorem State.ended_releaseHeads (k : Nat) (z : ZoneNo) {s : State} {c : ContextNo} {x : Context} {r : PassResult}
    {tick : Tick} (he : s.ended c x r tick) : (s.releaseHeads k z).ended c x r tick := by
  induction k generalizing s with
  | zero => exact he
  | succ k ih =>
    unfold State.releaseHeads
    split
    · exact he
    · rename_i d l _
      split
      · exact he
      · rename_i y hy
        split
        · split
          · refine ih ?_
            by_cases hd : d = c
            · subst hd
              rcases he with ⟨w, hw, -, h2, h3, h4, h5⟩ | ⟨hn, -⟩
              · rw [hy, Option.some.injEq] at hw
                subst hw
                refine .inr ⟨State.context_setContext_self _ _ _, y.report (y.result.getD .abandoned),
                  List.mem_append_right _ (List.mem_singleton_self _), ?_, ?_, h4, h5⟩
                · show y.result.getD .abandoned = r
                  rw [h2]; rfl
                · show y.doneTick.getD 0 = tick
                  rw [h3]; rfl
              · rw [hy] at hn; cases hn
            · have hc : (s.release d y).context c = s.context c := by
                show (State.setContext _ d none).context c = _
                rw [State.context_setContext, if_neg (fun h => hd h.symm)]
                rfl
              rcases he with ⟨w, hw, h1⟩ | ⟨hn, p, hp, h1⟩
              · exact .inl ⟨w, by rw [hc, hw], h1⟩
              · exact .inr ⟨by rw [hc, hn], p, List.mem_append_left _ hp, h1⟩
          · have hc : (s.stall d).context c = s.context c := by
              unfold State.stall State.context
              split
              · rfl
              · rw [State.raise_passes]
            have hr : (s.stall d).lane.reports = s.lane.reports := by
              unfold State.stall
              split
              · rfl
              · rw [State.raise_reports]
            rcases he with ⟨w, hw, h1⟩ | ⟨hn, p, hp, h1⟩
            · exact .inl ⟨w, by rw [hc, hw], h1⟩
            · exact .inr ⟨by rw [hc, hn], p, by rw [hr]; exact hp, h1⟩
        · exact he

theorem State.offerClose_context (s : State) (z : ZoneNo) (tag : TagNumber) (ok : Bool) (c : ContextNo) :
    (s.offerClose z tag ok).context c = s.context c := by
  unfold State.offerClose State.context
  split
  · rfl
  · rw [State.raise_passes]

theorem State.handRecent_context (s : State) (x : Context) (r : PassResult) (c : ContextNo) :
    (s.handRecent x r).context c = s.context c := by
  unfold State.handRecent
  split <;> rfl

/-- The end of a pass ends it (R53). -/
theorem State.endPass_ended {s : State} {c : ContextNo} {x : Context} (hs : s.context c = some x) (r : PassResult) :
    (s.endPass c r).ended c x r s.clock.laneTime := by
  unfold State.endPass
  rw [hs]
  refine State.ended_releaseHeads _ _ (.inl ?_)
  have key : ∃ j, (if x.jobQueued then
      ((s.setContext c (some { x with
        result := some r, doneTick := some s.clock.laneTime, stepFrame := none,
        stepDeadline := none })).withdrawFrames c).dropQueuedJob c
      else (s.setContext c (some { x with
        result := some r, doneTick := some s.clock.laneTime, stepFrame := none,
        stepDeadline := none })).withdrawFrames c).context c = some { x with
          result := some r, doneTick := some s.clock.laneTime, stepFrame := none, stepDeadline := none,
          currentJob := j } := by
    have hc : ((s.setContext c (some { x with
        result := some r, doneTick := some s.clock.laneTime, stepFrame := none,
        stepDeadline := none })).withdrawFrames c).context c = _ := State.context_setContext_self _ _ _
    split
    · exact (State.dropQueuedJob_jobsOnly _ _).context_some hc
    · exact ⟨x.currentJob, hc⟩
  obtain ⟨j, hj⟩ := key
  refine ⟨{ x with
    result := some r, doneTick := some s.clock.laneTime, stepFrame := none, stepDeadline := none, currentJob := j,
    state := .done }, ?_, rfl, rfl, rfl, rfl, rfl⟩
  rw [State.context_modContext, if_pos rfl, State.handRecent_context, State.offerClose_context, hj]
  rfl

/-! ### What the end of a pass hands on (R15, R53) -/

theorem State.release_air (s : State) (d : ContextNo) (x : Context) : (s.release d x).air = s.air.withdraw d := rfl

/-- Releases touch no table (R57). -/
theorem State.releaseHeads_recent (k : Nat) (z : ZoneNo) (s : State) : (s.releaseHeads k z).recent = s.recent := by
  induction k generalizing s with
  | zero => rfl
  | succ k ih =>
    unfold State.releaseHeads
    split
    · rfl
    · split
      · rfl
      · split
        · split
          · exact (ih _).trans rfl
          · unfold State.stall
            split
            · rfl
            · rw [State.raise_recent]
        · rfl

/-- The recent-pass entry of a result, and no other change to the table, at the end of a pass (R53). -/
theorem State.endPass_recent {s : State} {c : ContextNo} {x : Context} (hs : s.context c = some x) (r : PassResult) :
    (s.endPass c r).recent = (s.handRecent x r).recent := by
  unfold State.endPass
  rw [hs]
  dsimp only
  unfold State.attemptRelease
  rw [State.releaseHeads_recent]
  show (State.handRecent _ x r).recent = _
  have key : ∀ t : State, t.recent = s.recent → t.clock = s.clock → t.profile = s.profile →
      (t.handRecent x r).recent = (s.handRecent x r).recent := by
    intro t h1 h2 h3
    unfold State.handRecent
    rw [h2]
    split
    · have ha : t.agedEntry = s.agedEntry := by
        funext y
        unfold State.agedEntry
        rw [h2, h3]
      unfold State.insertRecent State.ageRecent
      simp only [h1, ha]
    · exact h1
  have ho : ∀ t : State, ((t.offerClose x.servingZone x.tagNumber r.closesOk).recent = t.recent ∧
      (t.offerClose x.servingZone x.tagNumber r.closesOk).clock = t.clock) ∧
      (t.offerClose x.servingZone x.tagNumber r.closesOk).profile = t.profile := by
    intro t
    unfold State.offerClose
    split
    · exact ⟨⟨rfl, rfl⟩, rfl⟩
    · simp
  split
  · have hj := State.dropQueuedJob_jobsOnly ((s.setContext c (some { x with
        result := some r, doneTick := some s.clock.laneTime, stepFrame := none,
        stepDeadline := none })).withdrawFrames c) c
    exact key _ ((ho _).1.1.trans hj.recent) ((ho _).1.2.trans hj.clock) ((ho _).2.trans hj.profile)
  · exact key _ (ho _).1.1 (ho _).1.2 (ho _).2

/-- No frame has the context as owner (R15). -/
def AirPort.disowned (a : AirPort) (c : ContextNo) : Prop :=
  (∀ e ∈ a.queue, e.owner ≠ some c) ∧ (∀ t, a.tx = some t → t.entry.owner ≠ some c) ∧
    ∀ e ∈ a.confirm, e.owner ≠ some c

/-- A withdrawal leaves no frame of the context, and keeps every other frame in its place (R15). -/
theorem AirPort.withdraw_disowned (a : AirPort) (c : ContextNo) : (a.withdraw c).disowned c := by
  refine ⟨fun e he => ?_, fun t ht => ?_, fun e he => ?_⟩
  · simp [AirPort.withdraw, ownedBy] at he
    exact he.2
  · simp only [AirPort.withdraw, Option.map_eq_some_iff] at ht
    obtain ⟨u, -, hu⟩ := ht
    split at hu <;> subst hu <;> simp_all [ownedBy]
  · simp only [AirPort.withdraw, List.mem_map] at he
    obtain ⟨u, -, hu⟩ := he
    split at hu <;> subst hu <;> simp_all [ownedBy]

/-- A withdrawal of another context's frames gives this one none (R15). -/
theorem AirPort.disowned_withdraw {a : AirPort} {c : ContextNo} (h : a.disowned c) (d : ContextNo) :
    (a.withdraw d).disowned c := by
  obtain ⟨h1, h2, h3⟩ := h
  refine ⟨fun e he => h1 e (List.mem_of_mem_filter he), fun t ht => ?_, fun e he => ?_⟩
  · simp only [AirPort.withdraw, Option.map_eq_some_iff] at ht
    obtain ⟨u, hu, ht⟩ := ht
    have := h2 u hu
    split at ht <;> subst ht <;> simp_all
  · simp only [AirPort.withdraw, List.mem_map] at he
    obtain ⟨u, hu, he⟩ := he
    have := h3 u hu
    split at he <;> subst he <;> simp_all

theorem State.releaseHeads_disowned (k : Nat) (z : ZoneNo) {s : State} {c : ContextNo} (h : s.air.disowned c) :
    (s.releaseHeads k z).air.disowned c := by
  induction k generalizing s with
  | zero => exact h
  | succ k ih =>
    unfold State.releaseHeads
    split
    · exact h
    · split
      · exact h
      · split
        · split
          · exact ih (AirPort.disowned_withdraw h _)
          · unfold State.stall
            split
            · exact h
            · rw [State.raise_air]; exact h
        · exact h

/-- After the end of its pass no frame has the context as owner (R15, R53). -/
theorem State.endPass_disowned {s : State} {c : ContextNo} {x : Context} (hs : s.context c = some x)
    (r : PassResult) : (s.endPass c r).air.disowned c := by
  unfold State.endPass
  rw [hs]
  refine State.releaseHeads_disowned _ _ ?_
  show (State.handRecent _ x r).air.disowned c
  have hh : ∀ t : State, (t.handRecent x r).air = t.air := by
    intro t; unfold State.handRecent; split <;> rfl
  rw [hh]
  have ho : ∀ t : State, t.air.disowned c →
      (t.offerClose x.servingZone x.tagNumber r.closesOk).air.disowned c := by
    intro t ht
    unfold State.offerClose
    split
    · obtain ⟨h1, h2, h3⟩ := ht
      refine ⟨fun e he => ?_, h2, h3⟩
      rcases List.mem_append.mp he with he | he
      · exact h1 e he
      · rw [List.mem_singleton.mp he]; simp
    · rw [State.raise_air]; exact ht
  refine ho _ ?_
  split
  · rw [(State.dropQueuedJob_jobsOnly _ _).air]
    exact AirPort.withdraw_disowned _ _
  · exact AirPort.withdraw_disowned _ _

end Sys2Proof.Machine
end

