-- ==== Sys2Proof/Laws/JobEnds.lean ====
section
/-! SUPPORT. The end of a job of a context: what its owner is told, and what the engine and the arbiter then leave
(R38, R132, R133). -/

namespace Sys2Proof.Machine

/-- After its owner has acted, the engine goes idle and the arbiter may dispatch: jobs alone change (R132). -/
theorem State.afterEnd_jobsOnly (s : State) (e : EngineNo) : JobsOnly s ((s.engineEnd e).arbitrate e) :=
  (s.engineEnd_jobsOnly e).trans (State.arbitrate_jobsOnly _ _)

/-- The job a context issued while its former job was ending on engine e is held after the end (R38, R132). -/
theorem State.hasJob_afterEnd {s : State} (e : EngineNo) {kind : JobKind} {owner : JobOwner} {key : KeyId}
    {input extra : List Block}
    (h : s.someJob (some e) fun j =>
      j.kind = kind ∧ j.owner = owner ∧ j.key = key ∧ j.input = input ∧ j.extra = extra) :
    ((s.engineEnd e).arbitrate e).hasJob kind owner key input extra :=
  (State.hasJob_iff _ _ _ _ _ _).mpr
    (State.someJob_arbitrate e (fun _ _ hj => hj) (State.someJob_engineEnd e h))

/-- The job of a context completes in the state that issued it, its result not discarded: the context acts on the
result with its current job none, then the engine and the arbiter go on (R38, R132, R133). -/
theorem State.completeJob_result {s : State} {e : EngineNo} {k : Key} {j : Job} {c : ContextNo} {x : Context}
    (hr : s.runs e k j) (ho : j.owner = .context c) (hs : s.context c = some x) {stage : PassState}
    (hx : x.state = stage) (hd : stage ≠ .done) (hu : j.kind ≠ .unwrap)
    (onResult : ContextNo → Context → Block → State → State) (onLost : ContextNo → State → State) :
    s.completeJob e j.kind (fun j out s => s.contextJobEnd j stage out onResult onLost) =
      ((onResult c { x with currentJob := .idle } (chain k j.input)
        (s.setContext c (some { x with currentJob := .idle }))).engineEnd e).arbitrate e := by
  have hout : j.output (some k) = some (chain k j.input) := by
    unfold Job.output
    rw [Option.map_some]
    split
    · exact absurd ‹_› hu
    all_goals rfl
  have hnd : ¬x.state = .done := by rw [hx]; exact hd
  simp [State.completeJob, hr.1, hr.2, hout, State.contextJobEnd, ho, hs, hx, hd]

/-- The same with the result discarded (R132 step 1, R33). -/
theorem State.completeJob_lost {s : State} {e : EngineNo} {r : Option Key} {j : Job} {c : ContextNo} {x : Context}
    (hr : (s.engine e).state = .busy r j) (hj : j.discard = true) (ho : j.owner = .context c)
    (hs : s.context c = some x) {stage : PassState} (hx : x.state = stage) (hd : stage ≠ .done)
    (onResult : ContextNo → Context → Block → State → State) (onLost : ContextNo → State → State) :
    s.completeJob e j.kind (fun j out s => s.contextJobEnd j stage out onResult onLost) =
      ((onLost c (s.setContext c (some { x with currentJob := .idle }))).engineEnd e).arbitrate e := by
  simp [State.completeJob, hr, hj, State.contextJobEnd, ho, hs, hx, hd]

/-- An engine that runs a job is not idle (R129). -/
theorem State.not_idle_of_busy {s : State} {e : EngineNo} {r : Option Key} {j : Job}
    (h : (s.engine e).state = .busy r j) : ∀ d, some e = some d → (s.engine d).isIdle = false := by
  intro d hd
  cases hd
  unfold Engine.isIdle
  rw [h]

/-! ### The frames of the claims -/

/-- Work on jobs alone, in the words of the claims. -/
theorem JobsOnly.jobsApart {s t : State} (h : JobsOnly s t) (own : Option ContextNo) : s.jobsApart t own := by
  refine ⟨?_, fun d _ => h.contexts d⟩
  rw [h.rest]
  dsimp only
  rw [h.keys, h.passes]

/-- A change of one context, then work on jobs alone. -/
theorem JobsOnly.jobsApart_after {s u t : State} {c : ContextNo} (h : JobsOnly u t)
    (hu : u = { s with passes := { s.passes with contexts := u.passes.contexts } })
    (hc : ∀ d, d ≠ c → u.context d = s.context d) : s.jobsApart t (some c) := by
  refine ⟨?_, fun d hd => ?_⟩
  · rw [h.rest]
    dsimp only
    rw [h.keys, h.passes, hu]
  · rw [h.contexts d, hc d fun e => hd (by rw [e])]

end Sys2Proof.Machine
end

