-- ==== Sys2Proof/Laws/Keys.lean ====
section
/-! SUPPORT. The key store's own work: a scrub test that finds nothing, the wipe, the calendar walk (R84 to R86,
R99, R123). -/

namespace Sys2Proof.Machine

/-! ### Scrubs and wipes (R99, R123) -/

/-- With no slot holding material a scrub test changes nothing (R99). -/
theorem State.scrubTest_of_no_material {s : State} (h : ∀ n, (s.slot n).holdsMaterial = false) :
    s.scrubTest = s := by
  have h1 : s.mostOverdue = none := by
    have hf : allSlots.filter s.overdue = [] := by
      rw [List.filter_eq_nil_iff]
      intro n _
      simp [State.overdue, h n]
    rw [State.mostOverdue, hf]
    rfl
  have h2 : s.nextScrubSlot = none := by
    rw [State.nextScrubSlot, List.find?_eq_none]
    intro n _
    simp [h n]
  unfold State.scrubTest
  rw [h1, h2]
  split
  · dsimp only
    split <;> rfl
  · rfl

/-- All that a wipe does: every block cleared, MAINTENANCE outside HOLD, ZEROISED raised (R123, R124). -/
theorem State.wipe_eq (s : State) :
    s.wipe = { s.wipeBlocks with
      device := if s.device = DeviceState.hold then DeviceState.hold else DeviceState.maintenance }.raise .zeroised := by
  have hd : s.wipeBlocks.device = s.device := rfl
  unfold State.wipe
  dsimp only
  rw [hd]
  split
  · congr 1
    rename_i h
    unfold State.wipeBlocks
    simp [h]
  · unfold State.enterMaintenance
    rw [State.scrubTest_of_no_material]
    intro n
    show (tableGet (Vector.replicate 128 Slot.empty) n).holdsMaterial = false
    rw [tableGet_replicate]
    rfl

/-- After a wipe every slot is EMPTY (R123). -/
theorem State.wipe_slot (s : State) (n : SlotNo) : s.wipe.slot n = Slot.empty := by
  rw [State.wipe_eq]
  unfold State.slot
  rw [State.raise_keys]
  exact tableGet_replicate _ _

/-- After a wipe every context is FREE (R123). -/
theorem State.wipe_context (s : State) (c : ContextNo) : s.wipe.context c = none := by
  rw [State.wipe_eq]
  unfold State.context
  rw [State.raise_passes]
  exact tableGet_replicate _ _

/-! ### The calendar walk (R84 to R86) -/

/-- What the walk at one slot writes (R84, R85). -/
theorem Slot.walked_eq (m : Minute) (x : Slot) :
    x.walked m = if x.expiresAt m then { x with state := .expired }
      else if x.activatesAt m then { x with state := .active } else x := by
  unfold Slot.walked Slot.expiresAt Slot.activatesAt Slot.insideWindow Slot.reachedUntil
  by_cases h1 : x.state = .staged <;> by_cases h2 : x.state = .active <;> by_cases h3 : x.state = .retiring <;>
    by_cases h4 : x.erasePending = true <;> by_cases h5 : x.validUntil = 0xFFFFFFFF#32 <;>
    by_cases h6 : x.validUntil ≤ m <;> by_cases h7 : x.validFrom ≤ m <;> by_cases h8 : x.autoActivate = true <;>
    simp_all

/-- The calendar's frame: t is s but for the key store, the engines, the cache, the events and the responses. -/
structure CalendarOnly (s t : State) : Prop where
  rest : t = { s with
    keys := t.keys, cipher := t.cipher, cache := t.cache, events := t.events
    lane := { s.lane with responses := t.lane.responses } }
  rootLock : t.keys.rootLock = s.keys.rootLock

theorem CalendarOnly.refl (s : State) : CalendarOnly s s := ⟨rfl, rfl⟩

theorem CalendarOnly.trans {s t u : State} (h : CalendarOnly s t) (k : CalendarOnly t u) : CalendarOnly s u :=
  ⟨by rw [k.rest, h.rest], k.rootLock.trans h.rootLock⟩

theorem State.raise_calendarOnly (s : State) (v : Event) : CalendarOnly s (s.raise v) :=
  ⟨by rw [State.raise_eq], by rw [State.raise_keys]⟩

theorem State.withdrawExpiry_calendarOnly (s : State) (n : SlotNo) (x : Slot) :
    CalendarOnly s (s.withdrawExpiry n x) := by
  refine CalendarOnly.trans (t := (s.clearWriteGenOf x).dropCacheOf x) ?_ ⟨rfl, rfl⟩
  refine CalendarOnly.trans (t := s.clearWriteGenOf x) ?_ ?_
  · unfold State.clearWriteGenOf State.setWriteGen
    (repeat' split) <;> exact ⟨rfl, rfl⟩
  · unfold State.dropCacheOf
    split <;> exact ⟨rfl, rfl⟩

theorem State.withdrawExpiry_slot (s : State) (n m : SlotNo) (x : Slot) :
    (s.withdrawExpiry n x).slot m = s.slot m := by
  show ((s.clearWriteGenOf x).dropCacheOf x).slot m = _
  unfold State.dropCacheOf State.clearWriteGenOf State.setWriteGen
  (repeat' split) <;> rfl

theorem State.walkSlot_calendarOnly (m : Minute) (s : State) (n : SlotNo) : CalendarOnly s (s.walkSlot m n) := by
  unfold State.walkSlot
  dsimp only
  split
  · unfold State.expireSlot
    dsimp only
    refine CalendarOnly.trans ?_ (State.raise_calendarOnly _ _)
    split
    · exact ⟨rfl, rfl⟩
    · exact CalendarOnly.trans (t := s.changeSlot n _) ⟨rfl, rfl⟩ (State.withdrawExpiry_calendarOnly _ _ _)
  · split
    · exact ⟨rfl, rfl⟩
    · exact .refl s

/-- The walk at slot n rewrites that slot alone (R84, R85). -/
theorem State.walkSlot_slot (m : Minute) (s : State) (n k : SlotNo) :
    (s.walkSlot m n).slot k = if k = n then (s.slot n).walked m else s.slot k := by
  rw [Slot.walked_eq]
  unfold State.walkSlot
  dsimp only
  split
  · unfold State.expireSlot
    dsimp only
    have hr : ∀ (t : State) (v : Event), (t.raise v).slot k = t.slot k := by
      intro t v
      unfold State.slot
      rw [State.raise_keys]
    rw [hr]
    split
    · rw [State.slot_changeSlot]
    · rw [State.withdrawExpiry_slot, State.slot_changeSlot]
  · split
    · rw [State.slot_changeSlot]
    · split
      · subst_vars; rfl
      · rfl

theorem State.walk_calendarOnly (s : State) (m : Minute) : CalendarOnly s (s.walk m) := by
  unfold State.walk
  generalize allSlots.drop 1 = l
  induction l generalizing s with
  | nil => exact .refl s
  | cons n l ih => exact (s.walkSlot_calendarOnly m n).trans (ih _)

theorem State.walk_list_slot (m : Minute) (l : List SlotNo) (hl : l.Nodup) (s : State) (k : SlotNo) :
    (l.foldl (State.walkSlot m) s).slot k = if k ∈ l then (s.slot k).walked m else s.slot k := by
  induction l generalizing s with
  | nil => rfl
  | cons n l ih =>
    rw [List.nodup_cons] at hl
    rw [List.foldl_cons, ih hl.2, State.walkSlot_slot]
    by_cases hk : k = n
    · subst hk
      simp [hl.1]
    · simp [hk]

/-- The walk rewrites each slot from 1 to 127, and slot 0 not (R86). -/
theorem State.walk_slot (s : State) (m : Minute) (k : SlotNo) :
    (s.walk m).slot k = if k = 0 then s.slot 0 else (s.slot k).walked m := by
  have hd : allSlots.drop 1 = (List.finRange 127).map Fin.succ := by
    unfold allSlots
    rw [List.finRange_succ]
    rfl
  have hn : (allSlots.drop 1).Nodup := (List.nodup_finRange 128).sublist (List.drop_sublist 1 _)
  unfold State.walk
  rw [State.walk_list_slot m _ hn, hd]
  by_cases hk : k = 0
  · subst hk
    simp
  · have : ∃ a : Fin 127, a.succ = k := ⟨k.pred hk, Fin.succ_pred k hk⟩
    simp [hk, this]

end Sys2Proof.Machine
end

