-- ==== Sys2Proof/Laws/Management.lean ====
section
/-! SUPPORT. Taking a request, the two-part order, and answering: everything each of them does (sections 6.1 and
9.4). -/

namespace Sys2Proof.Machine

/-! ### Taking a request (R165, R107) -/

@[simp] theorem State.left_lane (s : State) (rest : List Request) :
    (s.left rest).lane = { s.lane with requests := rest } := rfl
@[simp] theorem State.left_keys (s : State) (rest : List Request) : (s.left rest).keys = s.keys := rfl
@[simp] theorem State.left_mgmt (s : State) (rest : List Request) : (s.left rest).mgmt = s.mgmt := rfl
@[simp] theorem State.left_events (s : State) (rest : List Request) : (s.left rest).events = s.events := rfl
@[simp] theorem State.left_device (s : State) (rest : List Request) : (s.left rest).device = s.device := rfl
@[simp] theorem State.left_clock (s : State) (rest : List Request) : (s.left rest).clock = s.clock := rfl
@[simp] theorem State.left_lines (s : State) (rest : List Request) : (s.left rest).lines = s.lines := rfl
@[simp] theorem State.left_profile (s : State) (rest : List Request) : (s.left rest).profile = s.profile := rfl
@[simp] theorem State.left_slot (s : State) (rest : List Request) (n : SlotNo) : (s.left rest).slot n = s.slot n :=
  rfl

/-- A request that is taken and fits its row is judged on the rest of the queue (R165). -/
theorem State.take_of_takes {s : State} {q : Request} {rest : List Request} (h : s.takes q rest)
    {fits : Byte → Bool} (hf : fits q.code = true) (judge : Request → State → State) :
    s.take fits judge = judge q (s.left rest) := by
  obtain ⟨hl, hi, hh, hq, -⟩ := h
  simp [State.take, State.takeable, State.managementFree, State.popRequest, State.left, hl, hi, hh, hq, hf]

/-- Where no request is taken, a row changes nothing (log 1). -/
theorem State.take_of_not_free {s : State} (h : s.managementFree = false) (fits : Byte → Bool)
    (judge : Request → State → State) : s.take fits judge = s := by
  unfold State.take State.takeable
  cases s.lane.requests <;> simp [h]

/-- A request that is no partner, with no first part pending and the part out of INIT, is judged (R165). -/
theorem State.takeRequest_of_takes {s : State} {q : Request} {rest : List Request} (h : s.takes q rest)
    {code : Byte} (hc : q.code = code) (ht : s.mgmt.twoPart = .idle) (hd : s.device ≠ .init)
    (judge : Request → State → State) : s.takeRequest code judge = judge q (s.left rest) := by
  rw [State.takeRequest, State.take_of_takes h (by simp [hc])]
  simp [underOrder, outsideInit, ht, hd]

/-- In INIT it is refused with STATE (R165 test 3). -/
theorem State.takeRequest_in_init {s : State} {q : Request} {rest : List Request} (h : s.takes q rest)
    {code : Byte} (hc : q.code = code) (ht : s.mgmt.twoPart = .idle) (hd : s.device = .init)
    (judge : Request → State → State) : s.takeRequest code judge = (s.left rest).respond q .state := by
  rw [State.takeRequest, State.take_of_takes h (by simp [hc])]
  simp [underOrder, outsideInit, ht, hd]

/-- While a first part is pending it is discarded and refused with ORDER (R107). -/
theorem State.takeRequest_out_of_order {s : State} {q : Request} {rest : List Request} (h : s.takes q rest)
    {code : Byte} (hc : q.code = code) (ht : s.mgmt.twoPart ≠ .idle) (judge : Request → State → State) :
    s.takeRequest code judge = (s.left rest).discardTwoPart.respond q .order := by
  rw [State.takeRequest, State.take_of_takes h (by simp [hc])]
  simp [underOrder, ht]

/-! ### Discarding a first part (R106) -/

theorem State.discardTwoPart_idle {s : State} (h : s.mgmt.twoPart = .idle) : s.discardTwoPart = s := by
  simp [State.discardTwoPart, h]

theorem State.discardTwoPart_root {s : State} {b : Block} (h : s.mgmt.twoPart = .root b) :
    s.discardTwoPart = { s with mgmt := { s.mgmt with twoPart := .idle, candidate := none } } := by
  simp [State.discardTwoPart, State.clearTwoPart, h]

theorem State.discardTwoPart_load {s : State} {f : LoadFields} (h : s.mgmt.twoPart = .load f) :
    s.discardTwoPart = { s with
      mgmt := { s.mgmt with twoPart := .idle, candidate := none }
      keys := { s.keys with slots := tableSet s.keys.slots f.slot Slot.empty, keyChange := true } } := by
  simp [State.discardTwoPart, h]
  rfl

/-! ### Answering (R166) -/

/-- A response that finds room joins the tail of the response queue (R166). -/
theorem State.respond_of_room {s : State} (h : s.lane.responses.length < 8) (q : Request) (st : Status)
    (data : List Byte) :
    s.respond q st data = s.answered q st (if st.carriesData then data else []) := by
  simp [State.respond, State.sendResponse, h, State.answered, State.composeResponse, State.attention]

/-- A response that finds no room is held (R166). -/
theorem State.respond_of_full {s : State} (h : 8 ≤ s.lane.responses.length) (q : Request) (st : Status)
    (data : List Byte) :
    s.respond q st data = { s with mgmt := { s.mgmt with held := some (s.composeResponse q.tag q.code st data) } } := by
  simp [State.respond, State.sendResponse, Nat.not_lt.mpr h]

/-- The request in hand ends and is answered where there is room (R165, R166). -/
theorem State.finish_of_room {s : State} {tag code : Byte} {w : HeldWork}
    (hi : s.mgmt.inHand = some { tag, code, work := w }) (h : s.lane.responses.length < 8) (st : Status)
    (data : List Byte) :
    s.finish st data = { s with mgmt := { s.mgmt with inHand := none } }.answered { tag, code, params := [] } st
      (if st.carriesData then data else []) := by
  simp [State.finish, hi, State.sendResponse, h, State.answered, State.composeResponse, State.attention]

/-- An answer given at the lane port that finds room (R160). -/
theorem State.portAnswer_of_room {s : State} (h : s.lane.responses.length < 8) (tag code : Byte) (st : Status)
    (params : List Byte) : s.portAnswer tag code st = s.answered { tag, code, params } st [] := by
  simp [State.portAnswer, h, State.answered, State.composeResponse, State.attention]

/-- An answer given at the lane port that finds no room is dropped with REQUEST-DROP (R160). -/
theorem State.portAnswer_of_full {s : State} (h : 8 ≤ s.lane.responses.length) (tag code : Byte) (st : Status) :
    s.portAnswer tag code st = s.raise .requestDrop := by
  simp [State.portAnswer, Nat.not_lt.mpr h]

end Sys2Proof.Machine
end

