-- ==== Sys2Proof/Laws/PassEnds.lean ====
section
/-! SUPPORT. The CLOSE at the end of a pass, and what a SENT does to its owner (R8, R46, R53, R57, R76). -/

namespace Sys2Proof.Machine

/-! ### Releases at the air port (R57) -/

/-- t is s after releases: some frames, owned by contexts that s has in DONE, have left the queue, and no other
frame, no handle and no count of CLOSE-DROP has changed. -/
def State.releasedAir (s t : State) : Prop :=
  (∃ keep : DownEntry → Bool, t.air.queue = s.air.queue.filter keep ∧
    ∀ e, keep e = false → ∃ d y, e.owner = some d ∧ s.context d = some y ∧ y.state = .done) ∧
  t.air.nextHandle = s.air.nextHandle ∧
  tableGet t.events.counters Event.closeDrop.number = tableGet s.events.counters Event.closeDrop.number ∧
  t.events.flag Event.closeDrop.number = s.events.flag Event.closeDrop.number

theorem State.releasedAir_of {s t : State} (ha : t.air = s.air)
    (hc : tableGet t.events.counters Event.closeDrop.number = tableGet s.events.counters Event.closeDrop.number)
    (hf : t.events.flag Event.closeDrop.number = s.events.flag Event.closeDrop.number) : s.releasedAir t :=
  ⟨⟨fun _ => true, by rw [ha]; simp, by simp⟩, by rw [ha], hc, hf⟩

theorem State.stall_releasedAir (s : State) (d : ContextNo) : s.releasedAir (s.stall d) := by
  unfold State.stall
  split
  · exact State.releasedAir_of rfl rfl rfl
  · refine State.releasedAir_of (by rw [State.raise_air]) ?_ ?_
    · rw [State.raise_events, Events.counter_record, if_neg (by decide)]
    · rw [State.raise_events, Events.flag_record]
      rfl

/-- All that the releases of a zone do at the air port. -/
theorem State.releaseHeads_releasedAir (k : Nat) (z : ZoneNo) (s : State) : s.releasedAir (s.releaseHeads k z) := by
  induction k generalizing s with
  | zero => exact State.releasedAir_of rfl rfl rfl
  | succ k ih =>
    unfold State.releaseHeads
    split
    · exact State.releasedAir_of rfl rfl rfl
    · rename_i d l _
      split
      · exact State.releasedAir_of rfl rfl rfl
      · rename_i y hy
        split
        · rename_i hd
          split
          · obtain ⟨⟨keep, hq, hk⟩, hn, hc, hf⟩ := ih (s.release d y)
            refine ⟨⟨fun e => keep e && !ownedBy d e.owner, ?_, fun e he => ?_⟩, hn, hc, hf⟩
            · rw [hq, State.release_air]
              simp [AirPort.withdraw]
            · by_cases ho : ownedBy d e.owner = true
              · exact ⟨d, y, by simpa [ownedBy] using ho, hy, hd.1⟩
              · obtain ⟨d', y', h1, h2, h3⟩ := hk e (by simpa [ho] using he)
                have hne : d' ≠ d := by
                  rintro rfl
                  rw [show (s.release d' y).context d' = none from State.context_setContext_self _ _ _] at h2
                  cases h2
                refine ⟨d', y', h1, ?_, h3⟩
                rw [show (s.release d y).context d' = s.context d' from by
                  show (State.setContext _ d none).context d' = _
                  rw [State.context_setContext, if_neg hne]
                  rfl] at h2
                exact h2
          · exact s.stall_releasedAir d
        · exact State.releasedAir_of rfl rfl rfl

/-! ### The CLOSE of a pass (R8, R53) -/

/-- Releases that follow an offered CLOSE leave what closes says of it: u is the state at the offer, whose contexts
in DONE are those of s and c, and c owns no frame any more. -/
theorem State.closes_of_offer {s u t v : State} {c : ContextNo} {a : AirPort} {zone : ZoneNo} {tag : TagNumber} {ok : Bool}
    (ha : u.air = a) (hd : ∀ e ∈ a.queue, e.owner ≠ some c) (hev : u.events = s.events)
    (htair : t.air = (u.offerClose zone tag ok).air) (htev : t.events = (u.offerClose zone tag ok).events)
    (hdone : ∀ d y, d ≠ c → t.context d = some y → y.state = .done → ∃ y', s.context d = some y' ∧ y'.state = .done)
    (hv : t.releasedAir v) : s.closes v a zone tag ok := by
  obtain ⟨⟨keep, hq, hk⟩, hn, hc, hf⟩ := hv
  have kept : ∀ e, (∀ d, d ≠ c → e.owner ≠ some d) → e.owner ≠ some c → keep e = true := by
    intro e h1 h2
    by_contra h
    obtain ⟨d, y, ho, -, -⟩ := hk e (by simpa using h)
    by_cases hdc : d = c
    · subst hdc; exact h2 ho
    · exact h1 d hdc ho
  have stays : ∀ e ∈ a.queue, keep e = true ∨ ∃ d y, e.owner = some d ∧ s.context d = some y ∧ y.state = .done := by
    intro e he
    by_cases h : keep e = true
    · exact .inl h
    · obtain ⟨d, y, ho, hy, hyd⟩ := hk e (by simpa using h)
      have hdc : d ≠ c := by rintro rfl; exact hd e he ho
      obtain ⟨y', h1, h2⟩ := hdone d y hdc hy hyd
      exact .inr ⟨d, y', ho, h1, h2⟩
  subst ha
  unfold State.offerClose at htair htev
  by_cases hs : u.air.sharedCount < 8
  · rw [if_pos hs] at htair htev
    have hq' : v.air.queue = u.air.queue.filter keep ++
        [{ zone := zoneByte zone, handle := u.air.chosenHandle, owner := none, body := .close tag ok }] := by
      rw [hq, htair]
      simp only [AirPort.enqueue, List.filter_append]
      rw [List.filter_cons_of_pos (kept _ (by simp) (by simp))]
      rfl
    refine ⟨fun _ => ⟨⟨_, List.filter_sublist, hq'⟩, by rw [hn, htair]; rfl, by rw [hc, htev, ← hev]⟩,
      fun h => absurd hs (by omega), fun e he => ?_⟩
    rcases stays e he with h | h
    · exact .inl (by rw [hq']; exact List.mem_append_left _ (List.mem_filter.mpr ⟨he, h⟩))
    · exact .inr h
  · rw [if_neg hs] at htair htev
    rw [State.raise_air] at htair
    rw [State.raise_events] at htev
    have hq' : v.air.queue = u.air.queue.filter keep := by rw [hq, htair]
    refine ⟨fun h => absurd h hs, fun _ => ⟨by rw [hq']; exact List.filter_sublist, by rw [hn, htair], ?_, ?_⟩,
      fun e he => ?_⟩
    · rw [hf, htev, Events.flag_record]
      simp
    · rw [hc, htev, Events.counter_record, if_pos rfl, hev]
      unfold countUp
      split <;> bv_omega
    · rcases stays e he with h | h
      · exact .inl (by rw [hq']; exact List.mem_filter.mpr ⟨he, h⟩)
      · exact .inr h

/-- The end of a pass offers its CLOSE (R8, R53). -/
theorem State.endPass_closes {s : State} {c : ContextNo} {x : Context} (hs : s.context c = some x) (r : PassResult) :
    s.closes (s.endPass c r) (s.air.withdraw c) x.servingZone x.tagNumber r.closesOk := by
  unfold State.endPass
  rw [hs]
  have key : ∀ u : State, u.air = s.air.withdraw c → u.events = s.events →
      (∀ d y, d ≠ c → u.context d = some y → ∃ y', s.context d = some y' ∧ y'.state = y.state) →
      s.closes ((((u.offerClose x.servingZone x.tagNumber r.closesOk).handRecent x r).modContext c
        fun y => { y with state := .done }).attemptRelease x.homeZone)
        (s.air.withdraw c) x.servingZone x.tagNumber r.closesOk := by
    intro u ha hev hc
    have hh : ∀ t : State, (t.handRecent x r).air = t.air ∧ (t.handRecent x r).events = t.events := by
      intro t; unfold State.handRecent; split <;> exact ⟨rfl, rfl⟩
    refine State.closes_of_offer
      (t := ((u.offerClose x.servingZone x.tagNumber r.closesOk).handRecent x r).modContext c
        fun y => { y with state := .done })
      ha (AirPort.withdraw_disowned s.air c).1 hev (hh _).1 (hh _).2 (fun d y hd hy hyd => ?_)
      (State.releaseHeads_releasedAir _ _ _)
    rw [State.context_modContext, if_neg hd, State.handRecent_context, State.offerClose_context] at hy
    obtain ⟨y', h1, h2⟩ := hc d y hd hy
    exact ⟨y', h1, h2.trans hyd⟩
  have base : ∀ d y, d ≠ c → ((s.setContext c (some { x with
      result := some r, doneTick := some s.clock.laneTime, stepFrame := none,
      stepDeadline := none })).withdrawFrames c).context d = some y → ∃ y', s.context d = some y' ∧ y'.state = y.state := by
    intro d y hd hy
    refine ⟨y, ?_, rfl⟩
    rw [show ((s.setContext c _).withdrawFrames c).context d = (s.setContext c _).context d from rfl,
      State.context_setContext, if_neg hd] at hy
    exact hy
  dsimp only
  split
  · have hj := State.dropQueuedJob_jobsOnly ((s.setContext c (some { x with
        result := some r, doneTick := some s.clock.laneTime, stepFrame := none,
        stepDeadline := none })).withdrawFrames c) c
    refine key _ hj.air hj.events fun d y hd hy => ?_
    have := hj.contexts d
    rw [hy] at this
    cases hw : ((s.setContext c (some { x with
        result := some r, doneTick := some s.clock.laneTime, stepFrame := none,
        stepDeadline := none })).withdrawFrames c).context d with
    | none => rw [hw] at this; cases this
    | some w =>
      obtain ⟨y', h1, h2⟩ := base d w hd hw
      rw [hw, Option.map_some, Option.map_some, Option.some.injEq] at this
      exact ⟨y', h1, h2.trans (show w.apart.state = y.apart.state by rw [this])⟩
  · exact key _ rfl rfl base

/-! ### The owner of a SENT (R44, R46, R76) -/

/-- A step deadline that has not expired stands (R76). -/
theorem State.expireStep_stands {s : State} {c : ContextNo}
    (h : ∀ x d, s.context c = some x → x.stepDeadline = some d → expired d s.clock.laneTime = false) :
    s.expireStep c = s := by
  unfold State.expireStep
  split
  · rename_i d hd
    obtain ⟨x, hx, hxd⟩ := Option.bind_eq_some_iff.mp hd
    rw [if_neg (by rw [h x d hx hxd]; decide)]
  · rfl

theorem State.expireStep_passFrame (s : State) (c : ContextNo) : s.passFrame (s.expireStep c) c := by
  unfold State.expireStep
  split
  · split
    · exact State.passFrame_trans (s.modContext_passFrame c _) (State.retryOrEnd_passFrame _ c)
    · exact s.passFrame_refl c
  · exact s.passFrame_refl c

/-- A SENT stays inside the frame of its owner's pass. -/
theorem State.reportSent_passFrame (s : State) (c : ContextNo) (t : Tick) : s.passFrame (s.reportSent (some c) t) c := by
  unfold State.reportSent
  dsimp only
  split
  · split
    · exact State.passFrame_trans (s.setContext_passFrame c _) (State.expireStep_passFrame _ c)
    · exact s.passFrame_refl c
  · exact s.passFrame_refl c

/-- A SENT whose deadline is ahead leaves the deadline and nothing else (R44). -/
theorem State.reportSent_ahead {s : State} {c : ContextNo} {x : Context} (hs : s.context c = some x)
    (hf : x.stepFrame.isSome = true) {t : Tick} (he : expired (x.deadlineAfter t) s.clock.laneTime = false) :
    s.reportSent (some c) t = s.setContext c (some { x with stepDeadline := some (x.deadlineAfter t) }) := by
  unfold State.reportSent
  dsimp only
  rw [hs]
  dsimp only
  rw [if_pos hf]
  refine State.expireStep_stands fun y d hy hd => ?_
  rw [State.context_setContext_self, Option.some.injEq] at hy
  subst hy
  rw [← (Option.some.inj hd : x.deadlineAfter t = d)]
  exact he

end Sys2Proof.Machine
end

