-- ==== Sys2Proof/Laws/Scrubs.lean ====
section
/-! SUPPORT. What follows the end of a scrub, what the test for a scrub does, and the place a taken offer has in
the derived-key cache (R97 to R100, R103, R147). -/

namespace Sys2Proof.Machine

/-! ### The end of a scrub (R100, R103) -/

/-- Work on jobs alone leaves the INIT check list. -/
theorem JobsOnly.initCheck {s t : State} (h : JobsOnly s t) : t.keys.initCheck = s.keys.initCheck := by rw [h.keys]

/-- A scrub that is issued is outstanding, queued or running (R97). -/
theorem State.issueScrub_outstanding (s : State) (n : SlotNo) (forced : Bool) :
    ∃ r, (s.issueScrub n forced).keys.outstanding = some { slot := n, forced, running := r } := by
  unfold State.issueScrub State.arrive
  split
  · exact ⟨true, rfl⟩
  · exact ⟨false, rfl⟩

/-- Outside INIT, and with nothing left to check, the end of a scrub is work on jobs alone. -/
theorem State.afterScrub_jobsOnly {s : State} (h : s.device ≠ .init ∨ s.keys.initCheck = []) :
    JobsOnly s s.afterScrub := by
  unfold State.afterScrub
  dsimp only
  rw [if_neg]
  · exact (s.setOutstanding_jobsOnly _).trans (State.scrubTest_jobsOnly _)
  · rintro ⟨h1, h2⟩
    rcases h with h | h
    · exact h h1
    · exact h2 h

/-- In INIT the slot at the head leaves the list, and the check goes on to the next or is complete (R103). -/
theorem State.afterScrub_init {s : State} {m : SlotNo} {l : List SlotNo} (hd : s.device = .init)
    (hc : s.keys.initCheck = m :: l) :
    s.afterScrub.keys.initCheck = l ∧ (l = [] → s.afterScrub.device = .maintenance) ∧
      ∀ k more, l = k :: more → s.afterScrub.device = .init ∧
        ∃ r, s.afterScrub.keys.outstanding = some { slot := k, forced := true, running := r } := by
  have h : s.afterScrub =
      ({ s.setOutstanding none with
          keys := { (s.setOutstanding none).keys with initCheck := l } } : State).continueInitCheck := by
    unfold State.afterScrub
    dsimp only
    rw [if_pos ⟨hd, by show s.keys.initCheck ≠ []; rw [hc]; simp⟩]
    show ({ s.setOutstanding none with
      keys := { (s.setOutstanding none).keys with initCheck := s.keys.initCheck.drop 1 } } : State).continueInitCheck = _
    rw [hc]
    rfl
  rw [h]
  unfold State.continueInitCheck
  cases l with
  | nil =>
    refine ⟨(State.scrubTest_jobsOnly _).initCheck, fun _ => (State.scrubTest_jobsOnly _).device, by simp⟩
  | cons k more =>
    refine ⟨(State.issueScrub_jobsOnly _ k true).initCheck, by simp, ?_⟩
    rintro k' more' hk
    obtain ⟨rfl, rfl⟩ := List.cons.inj hk
    exact ⟨(State.issueScrub_jobsOnly _ k true).device.trans hd, State.issueScrub_outstanding _ _ _⟩

/-! ### The test for a scrub (R97 to R99) -/

/-- A search by age through slots in ascending order ends with the oldest, the lowest-numbered among equals. -/
theorem oldest_foldl (g : SlotNo → Nat) (f : Option SlotNo → SlotNo → Option SlotNo) (h0 : ∀ n, f none n = some n)
    (h1 : ∀ b n, f (some b) n = if g b < g n then some n else some b) (l : List SlotNo) (hl : l.Pairwise (· < ·)) :
    (l.foldl f none = none → l = []) ∧
      ∀ b, l.foldl f none = some b → b ∈ l ∧ ∀ k ∈ l, g k < g b ∨ (g k = g b ∧ b ≤ k) := by
  induction l using List.reverseRecOn with
  | nil => simp
  | append_singleton l n ih =>
    have hp := List.pairwise_append.mp hl
    have hlt : ∀ k ∈ l, k < n := fun k hk => hp.2.2 k hk n (by simp)
    obtain ⟨hn, hs⟩ := ih hp.1
    rw [List.foldl_append, List.foldl_cons, List.foldl_nil]
    cases ho : l.foldl f none with
    | none =>
      rw [hn ho, h0]
      simp
    | some b =>
      obtain ⟨hb, hk⟩ := hs b ho
      rw [h1]
      refine ⟨by split <;> simp, fun d hd => ?_⟩
      split at hd <;> cases hd
      · refine ⟨by simp, fun k hm => ?_⟩
        rcases List.mem_append.mp hm with hm | hm
        · left
          rcases hk k hm with h | h <;> omega
        · right
          simp [List.mem_singleton.mp hm]
      · refine ⟨List.mem_append_left _ hb, fun k hm => ?_⟩
        rcases List.mem_append.mp hm with hm | hm
        · exact hk k hm
        · rw [List.mem_singleton.mp hm]
          by_cases he : g n = g b
          · exact .inr ⟨he, le_of_lt (hlt b hb)⟩
          · left; omega

/-- The slots in ascending order. -/
theorem allSlots_pairwise : allSlots.Pairwise (· < ·) := by
  decide +kernel

/-- The search for the overdue slot of R99 item 1: none where no slot is overdue, else the oldest. -/
theorem State.mostOverdue_cases (s : State) :
    (s.mostOverdue = none → ∀ n, s.overdue n = false) ∧ ∀ m, s.mostOverdue = some m → s.oldestOverdue m := by
  obtain ⟨h0, h1⟩ := oldest_foldl (fun n => age (s.slot n).lastCheck s.clock.laneTime)
    (fun best n => match best with
      | none => some n
      | some b =>
        if age (s.slot b).lastCheck s.clock.laneTime < age (s.slot n).lastCheck s.clock.laneTime then some n
        else some b)
    (fun _ => rfl) (fun _ _ => rfl) (allSlots.filter s.overdue) (allSlots_pairwise.filter _)
  refine ⟨fun h n => ?_, fun m h => ?_⟩
  · have := h0 h
    simp only [List.filter_eq_nil_iff, allSlots] at this
    simpa using this n (List.mem_finRange n)
  · obtain ⟨hm, hk⟩ := h1 m h
    exact ⟨(List.mem_filter.mp hm).2, fun k ho => hk k (by simp [allSlots, List.mem_filter, ho])⟩

/-- A scrub that is issued is the outstanding one, and its job stands (R97). -/
theorem State.issueScrub_issued (s : State) (n : SlotNo) (forced : Bool) : (s.issueScrub n forced).scrubIssued n forced := by
  refine ⟨s.issueScrub_outstanding n forced, ?_⟩
  have h := State.someJob_arrive (s := s.setOutstanding (some { slot := n, forced, running := false }))
    (off := none) (P := fun j => { j with bypass := 0 } = scrubJob n forced) (scrubJob n forced)
    (by simp) (.inr rfl)
  obtain ⟨j, hj, hp⟩ := h
  exact ⟨j, hj.imp_right fun ⟨e, _, he⟩ => ⟨e, he⟩, hp⟩

/-- An issue leaves the scrub pointer. -/
theorem State.issueScrub_scrubPointer (s : State) (n : SlotNo) (forced : Bool) :
    (s.issueScrub n forced).keys.scrubPointer = s.keys.scrubPointer := by
  unfold State.issueScrub State.arrive
  split <;> rfl

/-- An issue changes the outstanding scrub and the work on jobs alone. -/
theorem State.issueScrub_frame (s : State) (n : SlotNo) (forced : Bool) :
    s.issueScrub n forced = { s with
      keys := { s.keys with outstanding := (s.issueScrub n forced).keys.outstanding }
      cipher := (s.issueScrub n forced).cipher } := by
  unfold State.issueScrub State.arrive
  split <;> rfl

/-- Slot i on from the scrub pointer, modulo 128. -/
theorem scrubPointer_add (p : SlotNo) (n : SlotNo) : (p + n).val = (p.val + n.val) % 128 := Fin.val_add p n

/-- What the key store's test for a scrub does (R99). -/
theorem State.scrubTest_tested (s : State) : s.scrubTested s.scrubTest := by
  unfold State.scrubTest State.scrubTested
  refine ⟨fun h => ?_, fun hw ho => ⟨fun ⟨k, hk⟩ => ?_, fun hn => ⟨fun h => ?_, fun hq i n hi hv hm hf => ?_⟩⟩⟩
  · rw [if_neg]
    · exact ⟨rfl, rfl⟩
    · rcases h with h | h
      · simp [h]
      · simp [Option.isNone_iff_eq_none, h]
  · rw [if_pos (by simp [hw, ho])]
    cases hm : s.mostOverdue with
    | none => exact absurd hk (by rw [s.mostOverdue_cases.1 hm k]; simp)
    | some m => exact ⟨m, s.mostOverdue_cases.2 m hm, s.issueScrub_issued m true, s.issueScrub_scrubPointer m true⟩
  · rw [if_pos (by simp [hw, ho])]
    cases hm : s.mostOverdue with
    | some m => exact absurd (s.mostOverdue_cases.2 m hm).1 (by rw [hn m]; simp)
    | none =>
      dsimp only
      split
      · exact ⟨ho, rfl⟩
      · rename_i hc
        have hnone : s.nextScrubSlot = none := by
          rcases h with ⟨k, hk, c, hkc⟩ | h
          · exact absurd (List.any_eq_true.mpr ⟨k, hk, by simp [Job.ofContext, hkc]⟩) hc
          · simp [State.nextScrubSlot, h]
        rw [hnone]
        exact ⟨ho, rfl⟩
  · rw [if_pos (by simp [hw, ho])]
    cases hm' : s.mostOverdue with
    | some m => exact absurd (s.mostOverdue_cases.2 m hm').1 (by rw [hn m]; simp)
    | none =>
      dsimp only
      have hc : ¬s.cipher.queue.any Job.ofContext = true := by
        rw [List.any_eq_true]
        rintro ⟨k, hk, hkc⟩
        unfold Job.ofContext at hkc
        split at hkc
        · exact hq k hk _ ‹_›
        · cases hkc
        · cases hkc
      rw [if_neg hc]
      have hnext : s.nextScrubSlot = some n := by
        unfold State.nextScrubSlot
        rw [List.find?_map, Option.map_eq_some_iff]
        refine ⟨⟨i, hi⟩, ?_, Fin.ext (by rw [scrubPointer_add, hv])⟩
        rw [List.find?_eq_some_iff_getElem]
        refine ⟨by
          show (s.slot (s.keys.scrubPointer + ⟨i, hi⟩)).holdsMaterial = true
          rwa [show s.keys.scrubPointer + ⟨i, hi⟩ = n from Fin.ext (by rw [scrubPointer_add, hv])],
          i, by simpa [allSlots] using hi, by simp [allSlots], fun j hj => ?_⟩
        have := hf j (s.keys.scrubPointer + ⟨j, by omega⟩) hj (scrubPointer_add _ _)
        simpa [allSlots] using this
      rw [hnext]
      refine ⟨State.issueScrub_issued _ n false, ?_⟩
      show (State.issueScrub _ n false).keys.scrubPointer.val = _
      rw [State.issueScrub_scrubPointer]
      exact Fin.val_add n 1

/-- What a slot that is overdue brings about at once (R98, R99). -/
theorem State.noteOverdue_noted {s : State} (hw : s.working = true) {n : SlotNo} (hn : s.overdue n = true) :
    s.overdueNoted s.noteOverdue := by
  have hany : allSlots.any s.overdue = true := List.any_eq_true.mpr ⟨n, List.mem_finRange n, hn⟩
  have he : s.noteOverdue = s.forceScrub.scrubTest := by
    unfold State.noteOverdue
    rw [if_pos (by simp [hw, hany])]
  rw [he]
  cases ho : s.keys.outstanding with
  | none =>
    have hf : s.forceScrub = s := by unfold State.forceScrub; rw [ho]
    obtain ⟨m, hm, hi, -⟩ := (s.scrubTest_tested.2 hw ho).1 ⟨n, hn⟩
    rw [hf]
    refine ⟨?_, fun _ => ⟨m, hm, hi⟩, by simp [ho]⟩
    unfold State.scrubTest
    rw [if_pos (by simp [hw, ho])]
    cases hm' : s.mostOverdue with
    | none => exact absurd hn (by rw [s.mostOverdue_cases.1 hm' n]; simp)
    | some m => exact s.issueScrub_frame m true
  | some o =>
    have hx : ∀ t : State, t.keys.outstanding.isSome = true → t.scrubTest = t := by
      intro t ht
      unfold State.scrubTest
      rw [if_neg (by cases h : t.keys.outstanding <;> simp_all)]
    unfold State.forceScrub
    rw [ho]
    dsimp only
    obtain ⟨n', f, r⟩ := o
    cases r with
    | true =>
      rw [if_pos rfl, hx _ (by simp [ho])]
      refine ⟨rfl, by simp [ho], ?_⟩
      rintro o' ho'
      cases ho.symm.trans ho'
      exact ⟨fun _ => rfl, by simp⟩
    | false =>
      rw [if_neg (by simp), hx _ rfl]
      refine ⟨rfl, by simp [ho], ?_⟩
      rintro o' ho'
      cases ho.symm.trans ho'
      exact ⟨by simp, fun _ => rfl⟩

/-! ### The derived-key cache (R147) -/

/-- A taken offer has the place R147 gives it. -/
theorem State.cacheFill_taken (s : State) (x : CacheEntry) : cacheTaken s.cache (s.cacheFill x).cache x := by
  rintro others rfl
  refine ⟨fun h => ?_, fun kept oldest ho h => ?_⟩
  · simp only [State.cacheFill]
    rw [if_neg (by omega)]
  · simp only [State.cacheFill]
    rw [if_pos h, ho, List.dropLast_concat]

end Sys2Proof.Machine
end

