-- ==== Sys2Proof/Tests/Slice0.lean ====
section
/-! SUPPORT. The author's tests: the shape of terms, the spec's worked figures, single steps of the spec's
worked examples, and for each obligation with hypotheses a state and operands that meet them. -/

namespace Sys2Proof.Tests

open Sys2Proof.Machine

set_option Elab.async false

/-! ### States and frames the tests use -/

/-- A frame with its own length and CRC. -/
def frame (code : Byte) (p : List Byte) : PortFrame :=
  let crc := frameCrc code (BitVec.ofNat 8 p.length) p
  { len := BitVec.ofNat 8 p.length, payload := p, crcHigh := crc.extractLsb' 8 8, crcLow := crc.extractLsb' 0 8 }

/-- The root of the test key store. -/
def root : Slot :=
  { Slot.empty with state := .active, role := some .root, kcv := 0x0A0B0C#24, lastCheck := 1000#32, material := some 1 }

/-- A TAG-MASTER slot of issuer 0x0142, generation 3 (section 3.10). -/
def master : Slot :=
  { Slot.empty with
    state := .active, role := some .tagMaster, issuer := 0x0142#16, generation := 3#4, retain := true
    validFrom := 100#32, validUntil := 2000000#32, kcv := 0x010203#24, lastCheck := 1000#32, material := some 2 }

/-- A RECORD slot of generation 2 (section 3.10). -/
def record : Slot :=
  { master with role := some .record, issuer := 0#16, generation := 2#4, retain := false, material := some 3 }

/-- The profile of zone 4 (section 3.10). -/
def entryZone : ZoneProfile :=
  { function := .entry, station := 0x0450#16, lane := 4#4, recordSet := 1#4, replyTimeout := 30, retries := 3 }

/-- A part in SERVICE at tick 50,000 with zone 4 an ENTRY zone, slots 0, 17 and 127 ACTIVE (section 3.10). -/
def lane : State :=
  { State.reset with
    device := .service
    clock := { laneTime := 50000#32, calendarSet := true, minute := 1002000#32, minuteTimer := 0, advanceDue := false }
    profile := { LaneProfile.defaults with zones := tableSet LaneProfile.defaults.zones 4 entryZone }
    keys := { KeyStore.powerOn with
      slots := tableSet (tableSet (tableSet KeyStore.powerOn.slots 0 root) 17 master) 127 record
      writeGen := some 2#4 } }

/-- The pass of the tag of section 3.10, in a state. -/
def pass (st : PassState) : Context :=
  { state := st, issuer := 0x0142#16, tagNumber := 0x0000002B11F0#48, generation := 3#4, homeZone := 4
    zoneList := [{ zone := 4, rssi := 140#8 }], servingZone := 4, tagNonce := 7#64, counter := 0xFFFFFF#24
    readerNonce := some 9#64, requestedSet := 1#4, boundSlot := some 17, tagKey := some 4, sessionKey := some 5
    profile := lane.zone 4, openTick := 50000#32, lifetime := 52500#32, stepFrame := none, retriesLeft := 0
    stepDeadline := none, currentJob := .idle, held := none, heldCa := none, recordsRead := none
    tripRecord := none, recordCheck := none, result := none, flags := {}, doneTick := none }

/-- A step frame. -/
def challenge : StepFrame :=
  .challenge 0x0000002B11F0#48 9#64 1#4 0xAABBCCDD#32

/-- The lane with a context in its highest place. -/
def withContext (x : Context) (s : State := lane) : State :=
  { s with passes := { s.passes with
      contexts := tableSet s.passes.contexts 31 (some x)
      openLists := tableSet s.passes.openLists x.homeZone [31] } }

/-- The part with one request waiting. -/
def asking (code : Byte) (params : List Byte) (s : State := lane) : State :=
  { s with lane := { s.lane with requests := [{ tag := 9#8, code, params }] } }

/-- The request that waits. -/
def asked (code : Byte) (params : List Byte) : Request :=
  { tag := 9#8, code, params }

/-- The lane in another device state. -/
def device (d : DeviceState) : State :=
  { lane with device := d }

/-- Engine 3 busy with a job under a key. -/
def busy (j : Job) (s : State := lane) : State :=
  s.setEngine 3 { state := .busy (some 2) j, closeAtEnd := false, loss := false }

/-- A job of the context in place 31. -/
def passJob (kind : JobKind) (key : KeyId) : Job :=
  freshJob kind (.context 31) key [0]

/-- The next state of an outcome; the part after power-on where there is none. -/
def after : Host.Outcome State Fault Refusal → State
  | .next t => t
  | .fault _ | .refused _ => State.reset

/-- The part with a first part pending. -/
def pendingPart (p : TwoPart) (s : State) : State :=
  { s with mgmt := { s.mgmt with twoPart := p } }

/-- A load pending for slot 52. -/
def load (kcv : Kcv) : LoadFields :=
  { slot := 52, role := 1, issuer := 1, generation := 1, flags := 0, validFrom := 0, validUntil := 1, kcv }

/-! ### The shape of a term (WellFormed) -/

/-- An OTHER frame cannot spell a named kind code (R189). -/
theorem test_other_refuses_a_named_kind :
    (Instr.other 0x01#8 (frame 0x01#8 [])).wellFormed = false ∧ (Instr.other 0x04#8 (frame 0x04#8 [])).wellFormed = true := by
  decide +kernel

/-- A frame of an outgoing class cannot spell an incoming one (R158). -/
theorem test_outgoing_refuses_an_incoming_class :
    (Instr.laneFrameOfOutgoingClass 0x12#8 (frame 0x12#8 [])).wellFormed = false ∧
      (Instr.laneFrameOfOutgoingClass 0x01#8 (frame 0x01#8 [])).wellFormed = true := by
  decide +kernel

/-! ### Worked figures of the spec -/

/-- R187: the CRC of the nine bytes "123456789" is 0x29B1. -/
theorem test_crc : crc16 [0x31, 0x32, 0x33, 0x34, 0x35, 0x36, 0x37, 0x38, 0x39] = 0x29B1#16 := by decide +kernel

/-- R187: that CRC is sent as 0x29, 0xB1, and a frame that carries those bytes carries it; the frame of class 0x11 and
payload [7] goes out as five bytes, its CRC last. -/
theorem test_crc_bytes :
    crcBytes 0x29B1#16 = [0x29#8, 0xB1#8] ∧
      carriedCrc { len := 0, payload := [], crcHigh := 0x29, crcLow := 0xB1 } = 0x29B1#16 ∧
      wireFrame 0x11#8 [7] = [0x11#8, 1#8, 7#8] ++ crcBytes (crc16 [0x11, 1, 7]) := by decide +kernel

/-- FIPS 197, appendix B: the published AES-128 example (log 6). -/
theorem test_block_function :
    blockFunction 0x2b7e151628aed2a6abf7158809cf4f3c#128 0x3243f6a8885a308d313198a2e0370734#128
      = 0x3925841d02dc09fbdc118597196a0b32#128 := by decide +kernel

/-- Section 4.5, worked figures: the derivation block of the tag of section 3.10. -/
theorem test_derivation_block :
    derivationBlock 0x0000002B11F0#48 0x0142#16 3#4 = 0x0000002B11F00142033C3C3C3C3C3C3C#128 := by decide +kernel

/-- Section 4.5, worked figures: the CA message of new counter 0x000311 fills one block. -/
theorem test_ca_message :
    paddedBlocks (caMessage 0x0000002B11F0#48 0x000311#24) = [0x040000002B11F0000311800000000000#128] := by
  decide +kernel

/-- Section 4.5, worked figures: blocks of RA, TA with 1 to 4 records, WA and the record code. -/
theorem test_block_counts :
    (paddedBlocks (raMessage 0 0 0 0)).length = 2 ∧
      [1, 2, 3, 4].map (fun k => (paddedBlocks (taMessage 0 0 (List.replicate k 0))).length) = [2, 3, 4, 5] ∧
      (paddedBlocks (waMessage 0 0 0)).length = 2 ∧ (paddedBlocks (recordCodeMessage 0 0)).length = 2 := by
  decide +kernel

/-- Section 4.6, worked figures: the counter window. -/
theorem test_counter_window :
    [(0xFFFFFE#24, false, 0x000001#24), (0xFFFFFE#24, false, 0xFFFFFE#24), (0xFFFFFE#24, false, 0xFFFFFD#24),
      (0x000010#24, false, 0x80000F#24), (0x000010#24, false, 0x800010#24), (0x00A0F0#24, true, 0x00A0F0#24),
      (0x00A0F0#24, true, 0x00A0F1#24), (0x00A0F0#24, true, 0x00A0F2#24), (0x00A0F0#24, true, 0x00A0EF#24)].map
        (fun r => verdictOf (some { issuer := 0, tagNumber := 0, expected := r.1, uncertain := r.2.1, tick := 0 }) r.2.2)
      = [.fresh false, .repeated, .replay, .fresh false, .replay, .fresh true, .fresh true, .fresh false, .replay] := by
  decide +kernel

/-- Section 4.7, worked figures: a step deadline across the wrap. -/
theorem test_deadline_across_the_wrap :
    [0xFFFFFFF0#32, 0x00000017#32, 0x00000018#32, 0x00000100#32].map (expired 0x00000018#32)
      = [false, false, true, true] := by decide +kernel

/-- Section 4.7, worked figures: a repeat-window age. -/
theorem test_age_across_the_wrap :
    age 0xFFFF0000#32 0x00008000#32 = 98304 ∧ age 0xFFFF0000#32 0x000086A0#32 = 100000 := by decide +kernel

/-- Section 4.8, worked figures: a validity window, its walks and its expiry. -/
theorem test_validity_window :
    let x := { master with state := .staged, autoActivate := true, validFrom := 1000000#32, validUntil := 1000060#32 }
    [999999#32, 1000000#32, 1000059#32, 1000060#32].map
      (fun m => ((({ lane with keys := { lane.keys with slots := tableSet lane.keys.slots 17 x } }).walkSlot m 17).slot 17).state)
      = [.staged, .active, .active, .expired] := by decide +kernel

/-- Section 2.7: the composed record of the vehicle at station 0x0210. -/
theorem test_composed_record :
    composeRecord { lane.zone 4 with station := 0x0210#16, lane := 6#4 } 1000500#32 2#8 2#4
      = 0x0210000F443406020201000000000000#128 := by decide +kernel

/-- Section 2.7: the requested sets at zone 3, for 4, 2 and 1 records available. -/
theorem test_requested_sets :
    [4, 2, 1].map (requestedSet { lane.zone 4 with function := .exit, recordSet := 5#4 }) = [7#4, 3#4, 1#4] := by
  decide +kernel
/-! ### Single steps of the spec's worked examples -/

/-- Section 2.7, first row: SET-PROFILE opens zone 3 as an exit lane and is CLAMPED at the record set. -/
theorem test_set_profile_clamps :
    let t := after (exec .setProfile (asking 0x05#8 [3, 11, 2, 0x03, 0x88, 0, 4, 0, 0]))
    t.zone 3 = { function := .exit, station := 0x0388#16, lane := 3#4, recordSet := 5#4, replyTimeout := 30, retries := 3 } ∧
      t.lane.responses = [.response { tag := 9, code := 5, status := .clamped, attention := false, keyChange := false,
                                      data := [3, 2, 0x03, 0x88, 3, 5, 30, 3, 8] }] := by decide +kernel

/-- Section 2.7, third row: a good lane number beside a bad function code writes neither. -/
theorem test_set_profile_refuses_a_bad_function :
    let t := after (exec .setProfile (asking 0x05#8 [3, 5, 9, 0, 0, 1, 0, 0, 0]))
    t.profile = lane.profile ∧ t.lane.responses.length = 1 := by decide +kernel

/-- Section 1.4, the shared quota: at 7 CLOSE and passthrough frames a CLOSE is admitted, a fifth passthrough is
not. -/
theorem test_shared_quota :
    let close : DownEntry := { zone := 0, handle := 0, owner := none, body := .close 1 true }
    let through : DownEntry := { zone := 0, handle := 1, owner := none, body := .passthrough [] }
    let s := { lane with air := { lane.air with queue := [close, close, close, through, through, through, through] } }
    (s.offerClose 4 1 true).air.queue.length = 8 ∧
      (after (exec (.downPassthrough (frame 0x11#8 [7, 1])) s)).air.queue = s.air.queue ∧
      ((s.offerClose 4 1 true).offerClose 4 2 true).events.flag Event.closeDrop.number = true := by decide +kernel

/-- Section 1.7: a SENT with age 3 at tick 1000 goes out as SENT tick 997, and its entry is removed. -/
theorem test_sent_tick :
    let s := withContext { pass .challenging with stepFrame := some challenge, retriesLeft := 3 }
      { lane with
        clock := { lane.clock with laneTime := 1000#32 }
        air := { lane.air with confirm := [{ handle := 0, owner := some 31, deadline := 1042#32, withdrawn := false }] } }
    let t := after (exec (.sent (frame 0x11#8 [0, 3])) s)
    (t.context 31).bind Context.stepDeadline = some 1027#32 ∧ t.air.confirm = [] := by decide +kernel

/-- Section 3.10, tick 50,000: the HELLO of the tag opens a context in KEYING with its DERIVE job running. -/
theorem test_hello_opens_keying :
    let f := frame 0x01#8 [4, 140, 0x01, 0x42, 0, 0, 0, 0x2B, 0x11, 0xF0, 3, 0, 3, 0x10, 1, 2, 3, 4, 5, 6, 7, 8, 2]
    let x := (after (exec (.hello f) lane)).context 0
    x.map Context.state = some .keying ∧ x.map Context.lifetime = some 52500#32 ∧
      x.map Context.requestedSet = some 1#4 ∧ x.map Context.currentJob = some (.running .derive) := by decide +kernel

/-- Section 8.5, tick 310,400: a counter one behind a certain entry is a REPLAY; the context goes straight to its
report. -/
theorem test_hello_replay :
    let f := frame 0x01#8 [4, 140, 0x01, 0x42, 0, 0, 0, 0x2B, 0x11, 0xF0, 3, 0, 0x09, 0xFF, 1, 2, 3, 4, 5, 6, 7, 8, 2]
    let t := after (exec (.hello f) { lane with recent :=
      [{ issuer := 0x0142#16, tagNumber := 0x2B11F0#48, expected := 0x000A00#24, uncertain := false, tick := 290#32 }] })
    t.events.flag Event.replay.number = true ∧ t.lane.reports.length = 1 ∧ t.context 0 = none ∧ t.recent.length = 1 := by
  decide +kernel

/-- Section 7, affinity and bypass, step 1: engine 1 takes B under slot 17, and A is passed over for the fourth
time. -/
theorem test_arbiter_affinity :
    let a := { passJob .session (.tk 7) with bypass := 3 }
    let b := passJob .derive (.slot 17)
    let s := { lane with cipher := { lane.cipher with
      queue := [a, b, b]
      engines := tableSet lane.cipher.engines 1 { state := .openIdle (.slot 17) (some 2), closeAtEnd := false, loss := false } } }
    let t := s.arbitrate 1
    t.cipher.queue = [{ a with bypass := 4 }, b] ∧ (t.engine 1).state = .busy (some 2) b := by decide +kernel

/-- Section 7, an erase under load, step 1: the scrub and the DERIVE are marked, the queued DERIVE is gone, and slot
17 is erase pending. -/
theorem test_erase_under_load :
    let d := freshJob .derive (.context 20) (.slot 17) [0]
    let s := busy d (asking 0x17#8 [17] { lane with cipher := { lane.cipher with
      queue := [freshJob .derive (.context 22) (.slot 17) [0], freshJob .ta (.context 4) (.sk 4) [0]] } })
    let t := after (exec .erase s)
    (t.engine 3).state = .busy (some 2) { d with discard := true } ∧ (t.engine 3).closeAtEnd = true ∧
      t.cipher.queue.map Job.owner = [.context 4] ∧ (t.slot 17).erasePending = true ∧ t.lane.responses = [] := by
  decide +kernel

/-- Section 5.6, tick 1,640,000: the queued background scrub becomes forced when slot 17 becomes overdue, and not one
tick before. -/
theorem test_overdue_forces_the_scrub :
    let s (t : Tick) : State := { lane with
      clock := { lane.clock with laneTime := t }
      keys := { lane.keys with outstanding := some { slot := 0, forced := false, running := false } }
      cipher := { lane.cipher with queue := [scrubJob 0 false] } }
    (after (exec (.slotOverdue 17) (s 601000#32))).cipher.queue = [scrubJob 0 true] ∧
      (after (exec (.slotOverdue 17) (s 600999#32))).cipher.queue = [scrubJob 0 false] := by decide +kernel

/-- Section 6.1, order breaks: a READ-STATUS after a KEY-LOAD-A is refused with ORDER and the slot is EMPTY again. -/
theorem test_order_break :
    let a := asking 0x13#8 [52, 1, 0x01, 0x42, 4, 3, 0, 0, 0, 1, 0xFF, 0xFF, 0xFF, 0xFF, 1, 2, 3]
    let s := after (exec .keyLoadA a)
    let t := after (exec .readStatus (asking 0x01#8 [] s))
    (s.slot 52).state = .partLoaded ∧ t.slot 52 = Slot.empty ∧ t.mgmt.twoPart = .idle ∧ t.keys.keyChange = true ∧
      t.lane.responses.drop 1 = [.response { tag := 9, code := 1, status := .order, attention := false,
                                             keyChange := true, data := [] }] := by decide +kernel

/-- Section 9.8: a CLEAR-EVENTS naming STRAY and then a raise leaves the flag set with count 1 and an alert. -/
theorem test_clear_then_raise :
    let s := { lane with events := { flags := 4, counters := tableSet Events.cleared.counters 2 5, alertMask := 4 } }
    let t := (after (exec .clearEvents (asking 0x03#8 [0, 4] s))).raise .stray
    t.events.flag 2 = true ∧ tableGet t.events.counters 2 = 1 ∧
      t.lane.responses = [.response { tag := 9, code := 3, status := .ok, attention := false, keyChange := false,
                                      data := [0, 0] }, .alert 2 50000#32] := by decide +kernel

/-- Section 5.7, one RECORD generation running out: RETIRE of the slot of the write generation clears it. -/
theorem test_retire_clears_the_write_generation :
    let t := after (exec .retire (asking 0x16#8 [127]))
    (t.slot 127).state = .retiring ∧ t.keys.writeGen = none ∧ t.keys.keyChange = true := by decide +kernel

/-! ### For each obligation with hypotheses, a state and operands that meet them -/

/-- StepRunsFrontCommand. -/
theorem witness_step_runs_front_command :
    ({ lane with pending := [.laneReset, .wake] } : State).pending = .laneReset :: [.wake] := by decide +kernel

/-- IdleStepIsEventOrTick: an event due; none due at the last two positions of the minute timer, in SERVICE, in HOLD
and in held reset. -/
theorem witness_idle_step :
    (asking 0x01#8 []).nextDue = some .readStatus ∧ lane.nextDue = none ∧
      [lane, device .hold, { lane with lines := { lane.lines with reset := true } }].map
        (fun s => [599998, 599999].map fun n =>
          ({ s with clock := { s.clock with minuteTimer := n } } : State).nextDue) = List.replicate 3 [none, none] := by
  decide +kernel

/-- StepKeepsProfileRanges and StepKeepsFlagsWithCounters: the next step of a lawful part changes a field and
raises an event. -/
theorem witness_step_keeps_ranges_and_flags :
    let s := { asking 0x06#8 [7, 0, 1, 0, 0] with pending := [.setTiming, .other 0x20#8 (frame 0x21#8 [])] }
    (s.profile.inRange ∧ s.events.lawful ∧ (after (step s)).profile.passLimit = 100 ∧
      (after (step (after (step s)))).events.flag 3 = true) ∧ step s = .next (after (step s)) := by
  unfold LaneProfile.inRange ZoneProfile.inRange Events.lawful
  exact ⟨by decide +kernel, rfl⟩

/-- The part with one pass, in CHALLENGING, whose step frame awaits confirmation. -/
def onePass : State :=
  withContext { pass .challenging with stepFrame := some challenge } { lane with air := { lane.air with
    confirm := [{ handle := 0, owner := some 31, deadline := 0, withdrawn := false }] } }

/-- StepKeepsBounds, its second clause: a part with lawful passes and a bounded air port. -/
theorem witness_passes_lawful : onePass.passesLawful ∧ onePass.air.bounded := by
  refine ⟨?_, by unfold AirPort.bounded; decide +kernel⟩
  have none : ∀ c, c ≠ 31 → onePass.context c = none := by decide +kernel
  have last : onePass.context 31 = some { pass .challenging with stepFrame := some challenge } := by decide +kernel
  have place : ∀ c x, onePass.context c = some x →
      c = 31 ∧ x = { pass .challenging with stepFrame := some challenge } := by
    intro c x h
    have hc : c = 31 := by
      by_contra hc
      simp [none c hc] at h
    subst hc
    exact ⟨rfl, by simpa using h.symm.trans last⟩
  refine ⟨⟨fun c d x y hx hy _ _ => (place c x hx).1.trans (place d y hy).1.symm, fun z c => ⟨fun h => ?_, ?_⟩, ?_, ?_⟩,
    ?_, ?_, ?_, fun c x h _ => .inl (by rw [(place c x h).2]; rfl)⟩
  · have h' : z = 4 ∧ c = 31 := by
      revert z c
      decide +kernel
    rw [h'.1, h'.2]
    exact ⟨{ pass .challenging with stepFrame := some challenge }, by decide +kernel⟩
  · rintro ⟨x, hx, rfl⟩
    obtain ⟨rfl, rfl⟩ := place c x hx
    decide +kernel
  all_goals decide +kernel
/-- StepKeepsBounds: full queues, tables at their bounds; and a lawful pass, at the end of its lifetime. -/
theorem witness_step_keeps_bounds :
    let c : ConfirmEntry := { handle := 0, owner := none, deadline := 0, withdrawn := false }
    let s : State := { asking 0x01#8 [] with
      pending := [.readStatus]
      clock := { lane.clock with minuteTimer := 599999 }
      air := { lane.air with credit := 16, confirm := List.replicate 16 c } }
    let l : State := { onePass with pending := [.lifetimeDeadlineExpiry 31] }
    (s.lane.bounded ∧ s.air.bounded ∧ s.tablesBounded) ∧ step s = .next (after (step s)) ∧
      l.passesLawful ∧ step l = .next (after (step l)) := by
  unfold LanePort.bounded AirPort.bounded State.tablesBounded
  exact ⟨by decide +kernel, rfl, witness_passes_lawful.1, rfl⟩

/-- StepKeepsKeyLaws: the part of the tests, with its three keys, at HOLD entry. -/
theorem witness_step_keeps_key_laws :
    let s := { lane with pending := [.supplyFail] }
    s.keysLawful ∧ step s = .next (after (step s)) := by
  refine ⟨⟨⟨?_, ?_, ?_, ?_⟩, ?_, ?_⟩, rfl⟩
  · unfold Slot.lawful
    decide +kernel
  · unfold Slot.distinct
    decide +kernel
  · decide +kernel
  · intro g h
    refine ⟨127, ?_⟩
    obtain rfl : g = 2#4 := by simpa [lane] using h.symm
    decide +kernel
  · intro f h
    simp [lane, State.reset, Management.cleared] at h
  · intro h n h'
    simp [lane, State.reset, Management.cleared] at h'

/-- The part in INIT, the scrub of slot 0 running on engine 3, slots 17 and 127 still to be checked. -/
def checking (k : Option Key) : State :=
  { busy (scrubJob 0 true) with
    device := .init
    keys := { lane.keys with initCheck := [0, 17, 127], outstanding := some { slot := 0, forced := true, running := true } }
    cipher := { lane.cipher with
      engines := tableSet lane.cipher.engines 3
        { state := .busy k (scrubJob 0 true), closeAtEnd := false, loss := false } } }

/-- StepKeepsKeyLaws, the INIT check: the scrub of the first slot ends. -/
theorem witness_step_keeps_init_law :
    let s := { checking (some 1) with pending := [.scrubJobCompletion 3] }
    s.initLawful ∧ step s = .next (after (step s)) := by
  refine ⟨⟨by decide +kernel, by decide +kernel, by decide +kernel, by decide +kernel, fun _ =>
    ⟨by decide +kernel, by decide +kernel, by decide +kernel, ?_⟩⟩, rfl⟩
  have busy3 : ∀ e, ((checking (some 1)).engine e).job? = none ∨
      ((checking (some 1)).engine e).job? = some (scrubJob 0 true) := by decide +kernel
  rintro j (h | ⟨e, h⟩)
  · exact absurd h (by simp [checking, lane, State.reset, Cipher.cleared])
  · change ((checking (some 1)).engine e).job? = some j at h
    rcases busy3 e with h' | h' <;> rw [h] at h'
    · cases h'
    · obtain rfl := Option.some.inj h'
      exact ⟨rfl, rfl⟩

/-- R103: the INIT check goes on to slot 17 after slot 0, whether slot 0 passes or faults, and ends in MAINTENANCE. -/
theorem test_init_check_goes_on :
    let ok := firstThree (chain 1 (scrubJob 0 true).input)
    let s := (checking (some 1)).setSlot 0 { root with kcv := ok }
    let last := { s with keys := { s.keys with initCheck := [0] } }
    (after (exec (.scrubJobCompletion 3) s)).keys.initCheck = [17, 127] ∧
      ((after (exec (.scrubJobCompletion 3) (s.setSlot 0 { root with kcv := ok + 1 }))).slot 0).state = .faulted ∧
      (after (exec (.scrubJobCompletion 3) (s.setSlot 0 { root with kcv := ok + 1 }))).keys.outstanding.map Scrub.slot = some 17 ∧
      (after (exec (.scrubJobCompletion 3) last)).device = .maintenance := by decide +kernel

/-- ContextFreedOnlyWithReport: a lifetime expiry frees the context of a pass. -/
theorem witness_context_freed :
    let s := withContext { pass .keying with lifetime := 50000#32 }
    (discards (.lifetimeDeadlineExpiry 31) = false ∧
      (s.context 31).isSome = true ∧ (after (exec (.lifetimeDeadlineExpiry 31) s)).context 31 = none) ∧
      exec (.lifetimeDeadlineExpiry 31) s = .next (after (exec (.lifetimeDeadlineExpiry 31) s)) :=
  ⟨by decide +kernel, rfl⟩

/-- ContextFreedOnlyWithReport, the late end of a job: a head in DONE with 63 and with 64 reports queued, stalled and
not, and a context in DONE behind a head that is not. -/
theorem witness_late_end :
    let j := passJob .derive (.slot 17)
    let x := { pass .done with currentJob := .running .derive, result := some .abandoned, doneTick := some 50000#32 }
    let fill (n : Nat) (s : State) : State :=
      { s with lane := { s.lane with reports := List.replicate n (.upPassthrough 0 []) } }
    let s (n : Nat) := fill n (busy j (withContext x))
    let stalled := { s 64 with passes := { (s 64).passes with stalled := [31] } }
    let behind := ((s 0).setContext 30 (some (pass .keying))).setOpenList 4 [30, 31]
    ((s 63).engine 3).state = .busy (some 2) j ∧ j.kind.ofPass = true ∧ j.owner = .context 31 ∧
      (s 63).context 31 = some x ∧ x.state = .done ∧ (∀ k ∈ (s 63).cipher.queue, k.owner ≠ .context 31) ∧
      (s 63).openList x.homeZone = 31 :: [] ∧ (s 63).lane.reports.length = 63 ∧ (s 64).lane.reports.length = 64 ∧
      31 ∈ stalled.passes.stalled ∧ 31 ∉ (s 64).passes.stalled ∧
      behind.openList x.homeZone = 30 :: [31] ∧ behind.context 30 = some (pass .keying) ∧
      behind.context 31 = some x ∧ (pass .keying).state ≠ .done ∧
      (after (exec (jobRow j.kind 3) (s 63))).context 31 = none ∧
      (after (exec (jobRow j.kind 3) (s 64))).passes.stalled = [31] ∧
      (after (exec (jobRow j.kind 3) behind)).context 31 = some { x with currentJob := .idle } := by decide +kernel

/-- CreditAndSent: a CREDIT of 1 and of 16; a SENT with no entry, with no owner, and with an owner behind a step
frame, whose deadline is one tick ahead when set and is this tick, with a retry left and with none; 7 and 8 CLOSE frames
queued (the clause of every pass end). -/
theorem witness_credit_and_sent :
    let e (o : Option ContextNo) : ConfirmEntry := { handle := 255#8, owner := o, deadline := 0, withdrawn := false }
    let x := { pass .challenging with stepFrame := some challenge }
    let s (o : Option ContextNo) := withContext x { lane with air := { lane.air with confirm := [e o] } }
    let close : DownEntry := { zone := 0, handle := 0, owner := none, body := .close 1 true }
    lane.live = true ∧ airFrameGood 0x10#8 (frame 0x10#8 [1]) = true ∧ airFrameGood 0x10#8 (frame 0x10#8 [16]) = true ∧
      airFrameGood 0x11#8 (frame 0x11#8 [255, 255]) = true ∧ lane.air.awaiting 255#8 = none ∧
      (s none).air.awaiting 255#8 = some (e none) ∧ (s (some 31)).air.awaiting 255#8 = some (e (some 31)) ∧
      (s (some 31)).context 31 = some x ∧ x.stepFrame = some challenge ∧ x.retriesLeft = 0 ∧
      0 < ({ x with retriesLeft := 1 } : Context).retriesLeft ∧ x.profile.replyTimeout = 30 ∧
      [29#8, 30#8].map (fun a => expired (lane.clock.laneTime - a.setWidth 32 + BitVec.ofNat 32 30) lane.clock.laneTime)
        = [false, true] ∧
      [7, 8].map (fun n => ({ lane.air with queue := List.replicate n close } : AirPort).sharedCount) = [7, 8] := by
  decide +kernel

/-- R76, R46: the step of a SENT whose deadline has expired already queues the next copy. -/
theorem test_sent_expired_at_once :
    let c : ConfirmEntry := { handle := 255#8, owner := some 31, deadline := 0, withdrawn := false }
    let s := withContext { pass .challenging with stepFrame := some challenge, retriesLeft := 1 }
      { lane with air := { lane.air with confirm := [c] } }
    let t := after (exec (.sent (frame 0x11#8 [255, 30])) s)
    t.air.queue.length = 1 ∧ (t.context 31).map Context.retriesLeft = some 0 ∧
      t.nextDue ≠ some (.stepDeadlineExpiry 31) := by decide +kernel

/-- UplinkFramesCheckedAndForwarded: the four clauses, at a fill of 55 and of 56. -/
theorem witness_uplink :
    let f := frame 0x20#8 [0, 1]
    let bad : PortFrame := { f with crcHigh := f.crcLow, crcLow := f.crcHigh }
    let held := frame 0x03#8 [7, 1, 0xFF, 0xFF, 0, 0, 0, 0, 0, 1, 0, 0, 1, 1, 2, 3, 4]
    let full (n : Nat) : State :=
      { lane with lane := { lane.lane with reports := List.replicate n (.upPassthrough 0 []) } }
    uplinkFrame (.other 0x20#8 f) = some (0x20#8, f) ∧ (device .hold).live = false ∧
      (device .init).live = true ∧ 0x20#8 ∉ [0x10#8, 0x11#8, 0x12#8] ∧
      airFrameGood 0x20#8 bad = false ∧ airFrameGood 0x20#8 f = true ∧ namedUplinkCode 0x20#8 = false ∧
      airFrameGood 0x03#8 held = true ∧ BitVec.ofNat 16 (field held.payload 2 2) = 0xFFFF#16 ∧
      (full 55).lane.reports.length = 55 ∧ (full 56).lane.reports.length = 56 := by decide +kernel

/-- HandleChoice: a full queue and a full confirmation list. -/
theorem witness_handle_choice :
    let a : AirPort := { AirPort.cleared with
      nextHandle := 255#8
      queue := List.replicate 40 { zone := 0, handle := 255#8, owner := none, body := .close 1 true }
      confirm := List.replicate 16 { handle := 0, owner := none, deadline := 0, withdrawn := false } }
    a.queue.length ≤ 40 ∧ a.confirm.length ≤ 16 ∧ a.chosenHandle = 1#8 := by decide +kernel

/-- FailedSendRetriesOrEnds: an entry without owner, an owner with a retry left and with none, a handle not awaited,
and a deadline one tick away. -/
theorem witness_failed_send :
    let e (o : Option ContextNo) : ConfirmEntry := { handle := 5#8, owner := o, deadline := 50000#32, withdrawn := false }
    let x (k : Nat) := { pass .writing with stepFrame := some challenge, retriesLeft := k }
    let s (k : Nat) (o : Option ContextNo) := withContext (x k) { lane with air := { lane.air with confirm := [e o] } }
    let early : State := { s 1 none with clock := { lane.clock with laneTime := 49999#32 } }
    lane.live = true ∧ airFrameGood 0x12#8 (frame 0x12#8 [5]) = true ∧ (s 1 none).air.awaiting 5#8 = some (e none) ∧
      (s 1 (some 31)).context 31 = some (x 1) ∧ (s 0 (some 31)).context 31 = some (x 0) ∧ (x 1).stepFrame = some challenge ∧
      expired (e none).deadline lane.clock.laneTime = true ∧ lane.air.awaiting 5#8 = none ∧
      2 ^ 31 ≤ (early.clock.laneTime - (e none).deadline).toNat := by decide +kernel

/-- DownlinkSendAndFrameOut: a send that can start with the last place of the confirmation list free, the four
refusals, and a frame in transmission. -/
theorem witness_downlink_send :
    let e : DownEntry := { zone := 0, handle := 0, owner := none, body := .close 1 true }
    let c : ConfirmEntry := { handle := 0, owner := none, deadline := 0, withdrawn := false }
    let s : State := { lane with air := { lane.air with queue := [e], credit := 1, confirm := List.replicate 15 c } }
    let x : AirSend := { entry := e, withdrawn := true, wire := e.wire }
    s.live = true ∧ s.air.queue = e :: [] ∧ s.air.tx = none ∧ 0 < s.air.credit ∧ s.air.confirm.length < 16 ∧
      lane.air.queue = [] ∧ lane.air.credit = 0 ∧
      ({ s with air := { s.air with tx := some x } } : State).air.tx = some x ∧
      16 ≤ ({ s with air := { s.air with confirm := List.replicate 16 c } } : State).air.confirm.length := by
  decide +kernel

/-- A frame with its own length and CRC passes the checks of the lane port. -/
theorem lane_frame_good (cls : Byte) (p : List Byte) (h : p.length ≤ 120) : laneFrameGood cls (frame cls p) = true := by
  simp [laneFrameGood, laneLengthGood, frame, carriedCrc_split]
  omega

/-- DownPassthroughAdmission: the last zone, the longest body, the last place of both quotas, and each refusal at its
first value. -/
theorem witness_down_passthrough :
    let t : DownEntry := { zone := 0, handle := 0, owner := none, body := .passthrough [] }
    let c : DownEntry := { t with body := .close 1 true }
    let s (k m : Nat) : State := { lane with air := { lane.air with queue := List.replicate k t ++ List.replicate m c } }
    let good := frame 0x11#8 (7 :: List.replicate 96 1)
    (laneFrameGood 0x11#8 good = true ∧ laneFrameGood 0x11#8 (frame 0x11#8 (0 :: List.replicate 97 1)) = true) ∧
      (s 3 4).live = true ∧ good.payload = 7 :: List.replicate 96 1 ∧ (List.replicate 96 1#8).length ≤ 96 ∧
      (s 3 4).air.queue.countP (fun e => e.body.isPassthrough) = 3 ∧
      (s 3 4).air.queue.countP (fun e => e.body.isShared) = 7 ∧
      (s 4 0).air.queue.countP (fun e => e.body.isPassthrough) = 4 ∧
      (s 3 5).air.queue.countP (fun e => e.body.isShared) = 8 ∧
      laneFrameGood 0x11#8 (frame 0x11#8 []) = true ∧ laneFrameGood 0x11#8 (frame 0x11#8 [8]) = true ∧
      97 < (frame 0x11#8 (0 :: List.replicate 97 1)).payload.length :=
  ⟨⟨lane_frame_good _ _ (by decide), lane_frame_good _ _ (by decide)⟩, by decide +kernel⟩

/-- VerdictTable: the counter distances at the ends of each range. -/
theorem witness_verdict :
    [(0x000010#24, 0), (0x000011#24, 1), (0x000012#24, 2), (0x80000F#24, 2 ^ 23 - 1), (0x800010#24, 2 ^ 23),
      (0x00000F#24, 2 ^ 24 - 1)].all
        (fun r : Counter × Nat => r.2 = (r.1.toNat + 2 ^ 24 - (0x000010#24).toNat) % 2 ^ 24) = true := by decide +kernel

/-! #### HELLO, DATA and COMMIT -/

/-- The HELLO of the tests, as it arrives. -/
def helloFrame : PortFrame :=
  frame 0x01#8 [4, 140, 0x01, 0x42, 0, 0, 0, 0x2B, 0x11, 0xF0, 3, 0xFF, 0xFF, 0xFF, 1, 2, 3, 4, 5, 6, 7, 8, 4]

/-- HelloOpensKeying: a usable slot 17, a miss, and a hit with the tag's key cached. -/
theorem witness_hello_opens_keying :
    let h := helloOf helloFrame.payload
    let k : CacheEntry := { issuer := 0x0142#16, generation := 3, tagNumber := 0x2B11F0#48, tagKey := 6 }
    lane.live = true ∧ lane.device = .service ∧ airFrameGood 0x01#8 helloFrame = true ∧ h.issuer ≠ 0xFFFF#16 ∧
      lane.contextOf h.issuer h.tagNumber = none ∧ (lane.zone h.zone).function ≠ .closed ∧
      lane.freeContext = some 0 ∧
      verdictOf (lane.ageRecent.recent.find? (RecentEntry.isFor h.issuer h.tagNumber)) h.counter = .fresh false ∧
      lane.findSlot .tagMaster h.issuer h.generation = some 17 ∧ lane.usable 17 = true ∧
      lane.cache.find? (CacheEntry.isFor h.issuer h.generation h.tagNumber) = none ∧
      ({ lane with cache := [k] } : State).cache.find? (CacheEntry.isFor h.issuer h.generation h.tagNumber) = some k := by
  decide +kernel

/-- HelloJoinsOrIsTurnedAway: a context that holds the tag, open and DONE; no context, in MAINTENANCE, at a CLOSED
zone, with no FREE context, and on a REPEAT. -/
theorem witness_hello_joins :
    let h := helloOf helloFrame.payload
    let closed : State := { lane with profile := LaneProfile.defaults }
    let full : State := { lane with passes := { lane.passes with
      contexts := Vector.replicate 32 (some { pass .keying with tagNumber := 1 }) } }
    let repeats : State := { lane with recent :=
      [{ issuer := 0x0142#16, tagNumber := 0x2B11F0#48, expected := 0xFFFFFF#24, uncertain := false, tick := 50000#32 }] }
    lane.live = true ∧ lane.device ≠ .init ∧ airFrameGood 0x01#8 helloFrame = true ∧ h.issuer ≠ 0xFFFF#16 ∧
      (withContext (pass .keying)).contextOf h.issuer h.tagNumber = some 31 ∧
      (withContext (pass .done)).context 31 = some (pass .done) ∧
      (∃ y ∈ (pass .keying).zoneList, y.zone = h.zone) ∧
      (∀ y ∈ ({ pass .keying with zoneList := [{ zone := 5, rssi := 1 }] } : Context).zoneList, y.zone ≠ h.zone) ∧
      (device .maintenance).contextOf h.issuer h.tagNumber = none ∧ (closed.zone h.zone).function = .closed ∧
      (∀ c, full.context c ≠ none) ∧ full.contextOf h.issuer h.tagNumber = none ∧ (∃ c, repeats.context c = none) ∧
      verdictOf (repeats.ageRecent.recent.find? (RecentEntry.isFor h.issuer h.tagNumber)) h.counter = .repeated := by
  decide +kernel

/-- HelloOpensDone: a REPLAY one behind the expected counter, and a FRESH tag whose issuer has no slot; with 7 and 8
CLOSE frames queued. -/
theorem witness_hello_opens_done :
    let h := helloOf helloFrame.payload
    let replays : State := { lane with recent :=
      [{ issuer := 0x0142#16, tagNumber := 0x2B11F0#48, expected := 0#24, uncertain := false, tick := 50000#32 }] }
    let e : DownEntry := { zone := 0, handle := 0, owner := none, body := .close 1 true }
    let bare (n : Nat) : State := { lane with
      keys := KeyStore.powerOn, air := { lane.air with queue := List.replicate n e } }
    verdictOf (replays.ageRecent.recent.find? (RecentEntry.isFor h.issuer h.tagNumber)) h.counter = .replay ∧
      replays.freeContext = some 0 ∧ (bare 7).findSlot .tagMaster h.issuer h.generation = none ∧
      verdictOf ((bare 7).ageRecent.recent.find? (RecentEntry.isFor h.issuer h.tagNumber)) h.counter = .fresh false ∧
      (bare 7).live = true ∧ (bare 7).device = .service ∧ ((bare 7).zone h.zone).function ≠ .closed ∧
      (bare 7).contextOf h.issuer h.tagNumber = none ∧ (bare 7).freeContext = some 0 ∧
      (bare 7).air.sharedCount = 7 ∧ (bare 8).air.sharedCount = 8 ∧
      ∀ x ∈ (bare 8).air.queue, x.owner ≠ some 0 := by decide +kernel

/-- The DATA of the tests with n records, as it arrives. -/
def dataFrame (n : Nat) : PortFrame :=
  frame 0x02#8 ([4, 140, 0x01, 0x42, 0, 0, 0, 0x2B, 0x11, 0xF0, 0xFF, 0xFF, 0xFF] ++ List.replicate (16 * n) 1 ++ [1, 2, 3, 4])

/-- DataIsTaken: one record where one was asked, and two. -/
theorem witness_data_is_taken :
    let s := withContext (pass .challenging)
    let d := dataOf (dataFrame 1).payload
    s.live = true ∧ s.device ≠ .init ∧ airFrameGood 0x02#8 (dataFrame 1) = true ∧ airFrameGood 0x02#8 (dataFrame 2) = true ∧
      d.issuer ≠ 0xFFFF#16 ∧ s.contextOf d.issuer d.tagNumber = some 31 ∧ s.context 31 = some (pass .challenging) ∧
      d.records.length = setSize (pass .challenging).requestedSet ∧ d.counter = (pass .challenging).counter ∧
      (dataOf (dataFrame 2).payload).records.length ≠ setSize (pass .challenging).requestedSet := by decide +kernel

/-- The COMMIT of the tests with a new counter's last byte, as it arrives. -/
def commitFrame (n : Byte) : PortFrame :=
  frame 0x03#8 [4, 140, 0x01, 0x42, 0, 0, 0, 0x2B, 0x11, 0xF0, 0, 0, n, 1, 2, 3, 4]

/-- CommitIsTaken: the counter after 0xFFFFFF, which is 0, and another. -/
theorem witness_commit_is_taken :
    let s := withContext (pass .writing)
    let m := commitOf (commitFrame 0).payload
    s.live = true ∧ s.device ≠ .init ∧ airFrameGood 0x03#8 (commitFrame 0) = true ∧ m.issuer ≠ 0xFFFF#16 ∧
      s.contextOf m.issuer m.tagNumber = some 31 ∧ s.context 31 = some (pass .writing) ∧
      m.newCounter = (pass .writing).counter + 1 ∧
      (commitOf (commitFrame 1).payload).newCounter ≠ (pass .writing).counter + 1 := by decide +kernel

/-- Strays: no context holds the tag, in MAINTENANCE and in SERVICE; a context that does not wait for the frame. -/
theorem witness_strays :
    let issuer := BitVec.ofNat 16 (field (dataFrame 1).payload 2 2)
    let tag := BitVec.ofNat 48 (field (dataFrame 1).payload 4 6)
    issuer ≠ 0xFFFF#16 ∧ (device .maintenance).live = true ∧ (device .maintenance).contextOf issuer tag = none ∧
      lane.contextOf issuer tag = none ∧ (withContext (pass .writing)).contextOf issuer tag = some 31 ∧
      (pass .writing).state ≠ .challenging := by decide +kernel

/-! #### Completions -/

/-- The hypotheses the completions of a context's job share. -/
def completing (x : Context) (j : Job) : State :=
  busy j (withContext x)

/-- DeriveAndSessionCompletion: the bound slot ACTIVE, RETIRING and neither; a cache with 63 other entries, with 64,
and with 64 of which one has the key. -/
theorem witness_derive_and_session :
    let d := passJob .derive (.slot 17)
    let n := passJob .session (.tk 31)
    (completing (pass .keying) d).runs 3 2 d ∧ (completing (pass .keying) n).runs 3 2 n ∧ d.owner = .context 31 ∧
      (completing (pass .keying) d).context 31 = some (pass .keying) ∧ (lane.slot 17).serves = true ∧
      (pass .keying).boundSlot = some 17 ∧
      ((after (exec .retire (asking 0x16#8 [17]))).slot 17).serves = true ∧ (lane.slot 18).serves = false ∧
      (let e (n : Nat) : CacheEntry := { issuer := 7, generation := 1, tagNumber := BitVec.ofNat 48 n, tagKey := 0 }
       let own : CacheEntry := { issuer := 0x0142#16, generation := 3#4, tagNumber := 0x0000002B11F0#48, tagKey := 8 }
       let f (l : List CacheEntry) :=
         (after (exec (.deriveJobCompletion 3) { completing (pass .keying) d with cache := l })).cache.drop 1
       f ((List.range 63).map e) = (List.range 63).map e ∧ f ((List.range 64).map e) = (List.range 63).map e ∧
         f ((List.range 63).map e ++ [own]) = (List.range 63).map e) := by
  unfold State.runs
  decide +kernel

/-- ChallengeAndWriteAreQueued. -/
theorem witness_challenge_and_write :
    let r := passJob .ra (.sk 31)
    let w := passJob .wa (.sk 31)
    (completing (pass .keying) r).runs 3 2 r ∧ (completing (pass .checking) w).runs 3 2 w ∧
      (completing (pass .checking) w).context 31 = some (pass .checking) := by
  unfold State.runs
  decide +kernel

/-- TaCompletion: a mismatch; an ENTRY pass under generation 2; an EXIT pass with an ENTRY record of generation 2; a
VERIFY pass that asked for record 0 alone; a write generation of NONE; record 1 not requested, not an ENTRY record, and
under no slot. -/
theorem witness_ta :
    let t := passJob .ta (.sk 31)
    let ta := firstFour (chain 2 t.input)
    let rec1 := 0x0210000F443406020201000000000000#128
    let x (f : ZoneFunction) (set : RecordSet) (l : List Block) (a : Auth) :=
      { pass .checking with profile := { lane.zone 4 with function := f }, requestedSet := set, held := some (l, a) }
    (completing (x .entry 1 [1] ta) t).runs 3 2 t ∧ firstFour (chain 2 t.input) ≠ ta + 1 ∧
      (completing (x .entry 1 [1] ta) t).context 31 = some (x .entry 1 [1] ta) ∧
      (x .entry 1 [1] ta).recordsRead = none ∧ lane.keys.writeGen = some 2#4 ∧
      (completing (x .entry 1 [1] ta) t).findSlot .record 0 2#4 = some 127 ∧
      ({ x .exit 3 [1, rec1] ta with recordsRead := some [1, rec1] } : Context).recordRead 1 = some rec1 ∧
      blockByte rec1 9 = 1 ∧ lane.checkSlot (blockByte rec1 8) = some 127 ∧
      (x .verify 1 [1] ta).requestedSet.getLsbD 1 = false ∧ (lane.setWriteGen none).keys.writeGen = none ∧
      ({ x .exit 1 [1] ta with recordsRead := some [1] } : Context).recordRead 1 = none ∧
      ({ x .exit 3 [1, 0] ta with recordsRead := some [1, 0] } : Context).recordRead 1 = some 0 ∧ blockByte 0 9 ≠ 1 ∧
      (State.setSlot lane 127 Slot.empty).checkSlot (blockByte rec1 8) = none ∧
      (x .verify 3 [1, rec1] ta).requestedSet.getLsbD 1 = true := by
  unfold State.runs
  decide +kernel

/-- RecordCodeCompute: the write generation unchanged, and changed to NONE; a result that is discarded. -/
theorem witness_record_code_compute :
    let j := passJob .recordCompute (.slot 127)
    let r := 0x0210000F443406020201000000000000#128
    let x := { pass .checking with tripRecord := some r }
    let s := completing x j
    s.runs 3 2 j ∧ s.context 31 = some x ∧ x.state = .checking ∧ (blockByte r 8).toNat = (2#4).toNat ∧
      s.keys.writeGen = some 2#4 ∧ (s.setWriteGen none).runs 3 2 j ∧ (s.setWriteGen none).keys.writeGen ≠ some 2#4 ∧
      ((completing x { j with discard := true }).engine 3).state = .busy (some 2) { j with discard := true } := by
  unfold State.runs
  decide +kernel

/-- RecordCodeVerify: a code that is equal, one that differs, and a result that is discarded. -/
theorem witness_record_code_verify :
    let j := passJob .recordVerify (.slot 127)
    let r := (firstFour (chain 2 j.input)).setWidth 128
    let x (r : Block) := { pass .checking with requestedSet := 3#4, recordsRead := some [0, r] }
    ((completing (x r) j).engine 3).state = .busy (some 2) j ∧ (x r).recordRead 1 = some r ∧
      recordCode r = firstFour (chain 2 j.input) ∧ recordCode (r + 1) ≠ firstFour (chain 2 j.input) ∧
      ({ j with discard := true } : Job).discard = true ∧ (completing (x r) j).context 31 = some (x r) ∧
      ({ x r with profile := { lane.zone 4 with function := .verify } } : Context).profile.function = .verify ∧
      ({ x r with profile := { lane.zone 4 with function := .exit } } : Context).profile.function = .exit := by
  decide +kernel

/-- CaCompletion: a CA that is equal and one that is not. -/
theorem witness_ca :
    let j := passJob .ca (.sk 31)
    let ca := firstFour (chain 2 j.input)
    let x (ca : Auth) := { pass .confirming with heldCa := some ca }
    (completing (x ca) j).runs 3 2 j ∧ (completing (x ca) j).context 31 = some (x ca) ∧
      firstFour (chain 2 j.input) ≠ ca + 1 ∧ (x ca).profile.function ≠ .verify := by
  unfold State.runs
  decide +kernel

/-! #### Deadlines, engines and the key store -/

/-- StepDeadlineExpires: a deadline at this tick with one retry left and with none; one a tick away. -/
theorem witness_step_deadline :
    let x (d : Tick) (k : Nat) :=
      { pass .challenging with stepDeadline := some d, retriesLeft := k, stepFrame := some challenge }
    (withContext (x 50000#32 1)).context 31 = some (x 50000#32 1) ∧ expired 50000#32 lane.clock.laneTime = true ∧
      0 < (x 50000#32 1).retriesLeft ∧ (x 50000#32 0).retriesLeft = 0 ∧
      expired 50001#32 lane.clock.laneTime = false := by decide +kernel

/-- LifetimeAndRecentPassAge: a lifetime at this tick and one a tick away, in each kind of state; the frame of the
context in transmission is withdrawn. -/
theorem witness_lifetime :
    let x (st : PassState) (d : Tick) := { pass st with lifetime := d }
    let e : DownEntry := { zone := 4, handle := 5, owner := some 31, body := .step challenge }
    let s : State := withContext (x .keying 50000#32) { lane with air := { lane.air with
      tx := some { entry := e, withdrawn := false, wire := e.wire } } }
    ((after (exec (.lifetimeDeadlineExpiry 31) s)).air.tx.map fun y => y.entry.owner) = some none ∧
      (withContext (x .confirming 50000#32)).context 31 = some (x .confirming 50000#32) ∧
      expired (x .writing 50000#32).lifetime lane.clock.laneTime = true ∧ (x .checking 50000#32).state ≠ .done ∧
      (x .done 50000#32).state = .done ∧ expired (x .keying 50001#32).lifetime lane.clock.laneTime = false := by
  decide +kernel

/-- OpeningCompletes: the loss mark clear and set; a slot without its material and a job that stands on this engine
alone; its owner in DONE, in CHECKING and elsewhere; a scrub; an UNWRAP of a load in hand. -/
theorem witness_opening :
    let s (loss : Bool) (j : Job) (s : State) := s.setEngine 3
      { state := .opening (some 2) j, closeAtEnd := true, loss }
    let j := passJob .recordVerify (.slot 126)
    let u := freshJob .unwrap .management (.slot 0) [0] [9]
    let l : State := { lane with mgmt :=
      { inHand := some { tag := 9, code := 0x14, work := .keyLoadB 9 }, held := none, candidate := none
        twoPart := .load { slot := 52, role := 1, issuer := 1, generation := 1, flags := 0, validFrom := 0
                           validUntil := 1, kcv := 0 } } }
    ((s false j lane).engine 3).state = .opening (some 2) j ∧ ((s false j lane).engine 3).loss = false ∧
      ((s true j lane).engine 3).state = .opening (some 2) j ∧ ((s true j lane).engine 3).loss = true ∧
      (∀ d, d ≠ 3 → ((s true j lane).engine d).job? ≠ some j) ∧ (s true j lane).cipher.queue = [] ∧
      (lane.slot 126).holdsMaterial = false ∧ (∀ m ∈ lane.keys.initCheck, (lane.slot m).holdsMaterial = true) ∧
      (∀ m ∈ (checking none).keys.initCheck, ((checking none).slot m).holdsMaterial = true) ∧ j.owner = .context 31 ∧ j.kind.ofPass = true ∧
      (s true j (withContext (pass .done))).context 31 = some (pass .done) ∧
      (s true j (withContext (pass .checking))).context 31 = some (pass .checking) ∧
      (passJob .recordCompute (.slot 126)).kind.ofPass = true ∧ (pass .keying).state ≠ .done ∧
      (pass .keying).state ≠ .checking ∧ (scrubJob 126 false).key = .slot 126 ∧
      ((s true u l).engine 3).state = .opening (some 2) u ∧
      (s true u l).mgmt.inHand = some { tag := 9, code := 0x14, work := .keyLoadB 9 } ∧
      (s true u l).lane.responses.length < 8 ∧
      ((after (exec (.openCompletion 3) (s true j (withContext (pass .checking))))).engine 3).state = .closedIdle := by
  decide +kernel

/-- ArbiterChoosesAndCountsBypasses: a job that ends under a key that stays open, under a candidate, and under the key
of a context that its end releases; a forced scrub chosen behind a job at the bypass limit, with a scrub outstanding;
at an arrival an engine with the key open, the lowest closed one, the least recently used one, and none. -/
theorem witness_arbiter :
    let a := { passJob .session (.tk 7) with bypass := 4 }
    let s : State := { lane with
      keys := { lane.keys with outstanding := some { slot := 0, forced := true, running := false } }
      cipher := { lane.cipher with queue := [a, scrubJob 0 true] } }
    let ends (j : Job) (s : State) := (after (exec (jobRow j.kind 3) (busy j s))).engine 3
    s.choice 2 = some 1 ∧ s.cipher.queue[1]? = some (scrubJob 0 true) ∧ s.keys.outstanding.isSome = true ∧
      lane.choice 2 = none ∧
      (ends (passJob .derive (.slot 17)) lane).state = .openIdle (.slot 17) (some 2) ∧
      (ends (passJob .session (.tk 31)) (withContext (pass .done))).state = .closedIdle ∧
      (withContext (pass .done)).context 31 ≠ none ∧
      (after (exec (.sessionJobCompletion 3) (busy (passJob .session (.tk 31)) (withContext (pass .done))))).context 31 = none ∧
      (ends (freshJob .kcv .management .loadCandidate [0]) lane).state = .closedIdle ∧
      (∀ d, d ≠ 3 → ((busy (passJob .derive (.slot 17))).engine d).job? ≠ some (passJob .derive (.slot 17))) ∧
      (let j := scrubJob 127 false
       let idle (k : SlotNo) : Engine := { state := .openIdle (.slot k) (some 2), closeAtEnd := false, loss := false }
       let work : Engine := { state := .busy (some 2) a, closeAtEnd := false, loss := false }
       let s (v : Engine) (l : List EngineNo) : State :=
         { lane with cipher := { queue := [], lastUse := l, engines := Vector.replicate 4 v } }
       ((s (idle 1) [2, 3, 0, 1]).setEngine 2 (idle 127)).idleEngineFor j = some 2 ∧
         lane.idleEngineFor j = some 0 ∧ (s (idle 1) [2, 3, 0, 1]).idleEngineFor j = some 2 ∧
         ((s (idle 1) [2, 3, 0, 1]).setEngine 2 work).idleEngineFor j = some 3 ∧
         (s work [2, 3, 0, 1]).idleEngineFor j = none ∧ ∀ d, d ∈ (s work [2, 3, 0, 1]).cipher.lastUse) := by
  decide +kernel

/-- ScrubJudgesSlot: a result equal to the stored KCV, one that differs, one discarded, and one for a slot that is erase
pending; in INIT with the slot at the head of the list and outside INIT; a fault with a bound pass, a record-code job
queued under the slot, an engine idle under it, and an UNWRAP queued under slot 0. -/
theorem witness_scrub :
    let j := scrubJob 127 false
    let good := { record with kcv := firstThree (chain 2 j.input) }
    let s (x : Slot) (j : Job) := (busy j).setSlot 127 x
    let c := passJob .recordCompute (.slot 127)
    let bad := (withContext { pass .checking with currentJob := .queued .recordCompute } (s record j)).setJobs [c]
    let m := busy (scrubJob 17 false) (withContext (pass .keying))
    let u := (pendingPart (.load (load 0)) (busy (scrubJob 0 false))).setJobs
      [freshJob .unwrap .management (.slot 0) [0] [9]]
    let u := { u with mgmt := { u.mgmt with inHand := some { tag := 9, code := 0x14, work := .keyLoadB 9 } } }
    let i := { s good j with device := .init, keys := { (s good j).keys with initCheck := [127] } }
    ((s good j).engine 3).state = .busy (some 2) j ∧ ((s good j).slot 127).holdsMaterial = true ∧
      firstThree (chain 2 j.input) = ((s good j).slot 127).kcv ∧
      firstThree (chain 2 j.input) ≠ ((s record j).slot 127).kcv ∧ 127 ∉ (s record j).keys.initCheck.drop 1 ∧
      (s record j).mgmt.twoPart = .idle ∧ ({ j with discard := true } : Job).discard = true ∧
      ({ record with erasePending := true } : Slot).holdsMaterial = false ∧
      i.keys.initCheck = 127 :: [] ∧ 127 ∉ i.keys.initCheck.drop 1 ∧
      (∃ k ∈ bad.cipher.queue, k.key = .slot 127 ∧ k.owner = .context 31) ∧ (bad.slot 127).role = some .record ∧
      firstThree (chain 2 (scrubJob 17 false).input) ≠ (m.slot 17).kcv ∧ (pass .keying).boundSlot = some 17 ∧
      (∃ k ∈ u.cipher.queue, k.key = .slot 0 ∧ k.owner = .management) ∧
      firstThree (chain 2 (scrubJob 0 false).input) ≠ (u.slot 0).kcv ∧
      (let t := after (exec (.scrubJobCompletion 3) bad)
       t.keys.writeGen = none ∧ (t.slot 127).state = .faulted ∧ t.lane.reports.length = 1) ∧
      (after (exec (.scrubJobCompletion 3) m)).lane.reports.length = 1 ∧
      (after (exec (.scrubJobCompletion 3) u)).mgmt = Management.cleared ∧
      (after (exec (.scrubJobCompletion 3) i)).device = .maintenance := by decide +kernel

/-- OverdueForcesScrub: the first overdue tick, with no scrub outstanding, with one queued and with one running. -/
theorem witness_overdue :
    let s (o : Option Scrub) : State := { lane with
      clock := { lane.clock with laneTime := 601000#32 }, keys := { lane.keys with outstanding := o } }
    (s none).working = true ∧ (s none).overdue 127 = true ∧ (s none).keys.outstanding = none ∧
      ∀ r, (s (some { slot := 0, forced := false, running := r })).overdue 127 = true := by decide +kernel

/-- CalendarWalks: an advance that is due below and at the last minute, and a SET-CALENDAR; slots that expire with the
write generation, with cached keys, and with an engine idle and one at work under them. -/
theorem witness_calendar :
    let due (m : Minute) : State := { lane with clock := { lane.clock with minute := m, advanceDue := true } }
    let s := asking 0x08#8 [0xFF, 0xFF, 0xFF, 0xFF]
    (due 0xFFFFFFFE#32).clock.advanceDue = true ∧ (due 0xFFFFFFFE#32).clock.minute ≠ 0xFFFFFFFF#32 ∧
      (due 0xFFFFFFFF#32).clock.minute = 0xFFFFFFFF#32 ∧
      s.takes (asked 0x08#8 [0xFF, 0xFF, 0xFF, 0xFF]) [] ∧ s.unhindered ∧ s.lane.responses.length < 7 ∧
      ((due 0xFFFFFFFE#32).slot 17).state = .active ∧
      ((after (exec .calendarAdvance (due 1999999#32))).slot 17).state = .expired ∧
      (∀ n, n = 17 ∨ n = 127 → lane.expiresAt 2000000#32 n) ∧ ¬lane.expiresAt 1999999#32 17 ∧
      (lane.slot 127).role = some .record ∧ lane.keys.writeGen = some (lane.slot 127).generation ∧
      (lane.slot 17).role = some .tagMaster ∧
      (let open17 : Engine := { state := .openIdle (.slot 17) (some 2), closeAtEnd := false, loss := false }
       let t := after (exec .calendarAdvance (busy (scrubJob 127 false) ((due 1999999#32).setEngine 0 open17)))
       open17.key? = some (.slot 17) ∧ open17.isIdle = true ∧ t.engine 0 = Engine.closed ∧
         (t.engine 3).closeAtEnd = true ∧ t.keys.writeGen = none) := by
  unfold State.takes State.unhindered State.expiresAt
  decide +kernel

/-- UnwrapAndKcvCompletion: an UNWRAP with its result and discarded; a KCV that is equal, one that differs, and one
whose root is gone. -/
theorem witness_unwrap_and_kcv :
    let u := freshJob .unwrap .management (.slot 0) [0] [9]
    let k := freshJob .kcv .management .loadCandidate [0]
    let s (j : Job) (v : Kcv) : State := { busy j with mgmt :=
      { inHand := some { tag := 9, code := 0x14, work := .keyLoadB 9 }, held := none, twoPart := .load (load v)
        candidate := some 8 } }
    let v := firstThree (chain 2 k.input)
    ((s u v).engine 3).state = .busy (some 2) u ∧ u.owner = .management ∧ (s u v).mgmt.twoPart = .load (load v) ∧
      (load v).slot ≠ 0 ∧ (s u v).mgmt.inHand = some { tag := 9, code := 0x14, work := .keyLoadB 9 } ∧ u.extra = [9] ∧
      u.discard = false ∧ ({ u with discard := true } : Job).discard = true ∧
      ((s k v).engine 3).state = .busy (some 2) k ∧ (s k v).mgmt.candidate = some 8 ∧ (s k v).lane.responses.length < 7 ∧
      ((s k v).slot 0).isActive = true ∧ firstThree (chain 2 k.input) = (load v).kcv ∧
      firstThree (chain 2 k.input) ≠ (load (v + 1)).kcv ∧
      (((s k v).setSlot 0 { root with erasePending := true }).slot 0).isActive = false := by decide +kernel

/-- CombineCompletion: a KCV that is equal and one that is not. -/
theorem witness_combine :
    let j := freshJob .combine .management .rootCandidate [0] [1, 3]
    let v := firstThree (chain 2 j.input)
    let s (v : Kcv) : State := { busy j with mgmt := { lane.mgmt with
      inHand := some { tag := 9, code := 0x11, work := .rootPart2 v }, twoPart := .root 1 } }
    (s v).runs 3 2 j ∧ j.owner = .management ∧ j.extra = [1, 3] ∧
      (s v).mgmt.inHand = some { tag := 9, code := 0x11, work := .rootPart2 v } ∧ (s v).lane.responses.length < 7 ∧
      firstThree (chain 2 j.input) ≠ v + 1 := by
  unfold State.runs
  decide +kernel

/-! #### Requests -/

/-- OrderStateAndUnknownCodes: a root pending, a load pending, nothing pending in SERVICE and in INIT, and a code that
names no request. -/
theorem witness_order_and_state :
    let r := pendingPart (.root 1) (asking 0x01#8 [])
    let l := pendingPart (.load (load 0)) (asking 0x14#8 [53])
    r.takes (asked 0x01#8 []) [] ∧ r.mgmt.twoPart = .root 1 ∧ l.takes (asked 0x14#8 [53]) [] ∧
      l.mgmt.twoPart = .load (load 0) ∧ (byteAt [53#8] 0).toNat ≠ (load 0).slot.val ∧
      (asking 0x11#8 []).takes (asked 0x11#8 []) [] ∧ (asking 0x11#8 []).mgmt.twoPart = .idle ∧
      (asking 0x1A#8 [] (device .init)).takes (asked 0x1A#8 []) [] ∧ requestLength 0x1A#8 ≠ none ∧
      requestLength 0x0A#8 = none := by
  unfold State.takes
  decide +kernel

/-- ReadStatusReports, with the root code of each state slot 0 takes; ReadCountersReports; ReadSlotReports at the first
slot number there is not. -/
theorem witness_status_requests :
    let s := asking 0x01#8 []
    s.takes (asked 0x01#8 []) [] ∧ s.mgmt.twoPart = .idle ∧ (s.slot 0).state = .active ∧
      ((s.setSlot 0 Slot.empty).slot 0).state = .empty ∧
      ((s.setSlot 0 { root with state := .faulted, material := none }).slot 0).state = .faulted ∧
      (asking 0x02#8 []).takes (asked 0x02#8 []) [] ∧ (asking 0x02#8 []).unhindered ∧
      (asking 0x19#8 [128]).takes (asked 0x19#8 [128]) [] ∧ 127 < (byteAt [128#8] 0).toNat ∧
      (byteAt [127#8] 0).toNat = (127 : SlotNo).val ∧ (lane.slot 127).state ≠ .empty ∧ (lane.slot 126).state = .empty := by
  unfold State.takes State.unhindered
  decide +kernel

/-- ClearEventsAndAlertMask: the greatest mask of the thirteen and the least beyond them. -/
theorem witness_masks :
    (asking 0x03#8 [0x1F, 0xFF]).takes (asked 0x03#8 [0x1F, 0xFF]) [] ∧ (asking 0x03#8 [0x1F, 0xFF]).unhindered ∧
      field (asked 0x03#8 [0x1F, 0xFF]).params 0 2 = 2 ^ 13 - 1 ∧
      (asking 0x04#8 [0x20, 0]).takes (asked 0x04#8 [0x20, 0]) [] ∧ field (asked 0x04#8 [0x20, 0]).params 0 2 = 2 ^ 13 := by
  unfold State.takes State.unhindered
  decide +kernel

/-- SetProfileWritesNamedFields: INIT, zone 8, function 5, and zone 7 with function 4. -/
theorem witness_set_profile :
    let p (z f : Byte) : List Byte := [z, 63, f, 0, 0, 16, 0, 4, 8]
    (asking 0x05#8 (p 7 4) (device .init)).takes (asked 0x05#8 (p 7 4)) [] ∧ (device .init).device = .init ∧
      (asking 0x05#8 (p 8 4)).takes (asked 0x05#8 (p 8 4)) [] ∧ (asking 0x05#8 (p 8 4)).mgmt.twoPart = .idle ∧
      7 < (setProfileOf (p 8 4)).zone.toNat ∧
      (asking 0x05#8 (p 7 5)).takes (asked 0x05#8 (p 7 5)) [] ∧ (setProfileOf (p 7 5)).mask.getLsbD 0 = true ∧
      4 < (setProfileOf (p 7 5)).function.toNat ∧ (asking 0x05#8 (p 7 4)).takes (asked 0x05#8 (p 7 4)) [] ∧
      (setProfileOf (p 7 4)).zone.toNat = (7 : ZoneNo).val ∧ (setProfileOf (p 7 4)).function.toNat ≤ 4 := by
  unfold State.takes
  decide +kernel

/-- SetTimingWritesNamedFields: INIT, and SERVICE with the three fields just outside their ranges; there an entry that
is aged under the new window, and a slot that is overdue under the new period and was not before. -/
theorem witness_set_timing :
    let p : List Byte := [7, 0x27, 0x11, 0, 0]
    (asking 0x06#8 p (device .init)).takes (asked 0x06#8 p) [] ∧ (asking 0x06#8 p).takes (asked 0x06#8 p) [] ∧
      (asking 0x06#8 p).mgmt.twoPart = .idle ∧ (asking 0x06#8 p).device ≠ .init ∧
      (setTimingOf p).passLimit = 10001 ∧
      (let x : RecentEntry := { issuer := 1, tagNumber := 2, expected := 3, uncertain := false, tick := 40000#32 }
       let s : State := asking 0x06#8 p { lane with recent := [x, { x with tick := 40001#32 }] }
       let t := after (exec .setTiming s)
       s.takes (asked 0x06#8 p) [] ∧ (∀ n, s.overdue n = false) ∧ t.overdue 127 = true ∧ s.keys.outstanding = none ∧
         t.recent = [{ x with tick := 40001#32 }] ∧
         t.keys.outstanding = some { slot := 0, forced := true, running := true }) := by
  unfold State.takes
  decide +kernel

/-- SetServiceMoves: on with the calendar set and unset, off in both states, and a byte that is neither; an off that
has a background scrub issued, the pointer past the last slot and on it, and one behind a job of a context. -/
theorem witness_set_service :
    let unset : State := { device .maintenance with clock := Clock.powerOn }
    (asking 0x07#8 [1]).takes (asked 0x07#8 [1]) [] ∧ (asking 0x07#8 [1]).unhindered ∧
      (asking 0x07#8 [1] unset).takes (asked 0x07#8 [1]) [] ∧ unset.clock.calendarSet = false ∧
      (asking 0x07#8 [0] (device .maintenance)).takes (asked 0x07#8 [0]) [] ∧
      (asking 0x07#8 [2]).takes (asked 0x07#8 [2]) [] ∧ byteAt [2#8] 0 ≠ 1#8 ∧
      (let s (p : SlotNo) (l : List Job) : State := (asking 0x07#8 [0] { lane with
         keys := { lane.keys with scrubPointer := p } }).setJobs l
       let u (p : SlotNo) (l : List Job) := (after (exec .setService (s p l))).keys
       (s 18 []).takes (asked 0x07#8 [0]) [] ∧ (s 18 []).unhindered ∧ (∀ n, (s 18 []).overdue n = false) ∧
         (u 18 []).scrubPointer = 0 ∧ (u 0 []).scrubPointer = 1 ∧
         (u 18 []).outstanding = some { slot := 127, forced := false, running := true } ∧
         (u 18 [passJob .derive (.slot 17)]).outstanding = none) := by
  unfold State.takes State.unhindered
  decide +kernel

/-- RootPart1AndLockRoot: SERVICE; MAINTENANCE with slot 0 ACTIVE and EMPTY. -/
theorem witness_root_requests :
    let m := asking 0x10#8 [] (device .maintenance)
    let l := asking 0x12#8 []
    (asking 0x10#8 []).takes (asked 0x10#8 []) [] ∧ (asking 0x10#8 []).device = .service ∧ m.takes (asked 0x10#8 []) [] ∧
      m.unhindered ∧ m.device = .maintenance ∧ (m.slot 0).state ≠ .empty ∧ ((m.setSlot 0 Slot.empty).slot 0).state = .empty ∧
      l.takes (asked 0x12#8 []) [] ∧ (l.slot 0).state = .active ∧ (l.slot 0).erasePending = false ∧
      ((l.setSlot 0 Slot.empty).slot 0).state ≠ .active := by
  unfold State.takes State.unhindered
  decide +kernel

/-- PartnersIssueJobs: a root pending; a load pending of the slot named, with the root ACTIVE and erase pending. -/
theorem witness_partners :
    let r := pendingPart (.root 1) (asking 0x11#8 [])
    let l := pendingPart (.load (load 0)) (asking 0x14#8 [52])
    r.takes (asked 0x11#8 []) [] ∧ r.device ≠ .init ∧ r.mgmt.twoPart = .root 1 ∧ l.takes (asked 0x14#8 [52]) [] ∧
      l.mgmt.twoPart = .load (load 0) ∧ (byteAt [52#8] 0).toNat = (load 0).slot.val ∧ (l.slot 0).isActive = true ∧
      ((l.setSlot 0 { root with erasePending := true }).slot 0).isActive = false := by
  unfold State.takes
  decide +kernel

/-- The parameters of a KEY-LOAD-A of slot n, generation g, with its valid-until's last byte. -/
def loadParams (n g u : Byte) : List Byte :=
  [n, 1, 0x01, 0x42, g, 3, 0, 0, 0, 1, 0, 0, 0, u, 1, 2, 3]

/-- KeyLoadAClaimsSlot: slots 0 and 128, a slot in use, a window of no minute, the issuer and generation of slot 17, a
part without its root, and a load that is accepted. -/
theorem witness_key_load_a :
    let s (p : List Byte) := asking 0x13#8 p
    (s (loadParams 1 4 2)).takes (asked 0x13#8 (loadParams 1 4 2)) [] ∧ (s (loadParams 1 4 2)).unhindered ∧
      (keyLoadAOf (loadParams 0 4 2)).slot = 0 ∧ 127 < (keyLoadAOf (loadParams 128 4 2)).slot.toNat ∧
      (keyLoadAOf (loadParams 127 4 2)).slot.toNat = (127 : SlotNo).val ∧ (lane.slot 127).state ≠ .empty ∧
      (lane.slot 1).state = .empty ∧ ¬(keyLoadAOf (loadParams 1 4 1)).consistent ∧
      (keyLoadAOf (loadParams 1 4 2)).consistent ∧ (keyLoadAOf (loadParams 1 3 2)).consistent ∧
      (lane.slot 17).state ≠ .empty ∧ (lane.slot 17).role = some .tagMaster ∧
      (lane.slot 17).issuer = (keyLoadAOf (loadParams 1 3 2)).issuer ∧
      (lane.slot 17).generation.toNat = (keyLoadAOf (loadParams 1 3 2)).generation.toNat ∧
      (∀ m, (lane.slot m).state ≠ .empty → (lane.slot m).role = some .tagMaster →
        (lane.slot m).issuer = (keyLoadAOf (loadParams 1 4 2)).issuer →
        (lane.slot m).generation.toNat ≠ (keyLoadAOf (loadParams 1 4 2)).generation.toNat) ∧
      (lane.slot 0).isActive = true ∧ ((lane.setSlot 0 Slot.empty).slot 0).isActive = false := by
  unfold State.takes State.unhindered KeyLoadA.consistent
  repeat' apply And.intro
  all_goals decide +kernel

/-- ActivateAndRetire: slots 0 and 128; a STAGED slot before, inside and past its window, an ACTIVE slot, and a
calendar unset. -/
theorem witness_activate_and_retire :
    let staged (f u : Minute) := { record with state := .staged, validFrom := f, validUntil := u }
    let s (f u : Minute) := (asking 0x15#8 [127]).setSlot 127 (staged f u)
    let now := lane.clock.minute
    (asking 0x15#8 [128]).takes (asked 0x15#8 [128]) [] ∧ 127 < (byteAt [128#8] 0).toNat ∧
      (s now (now + 1)).takes (asked 0x15#8 [127]) [] ∧ (s now (now + 1)).unhindered ∧
      (byteAt [127#8] 0).toNat = (127 : SlotNo).val ∧ ((s now (now + 1)).slot 127).erasePending = false ∧
      ((s now (now + 1)).slot 127).state = .staged ∧ (lane.slot 127).state ≠ .staged ∧
      Clock.powerOn.calendarSet = false ∧ now < (staged now (now + 1)).validUntil ∧ (staged now now).validUntil ≤ now ∧
      now < (staged (now + 1) 0xFFFFFFFF#32).validFrom ∧
      (asking 0x16#8 [127]).takes (asked 0x16#8 [127]) [] ∧ (lane.slot 127).state = .active := by
  unfold State.takes State.unhindered
  decide +kernel

/-- EraseRule: a record-code job that waits under the slot; slot 128, an EMPTY slot, a locked root, a key no engine
holds and one an engine holds; an erase in hand with its key free and held; a context bound to slot 17, an engine
idle, opening and at work under it, and no job waiting. -/
theorem witness_erase :
    let s (b : Byte) := asking 0x17#8 [b]
    let locked := { s 0 with keys := { lane.keys with rootLock := true } }
    let inHand (s : State) : State := { s with mgmt := { s.mgmt with
      inHand := some { tag := 9, code := 0x17, work := .erase 127 } } }
    (s 128).takes (asked 0x17#8 [128]) [] ∧ (s 128).unhindered ∧ (s 126).takes (asked 0x17#8 [126]) [] ∧
      ((s 126).slot 126).state = .empty ∧ locked.takes (asked 0x17#8 [0]) [] ∧ locked.keys.rootLock = true ∧
      (locked.slot 0).state ≠ .empty ∧ (s 127).takes (asked 0x17#8 [127]) [] ∧ ((s 127).slot 127).role = some .record ∧
      (s 127).keys.writeGen = some ((s 127).slot 127).generation ∧ ((s 17).slot 17).role = some .tagMaster ∧
      (inHand lane).mgmt.inHand = some { tag := 9, code := 0x17, work := .erase 127 } ∧
      (∀ e, ((inHand lane).engine e).key? ≠ some (.slot 127)) ∧
      (∃ e, ((inHand (busy (scrubJob 127 false))).engine e).key? = some (.slot 127)) ∧
      (let x (k : EngineState) : Engine := { state := k, closeAtEnd := false, loss := false }
       let j := passJob .derive (.slot 17)
       let u := (((withContext (pass .keying) (s 17)).setEngine 0 (x (.openIdle (.slot 17) none))).setEngine 1
         (x (.opening none j))).setEngine 2 (x (.busy none j))
       u.context 31 = some (pass .keying) ∧ (pass .keying).boundSlot = some 17 ∧ (pass .keying).jobQueued = false ∧
         u.cipher.queue = [] ∧ (u.engine 0).openIdleUnder (.slot 17) = true ∧
         (let v := (withContext { pass .checking with currentJob := .queued .recordCompute } (s 127)).setJobs
            [passJob .recordCompute (.slot 127)]
          (∃ k ∈ v.cipher.queue, k.key = .slot 127 ∧ k.owner = .context 31) ∧
            (after (exec .erase v)).lane.reports.length = 1 ∧ (after (exec .erase v)).keys.writeGen = none) ∧
         (let t := after (exec .erase u)
          t.engine 0 = Engine.closed ∧ (t.engine 1).loss = true ∧ (t.engine 2).closeAtEnd = true ∧
            t.lane.reports.length = 1)) := by
  unfold State.takes State.unhindered
  decide +kernel

/-- SelectWriteGenRule: NONE, the generation of slot 127, one that no slot has, and the bytes 16 and 254. -/
theorem witness_select_write_gen :
    let s (b : Byte) := asking 0x18#8 [b]
    (s 0xFF).takes (asked 0x18#8 [0xFF]) [] ∧ (s 0xFF).unhindered ∧ (s 2).findSlot .record 0 2#4 = some 127 ∧
      ((s 2).slot 127).isActive = true ∧ (s 15).findSlot .record 0 15#4 = none ∧ 16 ≤ (16#8).toNat ∧ 254#8 ≠ 0xFF#8 := by
  unfold State.takes State.unhindered
  decide +kernel

/-- ReportsHideMaterial: two parts that differ in the material of slot 17, at READ-STATUS. -/
theorem witness_reports_hide_material :
    let s := asking 0x01#8 []
    let v := tableSet s.keys.slots 17 { master with material := some 99 }
    let s' := { s with keys := { s.keys with slots := v } }
    ((∀ n, { tableGet v n with material := none } = { s.slot n with material := none }) ∧ v ≠ s.keys.slots) ∧
      exec .readStatus s = .next (after (exec .readStatus s)) ∧
      exec .readStatus s' = .next (after (exec .readStatus s')) :=
  ⟨by decide +kernel, rfl, rfl⟩

/-! #### Wipe, HOLD, resets, lines and the lane port -/

/-- WipeRule: the line in HOLD with RESET asserted and outside held reset; the request, with 6 and with 7 responses
queued where an alert goes too; a CLOSE and a passthrough in transmission. -/
theorem witness_wipe :
    (device .hold).device = .hold ∧ lane.lines.reset = false ∧ (asking 0x1A#8 []).device ≠ .init ∧
      (asking 0x1A#8 []).takes (asked 0x1A#8 []) [] ∧ (asking 0x1A#8 []).lane.responses.length < 7 ∧
      (let full (n : Nat) : State := { asking 0x1A#8 [] with
         events := { Events.cleared with alertMask := 0x1FFF }
         lane := { (asking 0x1A#8 []).lane with responses := List.replicate n (.alert 0 0) } }
       let send (b : DownBody) : AirSend :=
         { entry := { zone := 0, handle := 0, owner := none, body := b }, withdrawn := false, wire := [] }
       let sending (b : DownBody) : State := { lane with air := { lane.air with tx := some (send b) } }
       (full 7).takes (asked 0x1A#8 []) [] ∧ (full 7).events.selected Event.zeroised.number = true ∧
         [6, 7].map (fun n => (after (exec .zeroise (full n))).mgmt.held.isSome) = [false, true] ∧
         (after (exec .zeroiseLine (sending (.close 1 true)))).air.tx = none ∧
         (after (exec .zeroiseLine (sending (.passthrough [])))).air.tx = (sending (.passthrough [])).air.tx) := by
  unfold State.takes
  decide +kernel

/-- HoldEntry: SUPPLY-FAIL in INIT, and in HOLD, where it takes the HOLD response, and the HOLD request; slots that
are kept and slots that are not. -/
theorem witness_hold_entry :
    (device .init).lines.supplyFail = false ∧ (device .init).device ≠ .hold ∧ (asking 0x09#8 []).unhindered ∧
      (asking 0x09#8 []).takes (asked 0x09#8 []) [] ∧ (lane.slot 17).erasePending = false ∧
      (lane.slot 17).retain = true ∧ (lane.slot 17).state ≠ .partLoaded ∧ (lane.slot 127).retain = false ∧
      ((after (exec .supplyFail lane)).slot 17).state = .active ∧ (after (exec .supplyFail lane)).keys.writeGen = none ∧
      (let h := after (exec .hold (asking 0x09#8 []))
       h.device = .hold ∧ h.lines.supplyFail = false ∧ h.lane.responses.length = 1 ∧
         (after (exec .supplyFail h)).lane.responses = []) := by
  unfold State.takes State.unhindered
  decide +kernel

/-- HoldExit: WAKE and SUPPLY-FAIL's deassertion, each the change that completes the pair; with material and
without; with RESET asserted, whose deassertion then enters INIT. -/
theorem witness_hold_exit :
    let h := device .hold
    let f : State := { h with lines := { h.lines with supplyFail := true, wake := true } }
    h.device = .hold ∧ h.lines.reset = false ∧ h.lines.zeroiseLatched = 0 ∧ h.lines.wake = false ∧
      h.lines.supplyFail = false ∧ f.lines.supplyFail = true ∧ f.lines.wake = true ∧
      (h.slot 0).holdsMaterial = true ∧ (∀ m, m < 0 → (h.slot m).holdsMaterial = false) ∧
      (∀ n, (State.slot { h with keys := KeyStore.powerOn } n).holdsMaterial = false) ∧
      (let r : State := { h with lines := { h.lines with reset := true } }
       r.device = .hold ∧ r.lines.reset = true ∧ (after (exec .wake r)).heldInReset = true ∧
         (after (exec .resetDeasserted (after (exec .wake r)))).device = .init) := by decide +kernel

/-- LineLevels, LaneResetRule and PowerOnReset: each level of the lines their clauses name, and a slot of each kind
that a lane reset empties or keeps. -/
theorem witness_lines :
    let r (k : Nat) : State := { device .init with lines := { lane.lines with reset := true, zeroiseLatched := k } }
    let p := lane.setSlot 1 { record with state := .partLoaded, material := none, generation := 9 }
    lane.device ≠ .hold ∧ lane.lines.supplyFail = false ∧ lane.lines.wake = false ∧ (device .hold).device = .hold ∧
      (after (exec .laneReset (device .hold))).lines.reset = true ∧
      lane.lines.reset = false ∧ (p.slot 1).state = .partLoaded ∧ (p.slot 17).state ≠ .partLoaded ∧
      (p.slot 17).erasePending = false ∧ (r 0).lines.reset = true ∧ (r 0).lines.zeroiseLatched = 0 ∧
      0 < (r 1).lines.zeroiseLatched ∧ (r 0).device ≠ .hold ∧
      allSlots.filter (fun n => ((r 0).slot n).holdsMaterial) = [0, 17, 127] ∧
      ({ lane with lines := { lane.lines with supplyFail := true } } : State).lines.supplyFail = true := by decide +kernel

/-- LaneFramesArrive: a bad CRC, an outgoing class, no tag; a good REQUEST with 3 and with 4 waiting; a wrong shape; 7
and 8 responses queued. -/
theorem witness_lane_frames :
    let f := frame 0x12#8 [9, 1]
    laneFrameOf (.request f) = some (0x12#8, f) ∧ (device .hold).live = false ∧ lane.live = true ∧
      laneFrameGood 0x12#8 { f with crcLow := f.crcLow + 1 } = false ∧ 0x01#8 ∉ [0x11#8, 0x12#8] ∧
      laneFrameGood 0x12#8 (frame 0x12#8 []) = true ∧ laneFrameGood 0x12#8 f = true ∧ f.payload = 9 :: [1] ∧
      requestShapeGood f.payload = true ∧ requestShapeGood [9, 1, 0] = false ∧ requestShapeGood [9] = false ∧
      (asking 1 []).lane.requests.length < 4 ∧ (List.replicate 4 (asked 1 [])).length = 4 ∧
      (List.replicate 8 (Answer.alert 0 0)).length = 8 := by decide +kernel

/-- LaneSendRule: a response first, with a held one behind it; a report, with a context stalled and an engine idle under
its session key and one at work under its tag key; and nothing to send. -/
theorem witness_lane_send :
    let l : State := { lane with lines := { lane.lines with lrdy := true } }
    let resp : Response := { tag := 9, code := 1, status := .ok, attention := false, keyChange := false, data := [] }
    let s : State := { l with lane := { l.lane with responses := [.alert 0 0] }, mgmt := { l.mgmt with held := some resp } }
    let x := { pass .done with result := some .complete, doneTick := some 50000#32 }
    let w := withContext x { l with lane := { l.lane with reports := List.replicate 64 (.upPassthrough 0 []) } }
    let w : State := { w with passes := { w.passes with stalled := [31] } }
    s.lines.lrdy = true ∧ s.lane.tx = none ∧ s.heldInReset = false ∧ s.lane.responses = .alert 0 0 :: [] ∧
      s.mgmt.held = some resp ∧ l.mgmt.held = none ∧ w.lane.responses = [] ∧
      w.lane.reports = .upPassthrough 0 [] :: List.replicate 63 (.upPassthrough 0 []) ∧ w.passes.stalled = 31 :: [] ∧
      w.context 31 = some x ∧ x.jobRunning = false ∧ w.openList x.homeZone = 31 :: (w.openList x.homeZone).drop 1 ∧
      lane.lines.lrdy = false ∧ l.lane.responses = [] ∧ l.lane.reports = [] ∧
      (let e (k : EngineState) : Engine := { state := k, closeAtEnd := false, loss := false }
       let v := (w.setEngine 0 (e (.openIdle (.sk 31) none))).setEngine 1 (e (.busy none (passJob .session (.tk 31))))
       let t := after (exec .laneSendStart v)
       (v.engine 0).key? = some (.sk 31) ∧ (v.engine 0).isIdle = true ∧ (v.engine 1).key? = some (.tk 31) ∧
         (v.engine 1).isIdle = false ∧ t.context 31 = none ∧ t.engine 0 = Engine.closed ∧
         (t.engine 1).closeAtEnd = true) := by decide +kernel

end Sys2Proof.Tests
end

section
/-! SUPPORT. What each operation of the air port does to the copies a context has outstanding, to the owners of its
frames, and to its bounds (R4 to R17, R44). -/

namespace Sys2Proof.Machine

/-! ### Copies and owners of frames -/

/-- The frames of context c at the air port: queued, in transmission, or awaiting confirmation. -/
def AirPort.copies (a : AirPort) (c : ContextNo) : Nat :=
  a.queue.countP (fun e => ownedBy c e.owner) + (if a.tx.any (fun t => ownedBy c t.entry.owner) then 1 else 0) +
    a.confirm.countP (fun e => ownedBy c e.owner)

/-- A queued frame has an owner exactly when it is a step frame, a CLOSE or passthrough in transmission has none. -/
def AirPort.owned (a : AirPort) : Prop :=
  (∀ e ∈ a.queue, e.owner = none ↔ e.body.isShared = true) ∧
    ∀ t, a.tx = some t → t.entry.body.isShared = true → t.entry.owner = none

@[simp] theorem ownedBy_none (c : ContextNo) : ownedBy c none = false := rfl

theorem ownedBy_iff (c : ContextNo) (o : Option ContextNo) : ownedBy c o = true ↔ o = some c := by
  simp [ownedBy]

theorem ownedBy_some (c d : ContextNo) : ownedBy c (some d) = decide (d = c) := by
  rw [Bool.eq_iff_iff, ownedBy_iff]
  simp

/-- A context has no copy outstanding exactly when it owns no frame. -/
theorem AirPort.copies_eq_zero {a : AirPort} {c : ContextNo} : a.copies c = 0 ↔ a.disowned c := by
  have htx : (if a.tx.any (fun t => ownedBy c t.entry.owner) then 1 else 0) = 0 ↔
      ∀ t, a.tx = some t → t.entry.owner ≠ some c := by
    cases a.tx <;> simp [ownedBy]
  unfold AirPort.copies AirPort.disowned
  rw [Nat.add_eq_zero_iff, Nat.add_eq_zero_iff, htx, List.countP_eq_zero, List.countP_eq_zero]
  simp only [ownedBy_iff, and_assoc, ne_eq]

/-! ### Withdrawal (R15) -/

theorem AirPort.copies_withdraw_self (a : AirPort) (c : ContextNo) : (a.withdraw c).copies c = 0 :=
  AirPort.copies_eq_zero.mpr (a.withdraw_disowned c)

/-- A withdrawal takes no frame of another context. -/
theorem AirPort.copies_withdraw_ne (a : AirPort) {c d : ContextNo} (h : d ≠ c) :
    (a.withdraw c).copies d = a.copies d := by
  have hne : ∀ o, ownedBy c o = true → ownedBy d o = false := by
    intro o ho
    rw [ownedBy_iff] at ho
    rw [ho, ownedBy_some, decide_eq_false fun e => h e.symm]
  have hq : (a.withdraw c).queue.countP (fun e => ownedBy d e.owner) =
      a.queue.countP fun e => ownedBy d e.owner := by
    simp only [AirPort.withdraw, List.countP_filter]
    refine List.countP_congr fun e _ => ?_
    cases hc : ownedBy c e.owner <;> simp [hne, hc]
  have hf : (a.withdraw c).confirm.countP (fun e => ownedBy d e.owner) =
      a.confirm.countP fun e => ownedBy d e.owner := by
    simp only [AirPort.withdraw, List.countP_map]
    refine List.countP_congr fun e _ => ?_
    cases hc : ownedBy c e.owner <;> simp [hne, hc]
  have ht : (a.withdraw c).tx.any (fun t => ownedBy d t.entry.owner) =
      a.tx.any fun t => ownedBy d t.entry.owner := by
    cases htx : a.tx with
    | none => simp [AirPort.withdraw, htx]
    | some t => cases hc : ownedBy c t.entry.owner <;> simp [AirPort.withdraw, htx, hne, hc]
  unfold AirPort.copies
  rw [hq, hf, ht]

theorem AirPort.owned_withdraw {a : AirPort} (h : a.owned) (c : ContextNo) : (a.withdraw c).owned := by
  refine ⟨fun e he => h.1 e (List.mem_of_mem_filter he), fun t ht hs => ?_⟩
  simp only [AirPort.withdraw, Option.map_eq_some_iff] at ht
  obtain ⟨u, hu, ht⟩ := ht
  split at ht
  · rw [← ht]
  · exact ht ▸ h.2 u hu (ht ▸ hs)

/-- A context that owns no frame withdraws none. -/
theorem AirPort.withdraw_of_disowned {a : AirPort} {c : ContextNo} (h : a.disowned c) : a.withdraw c = a := by
  obtain ⟨hq, ht, hf⟩ := h
  obtain ⟨credit, queue, tx, confirm, next⟩ := a
  have h1 : queue.filter (fun e => !ownedBy c e.owner) = queue :=
    List.filter_eq_self.mpr fun e he => by simpa [ownedBy] using hq e he
  have h2 : confirm.map (fun e => if ownedBy c e.owner then { e with owner := none } else e) = confirm :=
    (List.map_congr_left fun e he => by simp [ownedBy, hf e he]).trans (List.map_id confirm)
  have h3 : tx.map (fun t => if ownedBy c t.entry.owner then
      { t with entry := { t.entry with owner := none }, withdrawn := true } else t) = tx := by
    cases tx with
    | none => rfl
    | some t => simp [ownedBy, ht t rfl]
  simp only [AirPort.withdraw, h1, h2, h3]

/-- A second withdrawal finds nothing. -/
@[simp] theorem AirPort.withdraw_withdraw (a : AirPort) (c : ContextNo) : (a.withdraw c).withdraw c = a.withdraw c :=
  AirPort.withdraw_of_disowned (a.withdraw_disowned c)

theorem AirPort.bounded_withdraw {a : AirPort} (h : a.bounded) (c : ContextNo) : (a.withdraw c).bounded := by
  obtain ⟨hc, hu, hs, hp⟩ := h
  have hle : ∀ p : DownEntry → Bool, (a.withdraw c).queue.countP p ≤ a.queue.countP p := fun p =>
    List.Sublist.countP_le List.filter_sublist
  refine ⟨hc, ?_, (hle _).trans hs, (hle _).trans hp⟩
  simpa [AirPort.unconfirmed, AirPort.withdraw] using hu

/-! ### Admission (R6 to R9) -/

theorem AirPort.copies_enqueue (a : AirPort) (z : Byte) (o : Option ContextNo) (b : DownBody) (c : ContextNo) :
    (a.enqueue z o b).copies c = a.copies c + (if ownedBy c o then 1 else 0) := by
  simp only [AirPort.copies, AirPort.enqueue, List.countP_append, List.countP_singleton]
  exact (congrArg (· + _) (Nat.add_right_comm _ _ _)).trans (Nat.add_right_comm _ _ _)

theorem AirPort.owned_enqueue {a : AirPort} (h : a.owned) (z : Byte) {o : Option ContextNo} {b : DownBody}
    (hb : o = none ↔ b.isShared = true) : (a.enqueue z o b).owned := by
  refine ⟨fun e he => ?_, h.2⟩
  rcases List.mem_append.mp he with he | he
  · exact h.1 e he
  · rw [List.mem_singleton.mp he]
    exact hb

/-- A frame is admitted inside the quotas it counts against. -/
theorem AirPort.bounded_enqueue {a : AirPort} (h : a.bounded) (z : Byte) (o : Option ContextNo) {b : DownBody}
    (hs : b.isShared = true → a.sharedCount < 8) (hp : b.isPassthrough = true → a.passthroughCount < 4) :
    (a.enqueue z o b).bounded := by
  obtain ⟨h1, h2, h3, h4⟩ := h
  refine ⟨h1, h2, ?_, ?_⟩
  · rw [show (a.enqueue z o b).sharedCount = a.sharedCount + (if b.isShared then 1 else 0) by
      simp [AirPort.sharedCount, AirPort.enqueue, List.countP_append, List.countP_singleton]]
    split
    · exact hs ‹_›
    · exact h3
  · rw [show (a.enqueue z o b).passthroughCount = a.passthroughCount + (if b.isPassthrough then 1 else 0) by
      simp [AirPort.passthroughCount, AirPort.enqueue, List.countP_append, List.countP_singleton]]
    split
    · exact hp ‹_›
    · exact h4

/-! ### Sending and confirmation (R10 to R14) -/

theorem AirPort.copies_startSend {a : AirPort} (h : a.tx = none) (c : ContextNo) : a.startSend.copies c = a.copies c := by
  unfold AirPort.startSend
  split
  · rfl
  · rename_i e rest hq
    simp only [AirPort.copies, h, hq, List.countP_cons, Option.any_some, Option.any_none, Bool.false_eq_true, if_false]
    omega

theorem AirPort.owned_startSend {a : AirPort} (h : a.owned) : a.startSend.owned := by
  unfold AirPort.startSend
  split
  · exact h
  · rename_i e rest hq
    have hm : ∀ x, x ∈ e :: rest → x ∈ a.queue := fun x hx => by rw [hq]; exact hx
    refine ⟨fun x hx => h.1 x (hm x (List.mem_cons_of_mem _ hx)), fun t ht hs => ?_⟩
    obtain rfl := Option.some.inj ht
    exact (h.1 e (hm e List.mem_cons_self)).mpr hs

theorem AirPort.bounded_startSend {a : AirPort} (h : a.bounded) (hs : a.canSend = true) : a.startSend.bounded := by
  obtain ⟨h1, h2, h3, h4⟩ := h
  simp only [AirPort.canSend, Bool.and_eq_true, decide_eq_true_eq] at hs
  obtain ⟨-, hlen⟩ := hs
  unfold AirPort.startSend
  split
  · exact ⟨h1, h2, h3, h4⟩
  · rename_i e rest hq
    have hle : ∀ p : DownEntry → Bool, rest.countP p ≤ a.queue.countP p := fun p => by
      rw [hq]; exact List.Sublist.countP_le (List.sublist_cons_self _ _)
    exact ⟨(Nat.sub_le _ _).trans h1, Nat.succ_le_of_lt hlen, (hle _).trans h3, (hle _).trans h4⟩

theorem AirPort.copies_frameOut (a : AirPort) (t : Tick) (c : ContextNo) : (a.frameOut t).copies c = a.copies c := by
  unfold AirPort.frameOut
  split
  · rfl
  · rename_i x hx
    simp only [AirPort.copies, hx, List.countP_append, List.countP_singleton, Option.any_some, Option.any_none,
      Bool.false_eq_true, if_false]
    omega

theorem AirPort.owned_frameOut {a : AirPort} (h : a.owned) (t : Tick) : (a.frameOut t).owned := by
  unfold AirPort.frameOut
  split
  · exact h
  · exact ⟨h.1, fun _ ht => by cases ht⟩

theorem AirPort.bounded_frameOut {a : AirPort} (h : a.bounded) (t : Tick) : (a.frameOut t).bounded := by
  obtain ⟨h1, h2, h3, h4⟩ := h
  unfold AirPort.frameOut
  split
  · exact ⟨h1, h2, h3, h4⟩
  · rename_i x hx
    refine ⟨h1, ?_, h3, h4⟩
    simpa [AirPort.unconfirmed, hx] using h2

/-- The removal of an entry of the confirmation list takes one copy of its owner's, and no other. -/
theorem AirPort.copies_removeConfirm {a : AirPort} {e : ConfirmEntry} (he : e ∈ a.confirm) (c : ContextNo) :
    ({ a with confirm := a.confirm.erase e } : AirPort).copies c + (if ownedBy c e.owner then 1 else 0) = a.copies c := by
  have := (List.perm_cons_erase he).countP_eq fun e => ownedBy c e.owner
  rw [List.countP_cons] at this
  simp only [AirPort.copies]
  omega

theorem AirPort.bounded_removeConfirm {a : AirPort} (h : a.bounded) (e : ConfirmEntry) :
    ({ a with confirm := a.confirm.erase e } : AirPort).bounded := by
  obtain ⟨h1, h2, h3, h4⟩ := h
  refine ⟨h1, le_trans ?_ h2, h3, h4⟩
  exact Nat.add_le_add_right (List.erase_sublist).length_le _

theorem AirPort.awaiting_mem {a : AirPort} {h : Byte} {e : ConfirmEntry} (he : a.awaiting h = some e) :
    e ∈ a.confirm :=
  List.mem_of_find?_eq_some he

/-! ### Credit, wipes and resets (R4, R16, R17) -/

theorem AirPort.bounded_addCredit {a : AirPort} (h : a.bounded) (n : Nat) : (a.addCredit n).bounded :=
  ⟨Nat.min_le_left _ _, h.2⟩

/-- A wipe leaves no frame an owner. -/
theorem AirPort.copies_wiped {a : AirPort} (h : a.owned) (c : ContextNo) : a.wiped.copies c = 0 := by
  have shared : ∀ b : DownBody, b.isPassthrough = true → b.isShared = true := by
    intro b; cases b <;> simp [DownBody.isPassthrough, DownBody.isShared]
  rw [AirPort.copies_eq_zero]
  refine ⟨fun e he => ?_, fun t ht => ?_, fun e he => ?_⟩
  · obtain ⟨hm, hp⟩ := List.mem_filter.mp he
    rw [(h.1 e hm).mpr (shared _ hp)]
    simp
  · obtain ⟨hm, hp⟩ := Option.filter_eq_some_iff.mp ht
    rw [h.2 t hm (shared _ hp)]
    simp
  · obtain ⟨u, -, rfl⟩ := List.mem_map.mp he
    simp

theorem AirPort.owned_wiped {a : AirPort} (h : a.owned) : a.wiped.owned :=
  ⟨fun e he => h.1 e (List.mem_of_mem_filter he), fun t ht => h.2 t (Option.filter_eq_some_iff.mp ht).1⟩

theorem AirPort.bounded_wiped {a : AirPort} (h : a.bounded) : a.wiped.bounded := by
  obtain ⟨h1, h2, h3, h4⟩ := h
  have hle : ∀ p : DownEntry → Bool, a.wiped.queue.countP p ≤ a.queue.countP p := fun p =>
    List.Sublist.countP_le List.filter_sublist
  refine ⟨h1, le_trans ?_ h2, (hle _).trans h3, (hle _).trans h4⟩
  have : (if a.wiped.tx.isSome then 1 else 0) ≤ if a.tx.isSome then 1 else 0 := by
    cases htx : a.tx with
    | none => simp [AirPort.wiped, htx]
    | some t => simp only [Option.isSome_some, if_true]; split <;> omega
  simpa [AirPort.unconfirmed, AirPort.wiped] using this

theorem AirPort.owned_cleared : AirPort.cleared.owned := by
  simp [AirPort.owned, AirPort.cleared]

theorem AirPort.bounded_cleared : AirPort.cleared.bounded := by
  simp [AirPort.bounded, AirPort.cleared, AirPort.unconfirmed, AirPort.sharedCount, AirPort.passthroughCount]

end Sys2Proof.Machine
end

section
/-! SUPPORT. The laws of the pass table and its step frames, context by context, and what keeps them: the change of one
context, an open, a release, and a discard of every pass (R35, R36, R39, R44, R57). -/

namespace Sys2Proof.Machine

/-! ### The laws, context by context -/

/-- What the pass table knows a context by: its tag and its home zone. -/
def Context.place (x : Context) : Issuer × TagNumber × ZoneNo :=
  (x.issuer, x.tagNumber, x.homeZone)

/-- A context may own n frames: with its step deadline it has one copy outstanding at most, and none without a step
frame; a step frame stands in CHALLENGING and WRITING alone (R43, R44). -/
def Context.allows (x : Context) (n : Nat) : Prop :=
  n + (if x.stepDeadline.isSome then 1 else 0) ≤ (if x.stepFrame.isSome then 1 else 0) ∧
    (x.stepFrame.isSome = true → x.state = .challenging ∨ x.state = .writing)

theorem Context.allows_mono {x : Context} {m n : Nat} (h : x.allows n) (hm : m ≤ n) : x.allows m :=
  ⟨(Nat.add_le_add_right hm _).trans h.1, h.2⟩

/-- A context without a step frame and without a step deadline owns no frame. -/
theorem Context.allows_zero {x : Context} (hf : x.stepFrame = none) (hd : x.stepDeadline = none) : x.allows 0 := by
  simp [Context.allows, hf, hd]

/-- A context that has a frame outstanding has a step frame and no step deadline, and has it once. -/
theorem Context.allows_succ {x : Context} {n : Nat} (h : x.allows (n + 1)) :
    n = 0 ∧ x.stepFrame.isSome = true ∧ x.stepDeadline = none := by
  obtain ⟨h1, -⟩ := h
  cases hd : x.stepDeadline <;> cases hf : x.stepFrame <;> simp_all

/-- A step deadline is the copy of a step frame that a context has outstanding. -/
theorem Context.allows_deadline {x : Context} {n : Nat} (h : x.allows n) (hd : x.stepDeadline.isSome = true) :
    n = 0 ∧ x.stepFrame.isSome = true := by
  obtain ⟨h1, -⟩ := h
  cases hf : x.stepFrame <;> simp_all

/-- The frames agree with the table exactly when the air port's frames are owned as their kinds ask, a FREE context owns
none, and each context in use as many as it may. -/
theorem State.framesLawful_iff (s : State) :
    s.framesLawful ↔ s.air.owned ∧ (∀ c, s.context c = none → s.air.copies c = 0) ∧
      ∀ c x, s.context c = some x → x.allows (s.air.copies c) := by
  have hcopies : ∀ c, s.copies c = s.air.copies c + (if ((s.context c).bind Context.stepDeadline).isSome then 1 else 0) :=
    fun _ => rfl
  unfold State.framesLawful AirPort.owned Context.allows
  constructor
  · rintro ⟨hq, ht, hc, hs⟩
    refine ⟨⟨hq, ht⟩, fun c hn => ?_, fun c x hx => ⟨?_, hs c x hx⟩⟩
    · simpa [hcopies, hn] using hc c
    · simpa [hcopies, hx] using hc c
  · rintro ⟨⟨hq, ht⟩, hn, hc⟩
    refine ⟨hq, ht, fun c => ?_, fun c x hx => (hc c x hx).2⟩
    rw [hcopies]
    cases hx : s.context c with
    | none => simp [hn c hx]
    | some x => exact (hc c x hx).1

/-- The table's law rests on the places of its contexts, its open lists, and HOLD alone. -/
theorem State.tableLawful_of_places {s t : State} (h : s.tableLawful) (hd : t.device = .hold → s.device = .hold)
    (ho : t.passes.openLists = s.passes.openLists)
    (hp : ∀ c, (t.context c).map Context.place = (s.context c).map Context.place) : t.tableLawful := by
  obtain ⟨h1, h2, h3, h4⟩ := h
  have back : ∀ {c y}, t.context c = some y → ∃ x, s.context c = some x ∧ x.place = y.place := by
    intro c y hy
    have := hp c
    rw [hy] at this
    exact Option.map_eq_some_iff.mp this.symm
  have forth : ∀ {c x}, s.context c = some x → ∃ y, t.context c = some y ∧ y.place = x.place := by
    intro c x hx
    have := hp c
    rw [hx] at this
    exact Option.map_eq_some_iff.mp this
  have hl : ∀ z, t.openList z = s.openList z := fun z => by unfold State.openList; rw [ho]
  refine ⟨fun c d x y hx hy hi ht => ?_, fun z c => ?_, fun z => by rw [hl]; exact h3 z, fun hh c => ?_⟩
  · obtain ⟨x', hx', ex⟩ := back hx
    obtain ⟨y', hy', ey⟩ := back hy
    simp only [Context.place, Prod.mk.injEq] at ex ey
    exact h1 c d x' y' hx' hy' (ex.1.trans (hi.trans ey.1.symm)) (ex.2.1.trans (ht.trans ey.2.1.symm))
  · rw [hl, h2]
    constructor
    · rintro ⟨x, hx, rfl⟩
      obtain ⟨y, hy, e⟩ := forth hx
      exact ⟨y, hy, congrArg (fun p => p.2.2) e⟩
    · rintro ⟨y, hy, rfl⟩
      obtain ⟨x, hx, e⟩ := back hy
      exact ⟨x, hx, congrArg (fun p => p.2.2) e⟩
  · have := hp c
    rw [h4 (hd hh) c] at this
    exact Option.map_eq_none_iff.mp this

/-! ### What keeps the laws -/

/-- The laws of the passes stand where no place changes and each context owns no more frames than it may. -/
theorem State.passesLawful_of_places {s t : State} (h : s.passesLawful) (hd : t.device = .hold → s.device = .hold)
    (ho : t.passes.openLists = s.passes.openLists)
    (hp : ∀ c, (t.context c).map Context.place = (s.context c).map Context.place) (hw : t.air.owned)
    (hn : ∀ c, t.context c = none → t.air.copies c = 0)
    (hc : ∀ c y, t.context c = some y → y.allows (t.air.copies c)) : t.passesLawful :=
  ⟨State.tableLawful_of_places h.1 hd ho hp, (State.framesLawful_iff t).mpr ⟨hw, hn, hc⟩⟩

/-- The laws stand where the pass table stands, the frames are still owned as their kinds ask, and no context owns
more of them. -/
theorem State.passesLawful_of_air {s t : State} (h : s.passesLawful) (hd : t.device = .hold → s.device = .hold)
    (hp : t.passes = s.passes) (hw : t.air.owned) (hc : ∀ c, t.air.copies c ≤ s.air.copies c) : t.passesLawful := by
  obtain ⟨-, hn, ha⟩ := (State.framesLawful_iff s).mp h.2
  have hx : ∀ c, t.context c = s.context c := fun c => by unfold State.context; rw [hp]
  refine State.passesLawful_of_places h hd (by rw [hp]) (fun c => by rw [hx]) hw (fun c hy => ?_) fun c y hy => ?_
  · exact Nat.le_zero.mp ((hc c).trans (hn c (by rw [← hx, hy])).le)
  · exact Context.allows_mono (ha c y (by rw [← hx, hy])) (hc c)

/-- The laws stand where neither the table nor the air port has changed. -/
theorem State.passesLawful_of_eq {s t : State} (h : s.passesLawful) (hd : t.device = .hold → s.device = .hold)
    (hp : t.passes = s.passes) (ha : t.air = s.air) : t.passesLawful :=
  State.passesLawful_of_air h hd hp (by rw [ha]; exact ((State.framesLawful_iff s).mp h.2).1)
    fun c => by rw [ha]

/-- The change of one context: it keeps its place, owns no more frames than it may, and no other context owns more. -/
theorem State.passesLawful_update {s t : State} {c : ContextNo} {x y : Context} (h : s.passesLawful)
    (hx : s.context c = some x) (hd : t.device = .hold → s.device = .hold)
    (ho : t.passes.openLists = s.passes.openLists) (hy : t.context c = some y) (hpl : y.place = x.place)
    (hne : ∀ d, d ≠ c → t.context d = s.context d) (hw : t.air.owned)
    (hcn : ∀ d, d ≠ c → t.air.copies d ≤ s.air.copies d) (hcc : y.allows (t.air.copies c)) : t.passesLawful := by
  obtain ⟨-, hn, ha⟩ := (State.framesLawful_iff s).mp h.2
  refine State.passesLawful_of_places h hd ho (fun d => ?_) hw (fun d hdn => ?_) fun d w hdw => ?_
  · by_cases e : d = c
    · subst e; rw [hx, hy]; exact congrArg some hpl
    · rw [hne d e]
  · have e : d ≠ c := by rintro rfl; rw [hy] at hdn; cases hdn
    exact Nat.le_zero.mp ((hcn d e).trans (hn d (by rw [← hne d e, hdn])).le)
  · by_cases e : d = c
    · subst e; rw [hy] at hdw; exact Option.some.inj hdw ▸ hcc
    · exact Context.allows_mono (ha d w (by rw [← hne d e, hdw])) (hcn d e)

/-- Work on jobs alone keeps the laws of the passes. -/
theorem JobsOnly.passesLawful {s t : State} (h : JobsOnly s t) (hs : s.passesLawful) : t.passesLawful := by
  obtain ⟨hw, hn, ha⟩ := (State.framesLawful_iff s).mp hs.2
  have back : ∀ {c y}, t.context c = some y → ∃ x, s.context c = some x ∧ y.apart = x.apart := by
    intro c y hy
    have := h.contexts c
    rw [hy] at this
    obtain ⟨x, hx, e⟩ := Option.map_eq_some_iff.mp this.symm
    exact ⟨x, hx, e.symm⟩
  have place : ∀ x : Context, x.place = x.apart.place := fun _ => rfl
  have allows : ∀ (x : Context) n, x.allows n = x.apart.allows n := fun _ _ => rfl
  refine State.passesLawful_of_places hs (fun hh => h.device ▸ hh) h.openLists (fun c => ?_) (by rw [h.air]; exact hw)
    (fun c hc => ?_) fun c y hy => ?_
  · have := congrArg (Option.map Context.place) (h.contexts c)
    simpa [Function.comp_def, ← place] using this
  · rw [h.air]
    refine hn c ?_
    have := h.contexts c
    rw [hc] at this
    exact Option.map_eq_none_iff.mp this.symm
  · obtain ⟨x, hx, e⟩ := back hy
    rw [h.air, allows, e, ← allows]
    exact ha c x hx

/-- Every pass is discarded, and no frame has an owner. -/
theorem State.passesLawful_cleared {t : State} (hp : t.passes = PassTable.cleared) (hw : t.air.owned)
    (hc : ∀ c, t.air.copies c = 0) : t.passesLawful := by
  have hx : ∀ c, t.context c = none := fun c => by
    unfold State.context; rw [hp]; exact tableGet_replicate _ _
  have hl : ∀ z, t.openList z = [] := fun z => by
    unfold State.openList; rw [hp]; exact tableGet_replicate _ _
  refine ⟨⟨fun c d x y h => ?_, fun z c => ?_, fun z => ?_, fun _ => hx⟩,
    (State.framesLawful_iff t).mpr ⟨hw, fun c _ => hc c, fun c x h => ?_⟩⟩
  · rw [hx] at h; cases h
  · simp [hl, hx]
  · simp [hl]
  · rw [hx] at h; cases h

/-- A discard of every pass with a cleared air port (R179, R182, R183). -/
theorem State.passesLawful_discarded {t : State} (hp : t.passes = PassTable.cleared) (ha : t.air = AirPort.cleared) :
    t.passesLawful :=
  State.passesLawful_cleared hp (by rw [ha]; exact AirPort.owned_cleared) fun c => by rw [ha]; rfl

/-! ### Opens and releases (R36, R57) -/

/-- No context in use holds the tag (R39 test 1). -/
theorem State.contextOf_eq_none {s : State} {issuer : Issuer} {tag : TagNumber} (h : s.contextOf issuer tag = none)
    {c : ContextNo} {x : Context} (hx : s.context c = some x) : ¬(x.issuer = issuer ∧ x.tagNumber = tag) := by
  have := List.find?_eq_none.mp h c (List.mem_finRange c)
  simpa [hx] using this

/-- The context chosen for an open is FREE (R35). -/
theorem State.freeContext_free {s : State} {c : ContextNo} (h : s.freeContext = some c) : s.context c = none := by
  simpa using List.find?_some h

/-- An open of a FREE context with a tag that no context holds, and with no step frame, keeps the laws (R36). -/
theorem State.passesLawful_open {s : State} (h : s.passesLawful) {c : ContextNo} {x : Context}
    (hc : s.context c = none) (ht : s.contextOf x.issuer x.tagNumber = none) (hf : x.stepFrame = none)
    (hsd : x.stepDeadline = none) (hd : s.device ≠ .hold) : (s.openContext c x).passesLawful := by
  obtain ⟨⟨h1, h2, h3, h4⟩, hfr⟩ := h
  obtain ⟨hw, hn, ha⟩ := (State.framesLawful_iff s).mp hfr
  have hx : ∀ d, (s.openContext c x).context d = if d = c then some x else s.context d :=
    fun d => s.context_setContext c d _
  have hl : ∀ z, (s.openContext c x).openList z = if z = x.homeZone then s.openList z ++ [c] else s.openList z := by
    intro z
    refine (State.openList_setOpenList _ _ _ _).trans ?_
    split
    · subst_vars; rfl
    · rfl
  have hnot : ∀ z, c ∉ s.openList z := by
    intro z hm
    obtain ⟨y, hy, -⟩ := (h2 z c).mp hm
    rw [hc] at hy; cases hy
  refine ⟨⟨fun a b y w hy hz hi htg => ?_, fun z a => ?_, fun z => ?_, fun hh => absurd hh hd⟩,
    (State.framesLawful_iff _).mpr ⟨hw, fun a hna => ?_, fun a y hy => ?_⟩⟩
  · rw [hx] at hy hz
    split at hy <;> split at hz
    · subst_vars; rfl
    · obtain rfl := Option.some.inj hy
      exact absurd ⟨hi.symm, htg.symm⟩ (State.contextOf_eq_none ht hz)
    · obtain rfl := Option.some.inj hz
      exact absurd ⟨hi, htg⟩ (State.contextOf_eq_none ht hy)
    · exact h1 a b y w hy hz hi htg
  · rw [hl, hx]
    by_cases ea : a = c
    · subst ea
      rw [if_pos rfl]
      constructor
      · intro hm
        split at hm
        · exact ⟨x, rfl, (by assumption : z = x.homeZone).symm⟩
        · exact absurd hm (hnot z)
      · rintro ⟨y, hy, rfl⟩
        obtain rfl := Option.some.inj hy
        simp
    · rw [if_neg ea, ← h2 z a]
      split <;> simp [ea]
  · rw [hl]
    split
    · rw [List.nodup_append]
      exact ⟨h3 z, List.nodup_singleton c, by
        rintro a hm b hb rfl
        exact hnot z (List.mem_singleton.mp hb ▸ hm)⟩
    · exact h3 z
  · rw [hx] at hna
    split at hna
    · cases hna
    · exact hn a hna
  · rw [hx] at hy
    show y.allows (s.air.copies a)
    split at hy
    · subst_vars
      obtain rfl := Option.some.inj hy
      rw [hn _ hc]
      exact Context.allows_zero hf hsd
    · exact ha a y hy

/-- A release keeps the laws (R57). -/
theorem State.passesLawful_release {s : State} (h : s.passesLawful) {c : ContextNo} {x : Context}
    (hs : s.context c = some x) : (s.release c x).passesLawful := by
  obtain ⟨⟨h1, h2, h3, h4⟩, hfr⟩ := h
  obtain ⟨hw, hn, ha⟩ := (State.framesLawful_iff s).mp hfr
  have hx : ∀ d, (s.release c x).context d = if d = c then none else s.context d :=
    fun d => State.context_setContext _ c d none
  have hl : ∀ z, (s.release c x).openList z = if z = x.homeZone then (s.openList z).erase c else s.openList z := by
    intro z
    show (State.setOpenList _ x.homeZone _).openList z = _
    rw [State.openList_setOpenList]
    split
    · subst_vars; rfl
    · rfl
  have old : ∀ {d y}, (s.release c x).context d = some y → d ≠ c ∧ s.context d = some y := by
    intro d y hy
    rw [hx] at hy
    split at hy
    · cases hy
    · exact ⟨‹_›, hy⟩
  refine ⟨⟨fun a b y w hy hz => h1 a b y w (old hy).2 (old hz).2, fun z a => ?_, fun z => ?_, fun hh a => ?_⟩,
    (State.framesLawful_iff _).mpr ⟨AirPort.owned_withdraw hw c, fun a hna => ?_, fun a y hy => ?_⟩⟩
  · rw [hl, hx]
    by_cases ea : a = c
    · subst ea
      rw [if_pos rfl]
      simp only [reduceCtorEq, false_and, exists_false, iff_false]
      split
      · exact (h3 z).not_mem_erase
      · rename_i hz
        rw [h2]
        rintro ⟨y, hy, rfl⟩
        rw [hs] at hy
        exact hz (congrArg Context.homeZone (Option.some.inj hy)).symm
    · rw [if_neg ea, ← h2 z a]
      split
      · exact List.mem_erase_of_ne ea
      · rfl
  · rw [hl]
    split
    · exact (h3 z).erase c
    · exact h3 z
  · rw [hx]
    split
    · rfl
    · exact h4 hh a
  · show (s.air.withdraw c).copies a = 0
    by_cases ea : a = c
    · rw [ea]; exact s.air.copies_withdraw_self c
    · rw [s.air.copies_withdraw_ne ea]
      rw [hx, if_neg ea] at hna
      exact hn a hna
  · obtain ⟨ea, hy⟩ := old hy
    show y.allows ((s.air.withdraw c).copies a)
    rw [s.air.copies_withdraw_ne ea]
    exact ha a y hy

end Sys2Proof.Machine
end

section
/-! SUPPORT. What keeps the bounds of the queues, quotas and tables and the laws of the passes: the plain updates, the
work of one pass, the key store and the management unit (R4, R5, R10, R39, R44, R57, R143, R155, R160 to R162, R185). -/

namespace Sys2Proof.Machine

/-! ### The bounds of the queues, quotas and tables -/

/-- t is inside the bounds of the lane queues, the air port and the tables where s is. -/
structure KeepsBounds (s t : State) : Prop where
  lane : s.lane.bounded → t.lane.bounded
  air : s.air.bounded → t.air.bounded
  tables : s.tablesBounded → t.tablesBounded

namespace KeepsBounds

theorem trans {s t u : State} (h : KeepsBounds s t) (k : KeepsBounds t u) : KeepsBounds s u :=
  ⟨k.lane ∘ h.lane, k.air ∘ h.air, k.tables ∘ h.tables⟩

/-- An update that leaves the lane port, the tables and the minute timer. -/
theorem of_air {s t : State} (hl : t.lane = s.lane) (hc : t.cache = s.cache) (hr : t.recent = s.recent)
    (ht : t.clock.minuteTimer = s.clock.minuteTimer) (ha : s.air.bounded → t.air.bounded) : KeepsBounds s t :=
  ⟨fun h => hl ▸ h, ha, fun h => by unfold State.tablesBounded; rw [hc, hr, ht]; exact h⟩

/-- An update that leaves all that is bounded. -/
theorem of_eq {s t : State} (hl : t.lane = s.lane) (ha : t.air = s.air) (hc : t.cache = s.cache)
    (hr : t.recent = s.recent) (ht : t.clock.minuteTimer = s.clock.minuteTimer) : KeepsBounds s t :=
  of_air hl hc hr ht fun h => ha ▸ h

/-- An update of the lane port alone. -/
theorem of_lane {s t : State} (ha : t.air = s.air) (hc : t.cache = s.cache) (hr : t.recent = s.recent)
    (ht : t.clock.minuteTimer = s.clock.minuteTimer) (hl : s.lane.bounded → t.lane.bounded) : KeepsBounds s t :=
  ⟨hl, fun h => ha ▸ h, fun h => by unfold State.tablesBounded; rw [hc, hr, ht]; exact h⟩

/-- An update of the two tables alone. -/
theorem of_tables {s t : State} (hl : t.lane = s.lane) (ha : t.air = s.air)
    (ht : s.tablesBounded → t.tablesBounded) : KeepsBounds s t :=
  ⟨fun h => hl ▸ h, fun h => ha ▸ h, ht⟩

theorem refl (s : State) : KeepsBounds s s := ⟨id, id, id⟩

end KeepsBounds

/-- t is inside the bounds, and its passes are lawful, where s is and its are. -/
structure Keeps (s t : State) : Prop extends KeepsBounds s t where
  passes : s.passesLawful → t.passesLawful

namespace Keeps

theorem refl (s : State) : Keeps s s := ⟨.refl s, id⟩

theorem trans {s t u : State} (h : Keeps s t) (k : Keeps t u) : Keeps s u :=
  ⟨h.toKeepsBounds.trans k.toKeepsBounds, k.passes ∘ h.passes⟩

/-- `trans` with the later part first, which names the state between. -/
theorem after {s t u : State} (k : Keeps t u) (h : Keeps s t) : Keeps s u :=
  h.trans k

/-- An update that keeps the bounds and leaves the pass table and the air port, and enters no HOLD. -/
theorem of_bounds {s t : State} (h : KeepsBounds s t) (hp : t.passes = s.passes) (ha : t.air = s.air)
    (hd : t.device = .hold → s.device = .hold) : Keeps s t :=
  ⟨h, fun hs => State.passesLawful_of_eq hs hd hp ha⟩

/-- An update that leaves all that the bounds and the laws speak of, and enters no HOLD. -/
theorem of_eq {s t : State} (hl : t.lane = s.lane) (ha : t.air = s.air) (hc : t.cache = s.cache)
    (hr : t.recent = s.recent) (ht : t.clock.minuteTimer = s.clock.minuteTimer) (hp : t.passes = s.passes)
    (hd : t.device = .hold → s.device = .hold) : Keeps s t :=
  of_bounds (.of_eq hl ha hc hr ht) hp ha hd

end Keeps

theorem JobsOnly.keeps {s t : State} (h : JobsOnly s t) : Keeps s t :=
  ⟨.of_eq h.lane h.air h.cache h.recent (by rw [h.clock]), h.passesLawful⟩

/-! ### Events and the lane port (R160 to R162, R168) -/

theorem State.raise_keeps (s : State) (v : Event) : Keeps s (s.raise v) := by
  refine .of_bounds (.of_lane ?_ ?_ ?_ ?_ fun ⟨h1, h2, h3⟩ => ⟨?_, s.raise_responses_le v h2, ?_⟩) ?_ ?_ ?_ <;>
    simp [*]

theorem State.forward_keeps (s : State) (kind : Byte) (p : List Byte) : Keeps s (s.forward kind p) := by
  unfold State.forward
  split
  · refine .of_bounds (.of_lane rfl rfl rfl rfl fun ⟨h1, h2, _⟩ => ⟨h1, h2, ?_⟩) rfl rfl id
    simp only [List.length_append, List.length_singleton]
    omega
  · exact s.raise_keeps _

/-- A response queue with room takes one answer more. -/
theorem LanePort.bounded_answer {l : LanePort} (h : l.bounded) (hr : l.responses.length < 8) (a : Answer) :
    ({ l with responses := l.responses ++ [a] } : LanePort).bounded := by
  obtain ⟨h1, -, h3⟩ := h
  exact ⟨h1, by simp only [List.length_append, List.length_singleton]; omega, h3⟩

theorem State.sendResponse_keeps (s : State) (r : Response) : Keeps s (s.sendResponse r) := by
  unfold State.sendResponse
  split
  · exact .of_bounds (.of_lane rfl rfl rfl rfl fun h => LanePort.bounded_answer h ‹_› _) rfl rfl id
  · exact .of_eq rfl rfl rfl rfl rfl rfl id

theorem State.respond_keeps (s : State) (q : Request) (st : Status) (data : List Byte) :
    Keeps s (s.respond q st data) :=
  s.sendResponse_keeps _

theorem State.finish_keeps (s : State) (st : Status) (data : List Byte) : Keeps s (s.finish st data) := by
  unfold State.finish
  split
  · exact .refl s
  · exact Keeps.trans (t := { s with mgmt := { s.mgmt with inHand := none } })
      (.of_eq rfl rfl rfl rfl rfl rfl id) (State.sendResponse_keeps _ _)

theorem State.portAnswer_keeps (s : State) (tag code : Byte) (st : Status) : Keeps s (s.portAnswer tag code st) := by
  unfold State.portAnswer
  split
  · exact .of_bounds (.of_lane rfl rfl rfl rfl fun h => LanePort.bounded_answer h ‹_› _) rfl rfl id
  · exact s.raise_keeps _

theorem State.arriveRequest_keeps (s : State) (p : List Byte) : Keeps s (s.arriveRequest p) := by
  unfold State.arriveRequest
  split
  · exact s.raise_keeps _
  · split
    · split
      · refine .of_bounds (.of_lane rfl rfl rfl rfl fun ⟨_, h2, h3⟩ => ⟨?_, h2, h3⟩) rfl rfl id
        simp only [State.queueRequest, List.length_append, List.length_singleton]
        omega
      · exact s.portAnswer_keeps _ _ _
    · exact s.portAnswer_keeps _ _ _

/-! ### The air port's offers (R7 to R9) -/

/-- An ownerless CLOSE or passthrough that is admitted keeps the laws of the passes. -/
theorem State.passesLawful_enqueue {s : State} (h : s.passesLawful) (z : Byte) {b : DownBody}
    (hb : b.isShared = true) : ({ s with air := s.air.enqueue z none b } : State).passesLawful :=
  State.passesLawful_of_air h id rfl
    (AirPort.owned_enqueue ((State.framesLawful_iff s).mp h.2).1 z (by simp [hb]))
    fun c => (s.air.copies_enqueue z none b c).le

theorem State.offerClose_keeps (s : State) (z : ZoneNo) (tag : TagNumber) (ok : Bool) :
    Keeps s (s.offerClose z tag ok) := by
  unfold State.offerClose
  split
  · exact ⟨.of_air rfl rfl rfl rfl fun h => AirPort.bounded_enqueue h _ _ (fun _ => ‹_›) (by simp [DownBody.isPassthrough]),
      fun h => State.passesLawful_enqueue h _ rfl⟩
  · exact s.raise_keeps _

theorem State.offerPassthrough_keeps (s : State) (p : List Byte) : Keeps s (s.offerPassthrough p) := by
  unfold State.offerPassthrough
  split
  · rename_i hf
    simp only [AirPort.passthroughFits, Bool.and_eq_true, decide_eq_true_eq] at hf
    obtain ⟨⟨⟨⟨hp, hs⟩, -⟩, -⟩, -⟩ := hf
    exact ⟨.of_air rfl rfl rfl rfl fun h => AirPort.bounded_enqueue h _ _ (fun _ => hs) fun _ => hp,
      fun h => State.passesLawful_enqueue h _ rfl⟩
  · exact s.raise_keeps _

/-- A step frame that is admitted keeps the bounds (R7). -/
theorem State.queueStep_keepsBounds (s : State) (c : ContextNo) : KeepsBounds s (s.queueStep c) := by
  unfold State.queueStep
  split
  · split
    · exact .of_air rfl rfl rfl rfl fun h =>
        AirPort.bounded_enqueue h _ _ (by simp [DownBody.isShared]) (by simp [DownBody.isPassthrough])
    · exact .refl s
  · exact .refl s

/-! ### Changes of one context -/

/-- A change of the pass table alone keeps the bounds. -/
theorem State.setContext_keepsBounds (s : State) (c : ContextNo) (x : Option Context) :
    KeepsBounds s (s.setContext c x) :=
  .of_eq rfl rfl rfl rfl rfl

/-- A change of one context's record that leaves its place and its step frame's account keeps the laws. -/
theorem State.setContext_keeps {s : State} {c : ContextNo} {x y : Context} (hx : s.context c = some x)
    (hpl : y.place = x.place) (hal : ∀ n, x.allows n → y.allows n) : Keeps s (s.setContext c (some y)) := by
  refine ⟨s.setContext_keepsBounds c _, fun h => ?_⟩
  obtain ⟨hw, -, ha⟩ := (State.framesLawful_iff s).mp h.2
  exact State.passesLawful_update h hx id rfl (s.context_setContext_self c _) hpl
    (fun d hd => by rw [State.context_setContext, if_neg hd]) hw (fun _ _ => le_rfl) (hal _ (ha c x hx))

/-- A rewriting of a FREE context changes nothing. -/
theorem State.modContext_of_free {s : State} {c : ContextNo} (h : s.context c = none) (f : Context → Context) :
    s.modContext c f = s := by
  unfold State.modContext State.setContext
  rw [h, Option.map_none, ← h]
  unfold State.context
  rw [tableSet_same]

/-- A rewriting of a context in use writes it. -/
theorem State.modContext_of_some {s : State} {c : ContextNo} {x : Context} (h : s.context c = some x)
    (f : Context → Context) : s.modContext c f = s.setContext c (some (f x)) := by
  unfold State.modContext
  rw [h]
  rfl

/-- The same through a rewriting of the context, in use or FREE. -/
theorem State.modContext_keeps (s : State) (c : ContextNo) {f : Context → Context}
    (hpl : ∀ x, (f x).place = x.place) (hal : ∀ x n, x.allows n → (f x).allows n) : Keeps s (s.modContext c f) := by
  cases hx : s.context c with
  | none => rw [State.modContext_of_free hx]; exact .refl s
  | some x => rw [State.modContext_of_some hx]; exact State.setContext_keeps hx (hpl x) (hal x)

/-- A context leaves its step frame behind and withdraws all it owns: the laws stand, whatever its state (R15). -/
theorem State.passesLawful_settle {s : State} (h : s.passesLawful) {c : ContextNo} {x y : Context}
    (hx : s.context c = some x) (hpl : y.place = x.place) (hf : y.stepFrame = none) (hd : y.stepDeadline = none) :
    ((s.setContext c (some y)).withdrawFrames c).passesLawful := by
  obtain ⟨hw, -, -⟩ := (State.framesLawful_iff s).mp h.2
  refine State.passesLawful_update h hx id rfl (s.context_setContext_self c _) hpl
    (fun d hd => (s.context_setContext c d _).trans (if_neg hd)) (AirPort.owned_withdraw hw c)
    (fun d hd => (s.air.copies_withdraw_ne hd).le) ?_
  show y.allows ((s.air.withdraw c).copies c)
  rw [AirPort.copies_withdraw_self]
  exact Context.allows_zero hf hd

theorem State.withdrawFrames_keepsBounds (s : State) (c : ContextNo) : KeepsBounds s (s.withdrawFrames c) :=
  .of_air rfl rfl rfl rfl fun h => AirPort.bounded_withdraw h c

theorem State.settle_keeps {s : State} {c : ContextNo} {x y : Context} (hx : s.context c = some x)
    (hpl : y.place = x.place) (hf : y.stepFrame = none) (hd : y.stepDeadline = none) :
    Keeps s ((s.setContext c (some y)).withdrawFrames c) :=
  ⟨(s.setContext_keepsBounds c _).trans (State.withdrawFrames_keepsBounds _ c),
    fun h => State.passesLawful_settle h hx hpl hf hd⟩

/-- A context that owns no frame takes a step frame, or keeps one, with no deadline, and queues a copy (R44, R45). -/
theorem State.passesLawful_queueStep {s : State} (h : s.passesLawful) {c : ContextNo} {x y : Context}
    (hx : s.context c = some x) (h0 : s.air.copies c = 0) (hpl : y.place = x.place) (hd : y.stepDeadline = none)
    (hst : y.stepFrame.isSome = true → y.state = .challenging ∨ y.state = .writing) :
    ((s.setContext c (some y)).queueStep c).passesLawful := by
  obtain ⟨hw, -, -⟩ := (State.framesLawful_iff s).mp h.2
  have hy : (s.setContext c (some y)).context c = some y := s.context_setContext_self c _
  have hne : ∀ d, d ≠ c → (s.setContext c (some y)).context d = s.context d :=
    fun d hd => (s.context_setContext c d _).trans (if_neg hd)
  unfold State.queueStep
  rw [hy]
  dsimp only
  cases hf : y.stepFrame with
  | none =>
    refine State.passesLawful_update h hx id rfl hy hpl hne hw (fun _ _ => le_rfl) ?_
    show y.allows (s.air.copies c)
    rw [h0]
    exact Context.allows_zero hf hd
  | some f =>
    refine State.passesLawful_update (t := State.offerStep _ c y.servingZone f) h hx id rfl hy hpl hne
      (AirPort.owned_enqueue hw _ (by simp [DownBody.isShared])) (fun d hdc => ?_) ⟨?_, hst⟩
    · refine (AirPort.copies_enqueue _ _ _ _ _).le.trans ?_
      rw [ownedBy_some, decide_eq_false fun e => hdc e.symm]
      exact le_rfl
    · refine (congrArg (· + _) (AirPort.copies_enqueue _ _ _ _ _)).le.trans ?_
      show s.air.copies c + _ + _ ≤ _
      simp [h0, hd, hf, ownedBy_some]

/-! ### The tables (R143, R145, R147, R155) -/

theorem State.ageRecent_keeps (s : State) : Keeps s s.ageRecent :=
  .of_bounds (.of_tables rfl rfl fun ⟨h1, h2, h3⟩ =>
    ⟨h1, (List.dropWhile_suffix _).length_le.trans h2, h3⟩) rfl rfl id

theorem State.insertRecent_keeps (s : State) (x : RecentEntry) : Keeps s (s.insertRecent x) := by
  refine .of_bounds (.of_tables rfl rfl fun h => ?_) rfl rfl id
  obtain ⟨h1, h2, h3⟩ := s.ageRecent_keeps.tables h
  refine ⟨h1, ?_, h3⟩
  have hle : (s.ageRecent.recent.eraseP (RecentEntry.isFor x.issuer x.tagNumber)).length ≤ 256 :=
    List.eraseP_sublist.length_le.trans h2
  simp only [State.insertRecent, List.length_append, List.length_singleton]
  split
  · simp only [List.length_drop]; omega
  · omega

theorem State.handRecent_keeps (s : State) (x : Context) (r : PassResult) : Keeps s (s.handRecent x r) := by
  unfold State.handRecent
  split
  · exact s.insertRecent_keeps _
  · exact .refl s

/-- A hit moves an entry of the cache and adds none (R145). -/
theorem State.cacheHit_keeps {s : State} {x : CacheEntry} (hx : x ∈ s.cache) : Keeps s (s.cacheHit x) := by
  refine .of_bounds (.of_tables rfl rfl fun ⟨h1, h2, h3⟩ => ⟨le_trans ?_ h1, h2, h3⟩) rfl rfl id
  refine Nat.succ_le_of_lt (List.length_filter_lt_length_iff_exists.mpr ⟨x, hx, ?_⟩)
  simp [CacheEntry.isFor]

theorem State.cacheFill_keeps (s : State) (x : CacheEntry) : Keeps s (s.cacheFill x) := by
  refine .of_bounds (.of_tables rfl rfl fun ⟨h1, h2, h3⟩ => ⟨?_, h2, h3⟩) rfl rfl id
  have hle := (List.length_filter_le
    (fun y => !CacheEntry.isFor x.issuer x.generation x.tagNumber y) s.cache).trans h1
  simp only [State.cacheFill, List.length_cons]
  split
  · rw [List.length_dropLast]; omega
  · omega

theorem State.cacheOffer_keeps (s : State) (bound : Option SlotNo) (x : CacheEntry) :
    Keeps s (s.cacheOffer bound x) := by
  unfold State.cacheOffer
  split
  · split
    · exact s.cacheFill_keeps _
    · exact .refl s
  · exact .refl s

/-! ### Releases and the end of a pass (R53, R57, R58) -/

theorem State.release_keeps {s : State} {c : ContextNo} {x : Context} (hs : s.context c = some x)
    (hr : s.lane.reports.length < 64) : Keeps s (s.release c x) := by
  refine ⟨⟨fun ⟨h1, h2, _⟩ => ⟨h1, h2, ?_⟩, fun h => AirPort.bounded_withdraw h c, id⟩,
    fun h => State.passesLawful_release h hs⟩
  show (s.lane.reports ++ [_]).length ≤ 64
  simp only [List.length_append, List.length_singleton]
  omega

/-- A change of the stalled list alone keeps all. -/
theorem State.setStalled_keeps (s : State) (l : List ContextNo) :
    Keeps s { s with passes := { s.passes with stalled := l } } :=
  ⟨.of_eq rfl rfl rfl rfl rfl, fun h => h⟩

theorem State.stall_keeps (s : State) (c : ContextNo) : Keeps s (s.stall c) := by
  unfold State.stall
  split
  · exact .refl s
  · exact (s.setStalled_keeps _).trans (State.raise_keeps _ _)

theorem State.releaseHeads_keeps (k : Nat) (z : ZoneNo) (s : State) : Keeps s (s.releaseHeads k z) := by
  induction k generalizing s with
  | zero => exact .refl s
  | succ k ih =>
    unfold State.releaseHeads
    split
    · exact .refl s
    · split
      · exact .refl s
      · rename_i x hx
        split
        · split
          · exact (State.release_keeps hx ‹_›).trans (ih _)
          · exact s.stall_keeps _
        · exact .refl s

theorem State.attemptRelease_keeps (s : State) (z : ZoneNo) : Keeps s (s.attemptRelease z) :=
  State.releaseHeads_keeps _ _ _

/-- A context in use that has no step frame goes to DONE. -/
theorem State.toDone_keeps {s : State} {c : ContextNo} (hf : ∀ x, s.context c = some x → x.stepFrame = none) :
    Keeps s (s.modContext c fun y => { y with state := .done }) := by
  cases hx : s.context c with
  | none => rw [State.modContext_of_free hx]; exact .refl s
  | some x =>
    rw [State.modContext_of_some hx]
    refine State.setContext_keeps hx rfl fun n h => ⟨h.1, ?_⟩
    simp [hf x hx]

/-- The context with its result at a tick, behind no step frame (R53 step 1). -/
def Context.concluded (x : Context) (r : PassResult) (tick : Tick) : Context :=
  { x with result := some r, doneTick := some tick, stepFrame := none, stepDeadline := none }

/-- The part before the CLOSE of a pass is offered: the context has its result, owns no frame, and has no job queued
(R53 steps 1 to 3). -/
def State.concludes (s : State) (c : ContextNo) (x : Context) (r : PassResult) : State :=
  let u := (s.setContext c (some (x.concluded r s.clock.laneTime))).withdrawFrames c
  if x.jobQueued then u.dropQueuedJob c else u

/-- The end of a pass, step by step (R53). -/
theorem State.endPass_eq {s : State} {c : ContextNo} {x : Context} (hs : s.context c = some x) (r : PassResult) :
    s.endPass c r = ((((s.concludes c x r).offerClose x.servingZone x.tagNumber r.closesOk).handRecent x r).modContext c
      fun y => { y with state := .done }).attemptRelease x.homeZone := by
  unfold State.endPass
  rw [hs]
  rfl

/-- The removal of the queued job is work on jobs alone. -/
theorem State.concludes_jobsOnly (s : State) (c : ContextNo) (x : Context) (r : PassResult) :
    JobsOnly ((s.setContext c (some (x.concluded r s.clock.laneTime))).withdrawFrames c) (s.concludes c x r) := by
  unfold State.concludes
  dsimp only
  split
  · exact State.dropQueuedJob_jobsOnly _ c
  · exact .refl _

/-- The context of a pass whose CLOSE is due. -/
theorem State.concludes_context (s : State) (c : ContextNo) (x : Context) (r : PassResult) :
    ∃ j, (s.concludes c x r).context c = some { x.concluded r s.clock.laneTime with currentJob := j } :=
  (s.concludes_jobsOnly c x r).context_some (s.context_setContext_self c _)

theorem State.endPass_keeps (s : State) (c : ContextNo) (r : PassResult) : Keeps s (s.endPass c r) := by
  cases hx : s.context c with
  | none => unfold State.endPass; rw [hx]; exact .refl s
  | some x =>
    rw [State.endPass_eq hx]
    have h1 : Keeps s (s.concludes c x r) :=
      (State.settle_keeps hx (y := x.concluded r s.clock.laneTime) rfl rfl rfl).trans (s.concludes_jobsOnly c x r).keeps
    refine h1.trans (Keeps.trans (State.offerClose_keeps _ _ _ _) (Keeps.trans (State.handRecent_keeps _ _ _)
      (Keeps.trans (State.toDone_keeps fun y hy => ?_) (State.attemptRelease_keeps _ _))))
    obtain ⟨j, hj⟩ := s.concludes_context c x r
    rw [State.handRecent_context, State.offerClose_context, hj] at hy
    exact Option.some.inj hy ▸ rfl

end Sys2Proof.Machine
end

section
/-! SUPPORT. What keeps the bounds and the laws of the passes, continued: retries, the steps of a pass, the frames of a
tag, and the ends of jobs (R37 to R56). -/

namespace Sys2Proof.Machine

/-! ### Retries and step deadlines (R44 to R46, R76) -/

/-- A context that owns no frame may have no step deadline. -/
theorem Context.allows_noDeadline {x : Context} {n : Nat} (h : x.allows n) (k : Nat) :
    { x with retriesLeft := k, stepDeadline := none }.allows n := by
  obtain ⟨h1, h2⟩ := h
  exact ⟨(Nat.le_add_right _ _).trans h1, h2⟩

theorem State.retryOrEnd_keepsBounds (s : State) (c : ContextNo) : KeepsBounds s (s.retryOrEnd c) := by
  unfold State.retryOrEnd
  split
  · exact .refl s
  · split
    · exact (s.setContext_keepsBounds c _).trans (State.queueStep_keepsBounds _ c)
    · exact (s.endPass_keeps c _).toKeepsBounds

/-- A retry, or the end of a pass, of a context that owns no frame (R45). -/
theorem State.passesLawful_retryOrEnd {s : State} {c : ContextNo} (h : s.passesLawful) (h0 : s.air.copies c = 0) :
    (s.retryOrEnd c).passesLawful := by
  unfold State.retryOrEnd
  split
  · exact h
  · rename_i x hx
    split
    · refine State.passesLawful_queueStep h hx h0 rfl rfl fun hf => ?_
      exact (((State.framesLawful_iff s).mp h.2).2.2 c x hx).2 hf
    · exact (s.endPass_keeps c _).passes h

/-- A step deadline that is taken was the one copy its context had outstanding (R44, R46). -/
theorem State.expireStep_keeps (s : State) (c : ContextNo) : Keeps s (s.expireStep c) := by
  unfold State.expireStep
  split
  · rename_i d hd
    split
    · obtain ⟨x, hx, hxd⟩ := Option.bind_eq_some_iff.mp hd
      have hm : Keeps s (s.modContext c fun x => { x with stepDeadline := none }) :=
        s.modContext_keeps c (fun _ => rfl) fun x _ h => Context.allows_noDeadline h x.retriesLeft
      refine ⟨hm.toKeepsBounds.trans (State.retryOrEnd_keepsBounds _ c), fun h => ?_⟩
      obtain ⟨-, -, ha⟩ := (State.framesLawful_iff s).mp h.2
      exact State.passesLawful_retryOrEnd (hm.passes h) (Context.allows_deadline (ha c x hx) (by rw [hxd]; rfl)).1
    · exact .refl s
  · exact .refl s

/-- Once its entry has left the confirmation list the owner has no frame, a step frame, and no step deadline. -/
theorem State.owner_of_removed {s : State} (h : s.passesLawful) {e : ConfirmEntry} (he : e ∈ s.air.confirm)
    {c : ContextNo} (ho : e.owner = some c) :
    (s.removeConfirm e).air.copies c = 0 ∧ ∃ x, s.context c = some x ∧ x.stepFrame.isSome = true ∧ x.stepDeadline = none := by
  obtain ⟨-, hn, ha⟩ := (State.framesLawful_iff s).mp h.2
  have hcop : (s.removeConfirm e).air.copies c + 1 = s.air.copies c := by
    have := AirPort.copies_removeConfirm he c
    rwa [ho, ownedBy_some, decide_eq_true rfl, if_pos rfl] at this
  cases hx : s.context c with
  | none => rw [hn c hx] at hcop; cases hcop
  | some x =>
    have hal := ha c x hx
    rw [← hcop] at hal
    obtain ⟨h0, hf, hd⟩ := Context.allows_succ hal
    exact ⟨h0, x, rfl, hf, hd⟩

/-- The removal of a confirmation entry keeps all (R12 to R14). -/
theorem State.removeConfirm_keeps {s : State} {e : ConfirmEntry} (he : e ∈ s.air.confirm) :
    Keeps s (s.removeConfirm e) := by
  refine ⟨.of_air rfl rfl rfl rfl fun h => AirPort.bounded_removeConfirm h e, fun h => ?_⟩
  refine State.passesLawful_of_air h id rfl ((State.framesLawful_iff s).mp h.2).1 fun c => ?_
  rw [← AirPort.copies_removeConfirm he c]
  exact Nat.le_add_right _ _

/-- A SEND-FAILED, or an expired confirmation (R13, R14, R45). -/
theorem State.failed_keeps {s : State} {e : ConfirmEntry} (he : e ∈ s.air.confirm) :
    Keeps s ((s.removeConfirm e).reportFailed e.owner) := by
  have hr := State.removeConfirm_keeps he
  unfold State.reportFailed
  split
  · exact hr
  · rename_i c ho
    split
    · split
      · exact ⟨hr.toKeepsBounds.trans (State.retryOrEnd_keepsBounds _ c),
          fun h => State.passesLawful_retryOrEnd (hr.passes h) (State.owner_of_removed h he ho).1⟩
      · exact hr
    · exact hr

/-- A SENT: the copy that awaited confirmation is reported sent, and has its step deadline (R12, R44). -/
theorem State.sent_keeps {s : State} {e : ConfirmEntry} (he : e ∈ s.air.confirm) (t : Tick) :
    Keeps s ((s.removeConfirm e).reportSent e.owner t) := by
  have hr := State.removeConfirm_keeps he
  unfold State.reportSent
  split
  · exact hr
  · rename_i c ho
    split
    · rename_i x hx
      split
      · rename_i hf
        refine Keeps.trans ⟨hr.toKeepsBounds.trans (State.setContext_keepsBounds _ c _), fun h => ?_⟩
          (State.expireStep_keeps _ c)
        obtain ⟨hw, -, ha⟩ := (State.framesLawful_iff _).mp (hr.passes h).2
        refine State.passesLawful_update (hr.passes h) hx id rfl (State.context_setContext_self _ c _) rfl
          (fun d hd => (State.context_setContext _ c d _).trans (if_neg hd)) hw (fun _ _ => le_rfl)
          ⟨?_, (ha c x hx).2⟩
        show (s.removeConfirm e).air.copies c + _ ≤ _
        simp [(State.owner_of_removed h he ho).1, hf]
      · exact hr
    · exact hr

/-! ### The steps of a pass (R29 to R33, R43, R48 to R50) -/

/-- A context in KEYING or CHECKING stands behind a step frame (R43, R50). -/
theorem State.standBehind_keeps {s : State} {c : ContextNo} {x : Context} (hx : s.context c = some x)
    (hs : x.state = .keying ∨ x.state = .checking) {st : PassState} (hst : st = .challenging ∨ st = .writing)
    (f : StepFrame) : Keeps s (s.standBehind c x st f) := by
  refine ⟨(s.setContext_keepsBounds c _).trans (State.queueStep_keepsBounds _ c), fun h => ?_⟩
  obtain ⟨h1, h2⟩ := ((State.framesLawful_iff s).mp h.2).2.2 c x hx
  have hf : x.stepFrame.isSome = false := by
    rcases hs with hs | hs <;> simpa [hs] using h2
  rw [hf] at h1
  exact State.passesLawful_queueStep h hx (by simp at h1; exact h1.1) rfl rfl fun _ => hst

theorem State.issueFor_keeps (s : State) (c : ContextNo) (kind : JobKind) (key : KeyId) (input : List Block) :
    Keeps s (s.issueFor c kind key input) :=
  (s.issueFor_jobsOnly c kind key input).keeps

theorem State.endNoWrite_keeps (s : State) (c : ContextNo) : Keeps s (s.endNoWrite c) :=
  .after (State.endPass_keeps _ c _) (s.modContext_keeps c (fun _ => rfl) fun _ _ h => h)

theorem State.compose_keeps (s : State) (c : ContextNo) : Keeps s (s.compose c) := by
  unfold State.compose
  split
  · exact .refl s
  · rename_i x hx
    split
    · exact s.endNoWrite_keeps c
    · split
      · exact s.endNoWrite_keeps c
      · exact .after (State.issueFor_keeps _ _ _ _ _) (State.setContext_keeps hx rfl fun _ h => h)

theorem State.afterCheck_keeps (s : State) (c : ContextNo) : Keeps s (s.afterCheck c) := by
  unfold State.afterCheck
  split
  · exact .refl s
  · split
    · exact s.endPass_keeps c _
    · exact s.compose_keeps c

theorem State.settleCheck_keeps (s : State) (c : ContextNo) (o : RecordCheck) : Keeps s (s.settleCheck c o) :=
  .after (State.afterCheck_keeps _ c) (s.modContext_keeps c (fun _ => rfl) fun _ _ h => h)

theorem State.recordCheck_keeps (s : State) (c : ContextNo) (x : Context) : Keeps s (s.recordCheck c x) := by
  unfold State.recordCheck
  split
  · exact s.settleCheck_keeps c _
  · split
    · exact s.settleCheck_keeps c _
    · split
      · exact s.settleCheck_keeps c _
      · exact s.issueFor_keeps _ _ _ _

theorem State.taVerified_keeps {s : State} {c : ContextNo} {x : Context} (hx : s.context c = some x) :
    Keeps s (s.taVerified c x) := by
  unfold State.taVerified
  dsimp only
  refine Keeps.trans (State.setContext_keeps hx (y := { x with recordsRead := x.held.map Prod.fst, held := none })
    rfl fun _ h => h) ?_
  split
  · exact State.recordCheck_keeps _ c _
  · exact State.afterCheck_keeps _ c

/-! ### The frames of a tag (R37, R39 to R42, R47, R51, R56) -/

/-- A context takes an answer to its step frame: heard, behind no step frame, owning no frame. -/
theorem State.answered_keeps {s : State} {c : ContextNo} {x : Context} (hx : s.context c = some x) (z : ZoneNo)
    (rssi : Byte) : Keeps s ((s.setContext c (some (x.answered z rssi))).withdrawFrames c) :=
  State.settle_keeps hx rfl rfl rfl

/-- A context behind no step frame may stand in any state. -/
theorem State.setContext_keeps_of_noFrame {s : State} {c : ContextNo} {x y : Context} (hx : s.context c = some x)
    (hpl : y.place = x.place) (hf : x.stepFrame = none) (hf' : y.stepFrame = none)
    (hd : y.stepDeadline = x.stepDeadline) : Keeps s (s.setContext c (some y)) := by
  refine State.setContext_keeps hx hpl fun n h => ?_
  simpa [Context.allows, hf, hf', hd] using h.1

theorem State.takeData_keeps {s : State} {c : ContextNo} {x : Context} (hx : s.context c = some x) (d : Data) :
    Keeps s (s.takeData c x d) := by
  unfold State.takeData
  dsimp only
  refine Keeps.trans (State.answered_keeps hx d.zone d.rssi) ?_
  split
  · exact State.endPass_keeps _ c _
  · exact .after (State.issueFor_keeps _ _ _ _ _) (State.setContext_keeps_of_noFrame
      (x := x.answered d.zone d.rssi) (s.context_setContext_self c _) rfl rfl rfl rfl)

theorem State.takeCommit_keeps {s : State} {c : ContextNo} {x : Context} (hx : s.context c = some x) (m : Commit) :
    Keeps s (s.takeCommit c x m) := by
  unfold State.takeCommit
  dsimp only
  refine Keeps.trans (State.answered_keeps hx m.zone m.rssi) ?_
  split
  · exact State.endPass_keeps _ c _
  · exact .after (State.issueFor_keeps _ _ _ _ _) (State.setContext_keeps_of_noFrame
      (x := x.answered m.zone m.rssi) (s.context_setContext_self c _) rfl rfl rfl rfl)

theorem State.stray_keeps (s : State) (kind : Byte) (p : List Byte) (held : Bool) : Keeps s (s.stray kind p held) := by
  unfold State.stray
  split
  · exact s.forward_keeps kind p
  · exact s.raise_keeps _

theorem State.judgeData_keeps (s : State) (p : List Byte) : Keeps s (s.judgeData p) := by
  unfold State.judgeData
  dsimp only
  split
  · split
    · split
      · exact State.takeData_keeps ‹_› _
      · exact s.stray_keeps _ _ _
    · exact .refl s
  · exact s.stray_keeps _ _ _

theorem State.judgeCommit_keeps (s : State) (p : List Byte) : Keeps s (s.judgeCommit p) := by
  unfold State.judgeCommit
  dsimp only
  split
  · split
    · split
      · exact State.takeCommit_keeps ‹_› _
      · exact s.stray_keeps _ _ _
    · exact .refl s
  · exact s.stray_keeps _ _ _

theorem State.joinContext_keeps {s : State} {c : ContextNo} {x : Context} (hx : s.context c = some x) (h : Hello) :
    Keeps s (s.joinContext c x h) := by
  unfold State.joinContext
  split
  · exact .refl s
  · exact State.setContext_keeps hx rfl fun _ h => h

/-- An open keeps all (R36). -/
theorem State.openContext_keeps {s : State} {c : ContextNo} {x : Context} (hc : s.context c = none)
    (ht : s.contextOf x.issuer x.tagNumber = none) (hf : x.stepFrame = none) (hsd : x.stepDeadline = none)
    (hd : s.device ≠ .hold) : Keeps s (s.openContext c x) :=
  ⟨.of_eq rfl rfl rfl rfl rfl, fun h => State.passesLawful_open h hc ht hf hsd hd⟩

theorem State.openDone_keeps {s : State} {c : ContextNo} {h : Hello} (hc : s.context c = none)
    (ht : s.contextOf h.issuer h.tagNumber = none) (hd : s.device ≠ .hold) (r : PassResult) (flags : PassFlags) :
    Keeps s (s.openDone c h r flags) := by
  unfold State.openDone
  dsimp only
  refine .after (State.attemptRelease_keeps _ _) ?_
  split
  · exact .after (State.raise_keeps _ _) (State.openContext_keeps hc ht rfl rfl hd)
  · exact .after (State.offerClose_keeps _ _ _ _) (State.openContext_keeps hc ht rfl rfl hd)

theorem State.issueSession_keeps (s : State) (c : ContextNo) : Keeps s (s.issueSession c) := by
  unfold State.issueSession
  split
  · exact .refl s
  · exact s.issueFor_keeps _ _ _ _

theorem State.openKeying_keeps {s : State} {c : ContextNo} {h : Hello} (hc : s.context c = none)
    (ht : s.contextOf h.issuer h.tagNumber = none) (hd : s.device ≠ .hold) (n : SlotNo) (flags : PassFlags) :
    Keeps s (s.openKeying c h n flags) := by
  unfold State.openKeying
  dsimp only
  refine Keeps.trans (t := { s with randomDraws := s.randomDraws + 1 }) (.of_eq rfl rfl rfl rfl rfl rfl id) ?_
  split
  · rename_i k hk
    exact .after (State.issueSession_keeps _ c) (.after (State.openContext_keeps hc ht rfl rfl hd)
      (State.cacheHit_keeps (List.mem_of_find?_eq_some hk)))
  · exact .after (State.issueFor_keeps _ _ _ _ _) (State.openContext_keeps hc ht rfl rfl hd)

theorem State.judgeRecent_keeps {s : State} {c : ContextNo} {h : Hello} (hc : s.context c = none)
    (ht : s.contextOf h.issuer h.tagNumber = none) (hd : s.device ≠ .hold) : Keeps s (s.judgeRecent c h) := by
  unfold State.judgeRecent
  dsimp only
  refine s.ageRecent_keeps.trans ?_
  split
  · exact .refl _
  · exact State.openDone_keeps (s := s.ageRecent) hc ht hd _ _
  · unfold State.openFresh
    split
    · exact State.openKeying_keeps (s := s.ageRecent) hc ht hd _ _
    · exact State.openDone_keeps (s := s.ageRecent) hc ht hd _ _

theorem State.judgeHello_keeps (s : State) (p : List Byte) : Keeps s (s.judgeHello p) := by
  unfold State.judgeHello
  dsimp only
  split
  · split
    · exact State.joinContext_keeps ‹_› _
    · exact .refl s
  · rename_i ht
    split
    · rename_i hd
      split
      · exact State.judgeRecent_keeps (State.freeContext_free ‹_›) ht (by rw [hd.1]; decide)
      · exact s.raise_keeps _
    · exact s.forward_keeps _ _

/-! ### The ends of jobs (R132, R133) -/

/-- The end of a context's job keeps what its owner's action in the state that issued it keeps. -/
theorem State.contextJobEnd_keeps (s : State) (j : Job) {stage : PassState} (out : Option Block)
    {onResult : ContextNo → Context → Block → State → State} {onLost : ContextNo → State → State}
    (hr : ∀ c x r t, t.context c = some x → x.state = stage → Keeps t (onResult c x r t))
    (hl : ∀ c t, Keeps t (onLost c t)) : Keeps s (s.contextJobEnd j stage out onResult onLost) := by
  unfold State.contextJobEnd
  split
  · exact .refl s
  · exact .refl s
  · rename_i c _
    split
    · exact .refl s
    · rename_i x hx
      dsimp only
      have hk : Keeps s (s.setContext c (some { x with currentJob := .idle })) :=
        State.setContext_keeps hx rfl fun _ h => h
      split
      · exact hk.trans (State.attemptRelease_keeps _ _)
      · split
        · split
          · exact hk.trans (hr _ _ _ _ (s.context_setContext_self c _) ‹_›)
          · exact hk.trans (hl _ _)
        · exact hk

theorem State.deriveEnd_keeps (s : State) (j : Job) (out : Option Block) : Keeps s (s.deriveEnd j out) :=
  s.contextJobEnd_keeps j out (fun c _ _ _ hx _ => .after (State.issueSession_keeps _ c)
    (.after (State.cacheOffer_keeps _ _ _) (State.setContext_keeps hx rfl fun _ h => h))) fun _ t => .refl t

theorem State.sessionEnd_keeps (s : State) (j : Job) (out : Option Block) : Keeps s (s.sessionEnd j out) :=
  s.contextJobEnd_keeps j out (fun _ _ _ _ hx _ => .after (State.issueFor_keeps _ _ _ _ _)
    (State.setContext_keeps hx rfl fun _ h => h)) fun _ t => .refl t

theorem State.raEnd_keeps (s : State) (j : Job) (out : Option Block) : Keeps s (s.raEnd j out) :=
  s.contextJobEnd_keeps j out (fun _ _ _ _ hx hs => State.standBehind_keeps hx (.inl hs) (.inl rfl) _)
    fun _ t => .refl t

theorem State.taEnd_keeps (s : State) (j : Job) (out : Option Block) : Keeps s (s.taEnd j out) :=
  s.contextJobEnd_keeps j out (fun c x r t hx _ => by
    split
    · exact State.taVerified_keeps hx
    · exact .after (State.endPass_keeps _ c _) (State.setContext_keeps hx rfl fun _ h => h)) fun _ t => .refl t

theorem State.verifyEnd_keeps (s : State) (j : Job) (out : Option Block) : Keeps s (s.verifyEnd j out) :=
  s.contextJobEnd_keeps j out (fun c _ _ t _ _ => t.settleCheck_keeps c _) fun c t => t.settleCheck_keeps c _

theorem State.computeEnd_keeps (s : State) (j : Job) (out : Option Block) : Keeps s (s.computeEnd j out) :=
  s.contextJobEnd_keeps j out (fun c x r t hx _ => by
    dsimp only
    split
    · exact .after (State.issueFor_keeps _ _ _ _ _) (State.setContext_keeps hx rfl fun _ h => h)
    · exact t.endNoWrite_keeps c) fun c t => t.endNoWrite_keeps c

theorem State.waEnd_keeps (s : State) (j : Job) (out : Option Block) : Keeps s (s.waEnd j out) :=
  s.contextJobEnd_keeps j out (fun _ _ _ _ hx hs => State.standBehind_keeps hx (.inr hs) (.inr rfl) _)
    fun _ t => .refl t

theorem State.caEnd_keeps (s : State) (j : Job) (out : Option Block) : Keeps s (s.caEnd j out) :=
  s.contextJobEnd_keeps j out (fun c _ _ t _ _ => t.endPass_keeps c _) fun _ t => .refl t

end Sys2Proof.Machine
end

section
/-! SUPPORT. What keeps the bounds and the laws of the passes, concluded: the key store, the management unit, the lines,
the resets, and so every command and every step. -/

namespace Sys2Proof.Machine

/-! ### The key store (R84 to R103) -/

/-- An update of the key store alone keeps all. -/
theorem State.setKeys_keeps (s : State) (k : KeyStore) : Keeps s { s with keys := k } :=
  .of_eq rfl rfl rfl rfl rfl rfl id

theorem State.changeSlot_keeps (s : State) (n : SlotNo) (x : Slot) : Keeps s (s.changeSlot n x) :=
  s.setKeys_keeps _

theorem State.clearWriteGenOf_keeps (s : State) (x : Slot) : Keeps s (s.clearWriteGenOf x) := by
  unfold State.clearWriteGenOf State.setWriteGen
  split
  · split
    · exact .refl s
    · exact s.setKeys_keeps _
  · exact .refl s

theorem State.dropCacheOf_keeps (s : State) (x : Slot) : Keeps s (s.dropCacheOf x) := by
  unfold State.dropCacheOf
  split
  · exact .of_bounds (.of_tables rfl rfl fun ⟨h1, h2, h3⟩ => ⟨(List.length_filter_le _ _).trans h1, h2, h3⟩) rfl rfl id
  · exact .refl s

theorem State.discardTwoPart_keeps (s : State) : Keeps s s.discardTwoPart := by
  unfold State.discardTwoPart
  split
  · exact .refl s
  · exact .of_eq rfl rfl rfl rfl rfl rfl id
  · exact .of_eq rfl rfl rfl rfl rfl rfl id

theorem State.failLoad_keeps (s : State) (st : Status) : Keeps s (s.failLoad st) :=
  s.discardTwoPart_keeps.trans (State.finish_keeps _ _ _)

theorem State.jobRemoved_keeps (s : State) (j : Job) : Keeps s (s.jobRemoved j) := by
  unfold State.jobRemoved
  split
  · exact ((s.setOutstanding_jobsOnly none).trans (State.scrubTest_jobsOnly _)).keeps
  · exact s.failLoad_keeps _
  · rename_i c _
    have h := ((s.setCurrentJob_jobsOnly c .idle).trans (State.scrubTest_jobsOnly _)).keeps
    cases j.kind with
    | recordCompute => exact h.trans (State.endNoWrite_keeps _ c)
    | recordVerify => exact h.trans (State.settleCheck_keeps _ c _)
    | _ => exact h

theorem State.masterLost_keeps (s : State) (n : SlotNo) (c : ContextNo) : Keeps s (s.masterLost n c) := by
  unfold State.masterLost
  split
  · split
    · exact s.endPass_keeps c _
    · exact .refl s
  · exact .refl s

/-- What each step of a walk through a list keeps, the walk keeps. -/
theorem keeps_foldl {α : Type} {f : State → α → State} (h : ∀ s a, Keeps s (f s a)) (l : List α) (s : State) :
    Keeps s (l.foldl f s) := by
  induction l generalizing s with
  | nil => exact .refl s
  | cons a l ih => exact (h s a).trans (ih _)

theorem State.withdrawLoss_keeps (s : State) (n : SlotNo) (x : Slot) : Keeps s (s.withdrawLoss n x) := by
  unfold State.withdrawLoss
  dsimp only
  have h1 : Keeps s ((((s.clearWriteGenOf x).dropCacheOf x).tellEngines (Engine.atLoss n)).removeJobs n) :=
    .after (State.setJobs_jobsOnly _ _).keeps (.after (State.tellEngines_jobsOnly _ _).keeps
      (.after (State.dropCacheOf_keeps _ x) (s.clearWriteGenOf_keeps x)))
  have h2 := h1.trans (keeps_foldl State.jobRemoved_keeps (s.cipher.queue.filter (Job.names n)) _)
  split
  · exact h2.trans (keeps_foldl (fun t c => t.masterLost_keeps n c) _ _)
  · exact h2

theorem State.faultSlot_keeps (s : State) (n : SlotNo) : Keeps s (s.faultSlot n) :=
  .after (State.withdrawLoss_keeps _ n _) (.after (State.raise_keeps _ _) (s.changeSlot_keeps n _))

theorem State.beginErase_keeps (s : State) (n : SlotNo) : Keeps s (s.beginErase n) :=
  .after (State.withdrawLoss_keeps _ n _) (s.changeSlot_keeps n _)

theorem State.withdrawExpiry_keeps (s : State) (n : SlotNo) (x : Slot) : Keeps s (s.withdrawExpiry n x) :=
  .after (State.tellEngines_jobsOnly _ _).keeps (.after (State.dropCacheOf_keeps _ x) (s.clearWriteGenOf_keeps x))

theorem State.walkSlot_keeps (m : Minute) (s : State) (n : SlotNo) : Keeps s (s.walkSlot m n) := by
  unfold State.walkSlot
  dsimp only
  split
  · unfold State.expireSlot
    dsimp only
    refine .after (State.raise_keeps _ _) ?_
    split
    · exact s.changeSlot_keeps n _
    · exact .after (State.withdrawExpiry_keeps _ n _) (s.changeSlot_keeps n _)
  · split
    · exact s.changeSlot_keeps n _
    · exact .refl s

theorem State.walk_keeps (s : State) (m : Minute) : Keeps s (s.walk m) :=
  keeps_foldl (State.walkSlot_keeps m) _ s

theorem State.enterMaintenance_keeps (s : State) : Keeps s s.enterMaintenance :=
  .after (State.scrubTest_jobsOnly _).keeps (.of_eq rfl rfl rfl rfl rfl rfl (by simp))

theorem State.continueInitCheck_keeps (s : State) : Keeps s s.continueInitCheck := by
  unfold State.continueInitCheck
  split
  · exact s.enterMaintenance_keeps
  · exact (s.issueScrub_jobsOnly _ _).keeps

theorem State.judgeScrub_keeps (s : State) (n : SlotNo) (out : Option Block) : Keeps s (s.judgeScrub n out) := by
  unfold State.judgeScrub
  split
  · exact .refl s
  · dsimp only
    split
    · split
      · exact s.setKeys_keeps _
      · exact s.faultSlot_keeps n
    · exact .refl s

theorem State.afterScrub_keeps (s : State) : Keeps s s.afterScrub := by
  unfold State.afterScrub
  dsimp only
  split
  · exact .after (State.continueInitCheck_keeps _) (.of_eq rfl rfl rfl rfl rfl rfl id)
  · exact ((s.setOutstanding_jobsOnly none).trans (State.scrubTest_jobsOnly _)).keeps

/-! ### The ends of the other jobs, and of any job on its engine (R71, R100, R109, R113, R114, R131, R132) -/

theorem State.arrive_keeps (s : State) (j : Job) : Keeps s (s.arrive j) :=
  (s.arrive_jobsOnly j).keeps

theorem State.clearTwoPart_keeps (s : State) : Keeps s s.clearTwoPart :=
  .of_eq rfl rfl rfl rfl rfl rfl id

theorem State.unwrapEnd_keeps (s : State) (j : Job) (out : Option Block) : Keeps s (s.unwrapEnd j out) := by
  unfold State.unwrapEnd
  split
  · exact .after (State.arrive_keeps _ _) (.of_eq rfl rfl rfl rfl rfl rfl id)
  · exact s.failLoad_keeps _

theorem State.kcvEnd_keeps (s : State) (j : Job) (out : Option Block) : Keeps s (s.kcvEnd j out) := by
  unfold State.kcvEnd
  split
  · split
    · exact s.failLoad_keeps _
    · split
      · exact .after (State.finish_keeps _ _ _) (.after (State.scrubTest_jobsOnly _).keeps
          (.after (State.clearTwoPart_keeps _) (s.changeSlot_keeps _ _)))
      · exact .after (State.finish_keeps _ _ _) (.after (State.raise_keeps _ _) s.discardTwoPart_keeps)
  · exact s.failLoad_keeps _

theorem State.combineEnd_keeps (s : State) (j : Job) (out : Option Block) : Keeps s (s.combineEnd j out) := by
  unfold State.combineEnd
  split
  · split
    · exact .after (State.finish_keeps _ _ _) (.after (State.scrubTest_jobsOnly _).keeps
        (.after (State.clearTwoPart_keeps _) (s.changeSlot_keeps _ _)))
    · exact .after (State.finish_keeps _ _ _) (.after (State.raise_keeps _ _) s.clearTwoPart_keeps)
  · exact .after (State.finish_keeps _ _ _) s.clearTwoPart_keeps

theorem State.scrubEnd_keeps (s : State) (j : Job) (out : Option Block) : Keeps s (s.scrubEnd j out) := by
  unfold State.scrubEnd
  split
  · exact .after (State.afterScrub_keeps _) (s.judgeScrub_keeps _ _)
  all_goals exact s.afterScrub_keeps

theorem State.deliver_keeps (s : State) (j : Job) (out : Option Block) : Keeps s (s.deliver j out) := by
  unfold State.deliver
  cases j.kind with
  | derive => exact s.deriveEnd_keeps j out
  | session => exact s.sessionEnd_keeps j out
  | ra => exact s.raEnd_keeps j out
  | ta => exact s.taEnd_keeps j out
  | wa => exact s.waEnd_keeps j out
  | ca => exact s.caEnd_keeps j out
  | recordCompute => exact s.computeEnd_keeps j out
  | recordVerify => exact s.verifyEnd_keeps j out
  | unwrap => exact s.unwrapEnd_keeps j out
  | kcv => exact s.kcvEnd_keeps j out
  | combine => exact s.combineEnd_keeps j out
  | scrub => exact s.scrubEnd_keeps j out

/-- The completion of a job keeps what its owner's action keeps (R132). -/
theorem State.completeJob_keeps (s : State) (e : EngineNo) (kind : JobKind) {act : Job → Option Block → State → State}
    (h : ∀ j out, Keeps s (act j out s)) : Keeps s (s.completeJob e kind act) := by
  unfold State.completeJob
  split
  · split
    · exact (h _ _).trans (State.afterEnd_jobsOnly _ e).keeps
    · exact .refl s
  all_goals exact .refl s

theorem State.completeOpening_keeps (s : State) (e : EngineNo) : Keeps s (s.completeOpening e) := by
  unfold State.completeOpening
  dsimp only
  split
  · split
    · exact (s.deliver_keeps _ _).trans (State.afterEnd_jobsOnly _ e).keeps
    · exact (s.setEngine_jobsOnly _ _).keeps
  all_goals exact .refl s

/-! ### Wipes and resets (R123, R176, R179, R181 to R183) -/

theorem State.passesLawful_wipeBlocks {s : State} (h : s.passesLawful) : s.wipeBlocks.passesLawful := by
  obtain ⟨hw, hn, -⟩ := (State.framesLawful_iff s).mp h.2
  by_cases hd : s.device = .hold
  · have ha : s.wipeBlocks.air = s.air := by unfold State.wipeBlocks; simp [hd]
    refine State.passesLawful_cleared rfl (by rw [ha]; exact hw) fun c => ?_
    rw [ha]
    exact hn c (h.1.2.2.2 hd c)
  · have ha : s.wipeBlocks.air = s.air.wiped := by unfold State.wipeBlocks; simp [hd]
    exact State.passesLawful_cleared rfl (by rw [ha]; exact AirPort.owned_wiped hw) fun c => by
      rw [ha]; exact AirPort.copies_wiped hw c

theorem State.wipeBlocks_keeps (s : State) : Keeps s s.wipeBlocks := by
  refine ⟨⟨id, fun h => ?_, fun ⟨_, _, h3⟩ => ⟨Nat.zero_le _, Nat.zero_le _, h3⟩⟩, State.passesLawful_wipeBlocks⟩
  unfold State.wipeBlocks
  dsimp only
  split
  · exact h
  · exact AirPort.bounded_wiped h

theorem State.wipe_keeps (s : State) : Keeps s s.wipe := by
  unfold State.wipe
  dsimp only
  refine .after (State.raise_keeps _ _) ?_
  split
  · exact s.wipeBlocks_keeps
  · exact s.wipeBlocks_keeps.trans (State.enterMaintenance_keeps _)

theorem State.wipes_keeps (k : Nat) (s : State) : Keeps s (s.wipes k) := by
  induction k generalizing s with
  | zero => exact .refl s
  | succ k ih => exact s.wipe_keeps.trans (ih _)

theorem State.enterInit_keeps (s : State) : Keeps s s.enterInit :=
  .after (State.wipes_keeps _ _) (.after (State.continueInitCheck_keeps _)
    (.of_eq rfl rfl rfl rfl rfl rfl (by simp)))

/-- A discard of every pass with the air port and the lane port cleared and the tables empty. -/
theorem Keeps.of_discard {s t : State} (hl : t.lane = LanePort.cleared) (ha : t.air = AirPort.cleared)
    (hc : t.cache = []) (hr : t.recent = []) (ht : s.clock.minuteTimer < 600000 → t.clock.minuteTimer < 600000)
    (hp : t.passes = PassTable.cleared) : Keeps s t := by
  refine ⟨⟨fun _ => ?_, fun _ => ha ▸ AirPort.bounded_cleared, fun ⟨_, _, h3⟩ => ⟨?_, ?_, ht h3⟩⟩,
    fun _ => State.passesLawful_discarded hp ha⟩
  · simp [hl, LanePort.bounded, LanePort.cleared]
  · simp [hc]
  · simp [hr]

theorem State.enterHold_keeps (s : State) : Keeps s s.enterHold :=
  .of_discard rfl rfl rfl rfl id rfl

theorem State.resetLane_keeps (s : State) : Keeps s s.resetLane :=
  .of_discard rfl rfl rfl rfl id rfl

theorem State.powerOn_keeps (s : State) : Keeps s s.powerOn := by
  have h : Keeps s s.powerOnBlocks := .of_discard rfl rfl rfl rfl (fun _ => Nat.zero_lt_succ _) rfl
  unfold State.powerOn
  dsimp only
  split
  · exact h.trans (State.enterHold_keeps _)
  · split
    · exact h
    · exact h.trans (State.enterInit_keeps _)

theorem LanePort.bounded_cleared (tx : Option WireFrame) : ({ LanePort.cleared with tx } : LanePort).bounded := by
  simp [LanePort.bounded, LanePort.cleared]

theorem State.exitHold_keeps (s : State) : Keeps s s.exitHold := by
  unfold State.exitHold
  dsimp only
  refine Keeps.trans (t := { s with
    device := .init, clock := { s.clock with laneTime := 0 }, profile := LaneProfile.defaults, air := AirPort.cleared
    keys := { s.keys with scrubPointer := 0 }
    lane := { LanePort.cleared with tx := if s.lines.reset then none else s.lane.tx }
    events := Events.cleared }) ⟨⟨fun _ => LanePort.bounded_cleared _, fun _ => AirPort.bounded_cleared, id⟩,
      fun h => State.passesLawful_of_air h (by simp) rfl AirPort.owned_cleared fun _ => Nat.zero_le _⟩ ?_
  split
  · exact .refl _
  · exact State.enterInit_keeps _

theorem State.setLines_keeps (s : State) (f : Lines → Lines) : Keeps s (s.setLines f) :=
  .of_eq rfl rfl rfl rfl rfl rfl id

theorem State.leaveHold_keeps (s : State) : Keeps s s.leaveHold := by
  unfold State.leaveHold
  split
  · exact s.exitHold_keeps
  · exact .refl s

/-! ### The lines (R122, R178 to R182) -/

theorem State.assertZeroise_keeps (s : State) : Keeps s s.assertZeroise := by
  unfold State.assertZeroise
  split
  · exact s.setLines_keeps _
  · exact s.wipe_keeps

theorem State.assertSupplyFail_keeps (s : State) : Keeps s s.assertSupplyFail := by
  unfold State.assertSupplyFail
  dsimp only
  split
  · exact .refl s
  · split
    · exact .of_bounds (.of_lane rfl rfl rfl rfl fun _ => LanePort.bounded_cleared none) rfl rfl id
    · exact (s.setLines_keeps _).trans (State.enterHold_keeps _)

theorem State.deassertSupplyFail_keeps (s : State) : Keeps s s.deassertSupplyFail := by
  unfold State.deassertSupplyFail
  split
  · exact (s.setLines_keeps _).trans (State.leaveHold_keeps _)
  · exact .refl s

theorem State.assertWake_keeps (s : State) : Keeps s s.assertWake := by
  unfold State.assertWake
  split
  · exact .refl s
  · exact (s.setLines_keeps _).trans (State.leaveHold_keeps _)

theorem State.assertReset_keeps (s : State) : Keeps s s.assertReset := by
  unfold State.assertReset
  dsimp only
  split
  · exact .refl s
  · split
    · exact s.setLines_keeps _
    · exact (s.setLines_keeps _).trans (State.resetLane_keeps _)

theorem State.deassertReset_keeps (s : State) : Keeps s s.deassertReset := by
  unfold State.deassertReset
  dsimp only
  split
  · split
    · exact s.setLines_keeps _
    · exact .after (State.enterInit_keeps _) (.of_eq rfl rfl rfl rfl rfl rfl id)
  · exact .refl s

/-! ### Requests (R165) -/

/-- A request row keeps what its judgement keeps. -/
theorem State.take_keeps (s : State) (fits : Byte → Bool) {judge : Request → State → State}
    (h : ∀ q t, Keeps t (judge q t)) : Keeps s (s.take fits judge) := by
  unfold State.take
  split
  · refine .after (h _ _) (.of_bounds (.of_lane rfl rfl rfl rfl fun ⟨h1, h2, h3⟩ => ⟨?_, h2, h3⟩) rfl rfl id)
    exact (List.drop_sublist 1 _).length_le.trans h1
  · exact .refl s

theorem underOrder_keeps {judge : Request → State → State} (h : ∀ q t, Keeps t (judge q t)) (q : Request) (s : State) :
    Keeps s (underOrder judge q s) := by
  unfold underOrder
  split
  · exact h q s
  · exact s.discardTwoPart_keeps.trans (State.respond_keeps _ _ _ _)

theorem outsideInit_keeps {judge : Request → State → State} (h : ∀ q t, Keeps t (judge q t)) (q : Request) (s : State) :
    Keeps s (outsideInit judge q s) := by
  unfold outsideInit
  split
  · exact s.respond_keeps _ _ _
  · exact h q s

theorem State.takeRequest_keeps (s : State) (code : Byte) {judge : Request → State → State}
    (h : ∀ q t, Keeps t (judge q t)) : Keeps s (s.takeRequest code judge) :=
  s.take_keeps _ (underOrder_keeps (outsideInit_keeps h))

theorem judgeRootPart1_keeps (q : Request) (s : State) : Keeps s (judgeRootPart1 q s) := by
  unfold judgeRootPart1
  split
  · exact s.respond_keeps _ _ _
  · split
    · exact s.respond_keeps _ _ _
    · exact .after (State.respond_keeps _ _ _ _) (.of_eq rfl rfl rfl rfl rfl rfl id)

theorem State.takeInHand_keeps (s : State) (q : Request) (w : HeldWork) : Keeps s (s.takeInHand q w) :=
  .of_eq rfl rfl rfl rfl rfl rfl id

theorem judgeRootPart2_keeps (q : Request) (s : State) : Keeps s (judgeRootPart2 q s) := by
  unfold judgeRootPart2
  split
  · exact outsideInit_keeps (fun q t => (t.takeInHand_keeps _ _).trans (State.arrive_keeps _ _)) q s
  all_goals exact .after (State.respond_keeps _ _ _ _) s.discardTwoPart_keeps

theorem judgeLockRoot_keeps (q : Request) (s : State) : Keeps s (judgeLockRoot q s) := by
  unfold judgeLockRoot
  split
  · exact .after (State.respond_keeps _ _ _ _) (s.setKeys_keeps _)
  · exact s.respond_keeps _ _ _

theorem judgeKeyLoadA_keeps (q : Request) (s : State) : Keeps s (judgeKeyLoadA q s) := by
  unfold judgeKeyLoadA
  dsimp only
  split
  · exact s.respond_keeps _ _ _
  · repeat' split
    · exact s.respond_keeps _ _ _
    · exact s.respond_keeps _ _ _
    · exact s.respond_keeps _ _ _
    · exact s.respond_keeps _ _ _
    · exact .after (State.respond_keeps _ _ _ _) (.of_eq rfl rfl rfl rfl rfl rfl id)

theorem startUnwrap_keeps (f : LoadFields) (q : Request) (s : State) : Keeps s (startUnwrap f q s) := by
  unfold startUnwrap
  split
  · exact (s.takeInHand_keeps _ _).trans (State.arrive_keeps _ _)
  · exact .after (State.respond_keeps _ _ _ _) s.discardTwoPart_keeps

theorem judgeKeyLoadB_keeps (q : Request) (s : State) : Keeps s (judgeKeyLoadB q s) := by
  unfold judgeKeyLoadB
  split
  · split
    · exact outsideInit_keeps (startUnwrap_keeps _) q s
    · exact .after (State.respond_keeps _ _ _ _) s.discardTwoPart_keeps
  all_goals exact .after (State.respond_keeps _ _ _ _) s.discardTwoPart_keeps

theorem judgeActivate_keeps (q : Request) (s : State) : Keeps s (judgeActivate q s) := by
  unfold judgeActivate
  split
  · exact s.respond_keeps _ _ _
  · split
    · exact s.respond_keeps _ _ _
    · exact .after (State.respond_keeps _ _ _ _) (s.changeSlot_keeps _ _)

theorem judgeRetire_keeps (q : Request) (s : State) : Keeps s (judgeRetire q s) := by
  unfold judgeRetire
  split
  · exact s.respond_keeps _ _ _
  · dsimp only
    split
    · exact .after (State.respond_keeps _ _ _ _) (.after (State.clearWriteGenOf_keeps _ _) (s.changeSlot_keeps _ _))
    · exact s.respond_keeps _ _ _

theorem judgeErase_keeps (q : Request) (s : State) : Keeps s (judgeErase q s) := by
  unfold judgeErase
  split
  · exact s.respond_keeps _ _ _
  · split
    · exact s.respond_keeps _ _ _
    · split
      · exact s.respond_keeps _ _ _
      · dsimp only
        split
        · exact (s.beginErase_keeps _).trans (State.takeInHand_keeps _ _ _)
        · exact .after (State.respond_keeps _ _ _ _) ((s.beginErase_keeps _).trans (State.changeSlot_keeps _ _ _))

theorem State.setWriteGen_keeps (s : State) (g : Option Generation) : Keeps s (s.setWriteGen g) := by
  unfold State.setWriteGen
  split
  · exact .refl s
  · exact s.setKeys_keeps _

theorem judgeSelectWriteGen_keeps (q : Request) (s : State) : Keeps s (judgeSelectWriteGen q s) := by
  unfold judgeSelectWriteGen
  dsimp only
  split
  · exact .after (State.respond_keeps _ _ _ _) (s.setWriteGen_keeps _)
  · split
    · split
      · exact .after (State.respond_keeps _ _ _ _) (s.setWriteGen_keeps _)
      · exact s.respond_keeps _ _ _
    · exact s.respond_keeps _ _ _

theorem judgeReadSlot_keeps (q : Request) (s : State) : Keeps s (judgeReadSlot q s) := by
  unfold judgeReadSlot
  split <;> exact s.respond_keeps _ _ _

theorem judgeZeroise_keeps (q : Request) (s : State) : Keeps s (judgeZeroise q s) :=
  .after (State.respond_keeps _ _ _ _) s.wipe_keeps

theorem judgeReadStatus_keeps (q : Request) (s : State) : Keeps s (judgeReadStatus q s) :=
  .after (State.setKeys_keeps _ _) (s.respond_keeps _ _ _)

/-- An update of the events alone keeps all. -/
theorem State.setEvents_keeps (s : State) (v : Events) : Keeps s { s with events := v } :=
  .of_eq rfl rfl rfl rfl rfl rfl id

theorem judgeClearEvents_keeps (q : Request) (s : State) : Keeps s (judgeClearEvents q s) := by
  unfold judgeClearEvents
  split
  · exact .after (State.respond_keeps _ _ _ _) (s.setEvents_keeps _)
  · exact s.respond_keeps _ _ _

theorem judgeSetAlertMask_keeps (q : Request) (s : State) : Keeps s (judgeSetAlertMask q s) := by
  unfold judgeSetAlertMask
  split
  · exact .after (State.respond_keeps _ _ _ _) (s.setEvents_keeps _)
  · exact s.respond_keeps _ _ _

theorem judgeSetProfile_keeps (q : Request) (s : State) : Keeps s (judgeSetProfile q s) := by
  unfold judgeSetProfile
  dsimp only
  split
  · exact s.respond_keeps _ _ _
  · split
    · exact s.respond_keeps _ _ _
    · exact .after (State.respond_keeps _ _ _ _) (.of_eq rfl rfl rfl rfl rfl rfl id)

theorem State.timingChanged_keeps (s : State) (old : LaneProfile) : Keeps s (s.timingChanged old) := by
  unfold State.timingChanged
  dsimp only
  split
  · split
    · exact s.noteOverdue_jobsOnly.keeps
    · exact .refl s
  · split
    · exact s.ageRecent_keeps.trans (State.noteOverdue_jobsOnly _).keeps
    · exact s.ageRecent_keeps

theorem judgeSetTiming_keeps (q : Request) (s : State) : Keeps s (judgeSetTiming q s) := by
  unfold judgeSetTiming
  dsimp only
  exact .after (State.respond_keeps _ _ _ _) (.after (State.timingChanged_keeps _ _)
    (.of_eq rfl rfl rfl rfl rfl rfl id))

theorem judgeSetService_keeps (q : Request) (s : State) : Keeps s (judgeSetService q s) := by
  unfold judgeSetService
  split
  · unfold judgeServiceOff
    dsimp only
    refine .after (State.respond_keeps _ _ _ _) ?_
    split
    · exact s.enterMaintenance_keeps
    · exact .refl s
  · split
    · unfold judgeServiceOn
      split
      · exact .after (State.respond_keeps _ _ _ _) (.of_eq rfl rfl rfl rfl rfl rfl (by simp))
      · exact s.respond_keeps _ _ _
    · exact s.respond_keeps _ _ _

/-- An update of the clock that keeps the minute timer in its range keeps all. -/
theorem State.setClock_keeps (s : State) (c : Clock) (h : s.clock.minuteTimer < 600000 → c.minuteTimer < 600000) :
    Keeps s { s with clock := c } :=
  .of_bounds (.of_tables rfl rfl fun ⟨h1, h2, h3⟩ => ⟨h1, h2, h h3⟩) rfl rfl id

theorem judgeSetCalendar_keeps (q : Request) (s : State) : Keeps s (judgeSetCalendar q s) := by
  unfold judgeSetCalendar
  dsimp only
  exact .after (State.respond_keeps _ _ _ _) (.after (State.walk_keeps _ _)
    (s.setClock_keeps _ fun _ => Nat.zero_lt_succ _))

theorem judgeHold_keeps (q : Request) (s : State) : Keeps s (judgeHold q s) :=
  .after (State.respond_keeps _ _ _ _) s.enterHold_keeps

/-! ### Frames and sends at the two ports -/

/-- An uplink frame keeps what its effect keeps. -/
theorem State.uplink_keeps (s : State) (kind : Byte) (f : PortFrame) {act : State → State} (h : Keeps s (act s)) :
    Keeps s (s.uplink kind f act) := by
  unfold State.uplink
  repeat' split
  · exact .refl s
  · exact .refl s
  · exact h
  · exact s.raise_keeps _

theorem State.offerTagFrame_keeps (s : State) (kind : Byte) (p : List Byte) {judge : State → List Byte → State}
    (h : Keeps s (judge s p)) : Keeps s (s.offerTagFrame kind p judge) := by
  unfold State.offerTagFrame
  split
  · exact s.forward_keeps _ _
  · exact h

theorem State.takeSent_keeps (s : State) (p : List Byte) : Keeps s (s.takeSent p) := by
  unfold State.takeSent
  split
  · exact .refl s
  · exact State.sent_keeps (AirPort.awaiting_mem ‹_›) _

theorem State.takeSendFailed_keeps (s : State) (p : List Byte) : Keeps s (s.takeSendFailed p) := by
  unfold State.takeSendFailed
  split
  · exact .refl s
  · exact State.failed_keeps (AirPort.awaiting_mem ‹_›)

theorem State.takeCredit_keeps (s : State) (p : List Byte) : Keeps s (s.takeCredit p) :=
  ⟨.of_air rfl rfl rfl rfl fun h => AirPort.bounded_addCredit h _, fun h => h⟩

theorem State.laneFrame_keeps (s : State) (cls : Byte) (f : PortFrame) : Keeps s (s.laneFrame cls f) := by
  unfold State.laneFrame
  repeat' split
  · exact .refl s
  · exact s.offerPassthrough_keeps _
  · exact s.arriveRequest_keeps _
  · exact s.raise_keeps _
  · exact s.raise_keeps _

/-- The start of a downlink send, when it may start (R10). -/
theorem State.startSend_keeps {s : State} (h : s.air.canSend = true) : Keeps s { s with air := s.air.startSend } := by
  have htx : s.air.tx = none := by
    simp only [AirPort.canSend, Bool.and_eq_true, Option.isNone_iff_eq_none] at h
    exact h.1.1.2
  refine ⟨.of_air rfl rfl rfl rfl fun hb => AirPort.bounded_startSend hb h, fun hs => ?_⟩
  exact State.passesLawful_of_air hs id rfl (AirPort.owned_startSend ((State.framesLawful_iff s).mp hs.2).1)
    fun c => (AirPort.copies_startSend htx c).le

theorem State.frameOut_keeps (s : State) (t : Tick) : Keeps s { s with air := s.air.frameOut t } :=
  ⟨.of_air rfl rfl rfl rfl fun hb => AirPort.bounded_frameOut hb t, fun hs => State.passesLawful_of_air hs id rfl
    (AirPort.owned_frameOut ((State.framesLawful_iff s).mp hs.2).1 t) fun c => (s.air.copies_frameOut t c).le⟩

theorem State.releaseStalled_keeps (s : State) : Keeps s s.releaseStalled := by
  unfold State.releaseStalled
  split
  · exact .refl s
  · dsimp only
    split
    · exact (s.setStalled_keeps _).trans (State.attemptRelease_keeps _ _)
    · exact s.setStalled_keeps _

theorem State.startLaneSend_keeps (s : State) : Keeps s s.startLaneSend := by
  unfold State.startLaneSend
  split
  · rename_i a rest hr
    have hlen : s.lane.bounded → rest.length + 1 ≤ 8 := fun ⟨_, h2, _⟩ => by rwa [hr] at h2
    unfold State.enterHeld
    split
    · exact .of_bounds (.of_lane rfl rfl rfl rfl fun h => ⟨h.1, Nat.le_of_succ_le (hlen h), h.2.2⟩) rfl rfl id
    · refine .of_bounds (.of_lane rfl rfl rfl rfl fun h => ⟨h.1, ?_, h.2.2⟩) rfl rfl id
      simpa using hlen h
  · rename_i r rest _ hr
    refine .after (State.releaseStalled_keeps _) (.of_bounds (.of_lane rfl rfl rfl rfl fun ⟨h1, h2, h3⟩ => ⟨h1, h2, ?_⟩)
      rfl rfl id)
    rw [hr] at h3
    exact Nat.le_of_succ_le h3
  · exact .refl s

/-! ### Every command, and every step -/

theorem State.expireLifetime_keeps (s : State) (c : ContextNo) : Keeps s (s.expireLifetime c) := by
  unfold State.expireLifetime
  split
  · split
    · exact s.endPass_keeps c _
    · exact .refl s
  · exact .refl s

theorem State.advanceCalendar_keeps (s : State) : Keeps s s.advanceCalendar := by
  have h : Keeps s { s with clock := { s.clock with advanceDue := false } } := s.setClock_keeps _ id
  unfold State.advanceCalendar
  dsimp only
  split
  · exact h
  · exact .after (State.walk_keeps _ _) (s.setClock_keeps _ id)

/-- A tick keeps the minute timer in its range (R185). -/
theorem Clock.tick_minuteTimer (c : Clock) (running : Bool) : (c.tick running).minuteTimer < 600000 := by
  unfold Clock.tick
  dsimp only
  generalize (if running = true then { c with laneTime := c.laneTime + 1 } else c) = d
  split
  · exact Nat.succ_lt_succ ‹_›
  · exact Nat.zero_lt_succ _

theorem State.tick_keeps (s : State) : Keeps s s.tick :=
  s.setClock_keeps _ fun _ => Clock.tick_minuteTimer _ _

/-- A confirmation deadline that expires is a SEND-FAILED to its owner (R14). -/
theorem execConfirmationDeadline_keeps (h : Byte) (s : State) :
    ∃ t, execConfirmationDeadline h s = .next t ∧ Keeps s t := by
  refine ⟨_, rfl, ?_⟩
  split
  · split
    · exact State.failed_keeps (AirPort.awaiting_mem ‹_›)
    · exact .refl s
  · exact .refl s

theorem execEraseCompletion_keeps (s : State) : ∃ t, execEraseCompletion s = .next t ∧ Keeps s t := by
  refine ⟨_, rfl, ?_⟩
  split
  · exact (s.changeSlot_keeps _ _).trans (State.finish_keeps _ _ _)
  · exact .refl s

/-- A meaning that acts where its condition holds and changes nothing elsewhere (log 1). -/
theorem Keeps.ite {s t : State} {p : Prop} [Decidable p] (h : p → Keeps s t) : Keeps s (if p then t else s) := by
  split
  · exact h ‹_›
  · exact .refl s

theorem execOther_keeps (kind : Byte) (f : PortFrame) (s : State) : ∃ t, execOther kind f s = .next t ∧ Keeps s t := by
  unfold execOther
  repeat' split
  · exact ⟨_, rfl, s.uplink_keeps _ f (s.offerTagFrame_keeps _ _ (s.judgeHello_keeps _))⟩
  · exact ⟨_, rfl, s.uplink_keeps _ f (s.offerTagFrame_keeps _ _ (s.judgeData_keeps _))⟩
  · exact ⟨_, rfl, s.uplink_keeps _ f (s.offerTagFrame_keeps _ _ (s.judgeCommit_keeps _))⟩
  · exact ⟨_, rfl, s.uplink_keeps _ f (s.takeCredit_keeps _)⟩
  · exact ⟨_, rfl, s.uplink_keeps _ f (s.takeSent_keeps _)⟩
  · exact ⟨_, rfl, s.uplink_keeps _ f (s.takeSendFailed_keeps _)⟩
  · exact ⟨_, rfl, s.uplink_keeps _ f (s.forward_keeps _ _)⟩

/-- Every command answers a state that keeps the bounds and the laws of the passes. -/
theorem exec_keeps (i : Instr) (s : State) : ∃ t, exec i s = .next t ∧ Keeps s t := by
  cases i with
  | hello f => exact ⟨_, rfl, s.uplink_keeps _ f (s.offerTagFrame_keeps _ _ (s.judgeHello_keeps _))⟩
  | data f => exact ⟨_, rfl, s.uplink_keeps _ f (s.offerTagFrame_keeps _ _ (s.judgeData_keeps _))⟩
  | commit f => exact ⟨_, rfl, s.uplink_keeps _ f (s.offerTagFrame_keeps _ _ (s.judgeCommit_keeps _))⟩
  | other kind f => exact execOther_keeps kind f s
  | credit f => exact ⟨_, rfl, s.uplink_keeps _ f (s.takeCredit_keeps _)⟩
  | sent f => exact ⟨_, rfl, s.uplink_keeps _ f (s.takeSent_keeps _)⟩
  | sendFailed f => exact ⟨_, rfl, s.uplink_keeps _ f (s.takeSendFailed_keeps _)⟩
  | downlinkSendStart => exact ⟨_, rfl, .ite fun h => State.startSend_keeps ((Bool.and_eq_true _ _).mp h).2⟩
  | downlinkFrameOut => exact ⟨_, rfl, s.frameOut_keeps _⟩
  | confirmationDeadline h => exact execConfirmationDeadline_keeps h s
  | downPassthrough f => exact ⟨_, rfl, s.laneFrame_keeps _ f⟩
  | openCompletion e => exact ⟨_, rfl, s.completeOpening_keeps e⟩
  | deriveJobCompletion e => exact ⟨_, rfl, s.completeJob_keeps e _ s.deriveEnd_keeps⟩
  | sessionJobCompletion e => exact ⟨_, rfl, s.completeJob_keeps e _ s.sessionEnd_keeps⟩
  | raJobCompletion e => exact ⟨_, rfl, s.completeJob_keeps e _ s.raEnd_keeps⟩
  | taJobCompletion e => exact ⟨_, rfl, s.completeJob_keeps e _ s.taEnd_keeps⟩
  | recordCodeComputeCompletion e => exact ⟨_, rfl, s.completeJob_keeps e _ s.computeEnd_keeps⟩
  | recordCodeVerifyCompletion e => exact ⟨_, rfl, s.completeJob_keeps e _ s.verifyEnd_keeps⟩
  | waJobCompletion e => exact ⟨_, rfl, s.completeJob_keeps e _ s.waEnd_keeps⟩
  | caJobCompletion e => exact ⟨_, rfl, s.completeJob_keeps e _ s.caEnd_keeps⟩
  | unwrapJobCompletion e => exact ⟨_, rfl, s.completeJob_keeps e _ s.unwrapEnd_keeps⟩
  | kcvJobCompletion e => exact ⟨_, rfl, s.completeJob_keeps e _ s.kcvEnd_keeps⟩
  | combineJobCompletion e => exact ⟨_, rfl, s.completeJob_keeps e _ s.combineEnd_keeps⟩
  | scrubJobCompletion e => exact ⟨_, rfl, s.completeJob_keeps e _ s.scrubEnd_keeps⟩
  | stepDeadlineExpiry c => exact ⟨_, rfl, s.expireStep_keeps c⟩
  | lifetimeDeadlineExpiry c => exact ⟨_, rfl, s.expireLifetime_keeps c⟩
  | recentPassAgeing => exact ⟨_, rfl, s.ageRecent_keeps⟩
  | slotOverdue n => exact ⟨_, rfl, .ite fun _ => s.noteOverdue_jobsOnly.keeps⟩
  | eraseCompletion => exact execEraseCompletion_keeps s
  | calendarAdvance => exact ⟨_, rfl, .ite fun _ => s.advanceCalendar_keeps⟩
  | request f => exact ⟨_, rfl, s.laneFrame_keeps _ f⟩
  | unknownRequestCode => exact ⟨_, rfl, s.take_keeps _ (underOrder_keeps fun _ t => t.respond_keeps _ _ _)⟩
  | readStatus => exact ⟨_, rfl, s.take_keeps _ (underOrder_keeps judgeReadStatus_keeps)⟩
  | readCounters => exact ⟨_, rfl, s.takeRequest_keeps _ fun _ t => t.respond_keeps _ _ _⟩
  | clearEvents => exact ⟨_, rfl, s.takeRequest_keeps _ judgeClearEvents_keeps⟩
  | setAlertMask => exact ⟨_, rfl, s.takeRequest_keeps _ judgeSetAlertMask_keeps⟩
  | setProfile => exact ⟨_, rfl, s.takeRequest_keeps _ judgeSetProfile_keeps⟩
  | setTiming => exact ⟨_, rfl, s.takeRequest_keeps _ judgeSetTiming_keeps⟩
  | setService => exact ⟨_, rfl, s.takeRequest_keeps _ judgeSetService_keeps⟩
  | setCalendar => exact ⟨_, rfl, s.takeRequest_keeps _ judgeSetCalendar_keeps⟩
  | hold => exact ⟨_, rfl, s.takeRequest_keeps _ judgeHold_keeps⟩
  | rootPart1 => exact ⟨_, rfl, s.takeRequest_keeps _ judgeRootPart1_keeps⟩
  | rootPart2 => exact ⟨_, rfl, s.take_keeps _ judgeRootPart2_keeps⟩
  | lockRoot => exact ⟨_, rfl, s.takeRequest_keeps _ judgeLockRoot_keeps⟩
  | keyLoadA => exact ⟨_, rfl, s.takeRequest_keeps _ judgeKeyLoadA_keeps⟩
  | keyLoadB => exact ⟨_, rfl, s.take_keeps _ judgeKeyLoadB_keeps⟩
  | activate => exact ⟨_, rfl, s.takeRequest_keeps _ judgeActivate_keeps⟩
  | retire => exact ⟨_, rfl, s.takeRequest_keeps _ judgeRetire_keeps⟩
  | erase => exact ⟨_, rfl, s.takeRequest_keeps _ judgeErase_keeps⟩
  | selectWriteGen => exact ⟨_, rfl, s.takeRequest_keeps _ judgeSelectWriteGen_keeps⟩
  | readSlot => exact ⟨_, rfl, s.takeRequest_keeps _ judgeReadSlot_keeps⟩
  | zeroise => exact ⟨_, rfl, s.take_keeps _ (outsideInit_keeps judgeZeroise_keeps)⟩
  | zeroiseLine => exact ⟨_, rfl, s.assertZeroise_keeps⟩
  | laneSendStart => exact ⟨_, rfl, .ite fun _ => s.startLaneSend_keeps⟩
  | laneFrameOut => exact ⟨_, rfl, .of_bounds (.of_lane rfl rfl rfl rfl id) rfl rfl id⟩
  | lrdyAsserted => exact ⟨_, rfl, s.setLines_keeps fun l => { l with lrdy := true }⟩
  | supplyFail => exact ⟨_, rfl, s.assertSupplyFail_keeps⟩
  | wake => exact ⟨_, rfl, s.assertWake_keeps⟩
  | supplyFailDeasserted => exact ⟨_, rfl, s.deassertSupplyFail_keeps⟩
  | laneReset => exact ⟨_, rfl, s.assertReset_keeps⟩
  | resetDeasserted => exact ⟨_, rfl, s.deassertReset_keeps⟩
  | powerOnReset => exact ⟨_, rfl, s.powerOn_keeps⟩
  | lrdyDeasserted => exact ⟨_, rfl, s.setLines_keeps fun l => { l with lrdy := false }⟩
  | wakeDeasserted => exact ⟨_, rfl, s.setLines_keeps _⟩
  | laneFrameOfOutgoingClass cls f => exact ⟨_, rfl, s.laneFrame_keeps cls f⟩

/-- Every step keeps the bounds and the laws of the passes. -/
theorem step_keeps {s t : State} (h : step s = .next t) : Keeps s t := by
  have run : ∀ (i : Instr) (u : State), exec i u = .next t → Keeps u t := by
    intro i u hi
    obtain ⟨t', ht', hk⟩ := exec_keeps i u
    rw [hi] at ht'
    exact Host.Outcome.next.inj ht' ▸ hk
  unfold step at h
  split at h
  · exact .after (run _ _ h) (.of_eq rfl rfl rfl rfl rfl rfl id)
  · split at h
    · exact run _ _ h
    · exact Host.Outcome.next.inj h ▸ s.tick_keeps

/-! ### The bound of the downlink queue (R5) -/

/-- A queue whose frames are owned as their kinds ask holds its CLOSE and passthrough frames and those its contexts
own. -/
theorem length_eq_shared_add_owned (q : List DownEntry) (h : ∀ e ∈ q, e.owner = none ↔ e.body.isShared = true) :
    q.length = q.countP (fun e => e.body.isShared) + ∑ c : ContextNo, q.countP fun e => ownedBy c e.owner := by
  induction q with
  | nil => simp
  | cons e q ih =>
    have hq := ih fun e he => h e (List.mem_cons_of_mem _ he)
    have he := h e List.mem_cons_self
    simp only [List.countP_cons, Finset.sum_add_distrib, List.length_cons]
    cases ho : e.owner with
    | none => simp [he.mp ho, hq]; omega
    | some d =>
      have hs : e.body.isShared = false := by
        rw [← Bool.not_eq_true, ← he, ho]; simp
      simp [hs, ownedBy_some, hq]
      omega

/-- With at most 8 CLOSE and passthrough frames and one step frame for each of 32 contexts the queue holds 40. -/
theorem State.queue_le {s : State} (h : s.passesLawful) (hb : s.air.bounded) : s.air.queue.length ≤ 40 := by
  obtain ⟨hw, hn, ha⟩ := (State.framesLawful_iff s).mp h.2
  obtain ⟨-, -, hs, -⟩ := hb
  have one : ∀ c, s.air.queue.countP (fun e => ownedBy c e.owner) ≤ 1 := by
    intro c
    have hle : s.air.queue.countP (fun e => ownedBy c e.owner) ≤ s.air.copies c := by
      unfold AirPort.copies; omega
    cases hx : s.context c with
    | none => rw [hn c hx] at hle; omega
    | some x =>
      refine hle.trans ((Nat.le_add_right _ _).trans ((ha c x hx).1.trans ?_))
      split <;> omega
  have hsum : ∑ c : ContextNo, s.air.queue.countP (fun e => ownedBy c e.owner) ≤ 32 := by
    simpa using Finset.sum_le_card_nsmul Finset.univ _ 1 fun c _ => one c
  rw [length_eq_shared_add_owned _ hw.1]
  unfold AirPort.sharedCount at hs
  omega

/-- Settles O6: every command keeps the bounds and the laws (`exec_keeps`), and the laws bound the queue
(`State.queue_le`). -/
theorem stepKeepsBounds : Obligations.StepKeepsBounds :=
  ⟨fun _ _ h => ⟨(step_keeps h).lane, (step_keeps h).air, (step_keeps h).tables, (step_keeps h).passes⟩,
    fun _ => State.queue_le⟩

end Sys2Proof.Machine
end

section
/-! SUPPORT. What the end of a pass leaves, whatever its own context and frames have gone through in the same step, and
what an issued job leaves (R8, R15, R38, R53, R57, R127). -/

namespace Sys2Proof.Machine

/-! ### Work on one context and its frames -/

/-- u is s but for context c and the air port. -/
structure OwnChange (s u : State) (c : ContextNo) : Prop where
  rest : u = { s with air := u.air, passes := { s.passes with contexts := u.passes.contexts } }
  contexts : ∀ d, d ≠ c → u.context d = s.context d

namespace OwnChange

theorem trans {s t u : State} {c : ContextNo} (h : OwnChange s t c) (k : OwnChange t u c) : OwnChange s u c :=
  ⟨by rw [k.rest, h.rest], fun d hd => (k.contexts d hd).trans (h.contexts d hd)⟩

/-- A step of its own work later, the later part first. -/
theorem after {s t u : State} {c : ContextNo} (k : OwnChange t u c) (h : OwnChange s t c) : OwnChange s u c :=
  h.trans k

theorem refl (s : State) (c : ContextNo) : OwnChange s s c := ⟨rfl, fun _ _ => rfl⟩

theorem setContext (s : State) (c : ContextNo) (x : Option Context) : OwnChange s (s.setContext c x) c :=
  ⟨rfl, fun d hd => (s.context_setContext c d x).trans (if_neg hd)⟩

theorem modContext (s : State) (c : ContextNo) (f : Context → Context) : OwnChange s (s.modContext c f) c :=
  setContext s c _

theorem withdrawFrames (s : State) (c : ContextNo) : OwnChange s (s.withdrawFrames c) c :=
  ⟨rfl, fun _ _ => rfl⟩

theorem removeConfirm (s : State) (e : ConfirmEntry) (c : ContextNo) : OwnChange s (s.removeConfirm e) c :=
  ⟨rfl, fun _ _ => rfl⟩

theorem clock {s u : State} {c : ContextNo} (h : OwnChange s u c) : u.clock = s.clock := by rw [h.rest]
theorem profile {s u : State} {c : ContextNo} (h : OwnChange s u c) : u.profile = s.profile := by rw [h.rest]
theorem recent {s u : State} {c : ContextNo} (h : OwnChange s u c) : u.recent = s.recent := by rw [h.rest]
theorem events {s u : State} {c : ContextNo} (h : OwnChange s u c) : u.events = s.events := by rw [h.rest]
theorem lane {s u : State} {c : ContextNo} (h : OwnChange s u c) : u.lane = s.lane := by rw [h.rest]
theorem keys {s u : State} {c : ContextNo} (h : OwnChange s u c) : u.keys = s.keys := by rw [h.rest]
theorem cipher {s u : State} {c : ContextNo} (h : OwnChange s u c) : u.cipher = s.cipher := by rw [h.rest]

theorem passFrame {s u : State} {c : ContextNo} (h : OwnChange s u c) : s.passFrame u c :=
  State.passFrame_of (by rw [h.rest]) h.contexts

theorem engine {s u : State} {c : ContextNo} (h : OwnChange s u c) (e : EngineNo) : u.engine e = s.engine e := by
  unfold State.engine
  rw [h.cipher]

/-- Work on jobs that follows, in the words of the claims. -/
theorem jobsApart {s u t : State} {c : ContextNo} (h : OwnChange s u c) (k : JobsOnly u t) :
    { s with air := u.air }.jobsApart t (some c) :=
  k.jobsApart_after (by rw [h.rest]) h.contexts

end OwnChange

/-! ### The end of a pass, as its context or its report shows it -/

/-- The pass of context c has ended as y, with result r: y stands in its context, but for the current job, or its report
is in the report queue beyond the first n entries and the context is FREE. -/
def State.leaves (t : State) (n : Nat) (c : ContextNo) (y : Context) (r : PassResult) : Prop :=
  (∃ j, t.context c = some { y with currentJob := j }) ∨
    (t.context c = none ∧ ReportItem.report (y.report r) ∈ t.lane.reports.drop n)

/-- A stall leaves every context and the report queue (R58). -/
theorem State.stall_context (s : State) (d c : ContextNo) : (s.stall d).context c = s.context c := by
  unfold State.stall State.context
  split
  · rfl
  · rw [State.raise_passes]

theorem State.stall_reports (s : State) (d : ContextNo) : (s.stall d).lane.reports = s.lane.reports := by
  unfold State.stall
  split
  · rfl
  · rw [State.raise_reports]

theorem State.release_context_ne (s : State) {c d : ContextNo} (h : c ≠ d) (x : Context) :
    (s.release d x).context c = s.context c := by
  show (State.setContext _ d none).context c = _
  rw [State.context_setContext, if_neg h]
  rfl

/-- Releases that follow keep what an ended pass shows (R57). -/
theorem State.leaves_releaseHeads {n : Nat} {c : ContextNo} {y : Context} {r : PassResult} (hr : y.result = some r)
    (k : Nat) (z : ZoneNo) {s : State} (hn : n ≤ s.lane.reports.length) (h : s.leaves n c y r) :
    (s.releaseHeads k z).leaves n c y r := by
  have grow : ∀ (l m : List ReportItem) (p : ReportItem), p ∈ l.drop n → p ∈ (l ++ m).drop n := by
    intro l m p hp
    rw [List.drop_append]
    exact List.mem_append_left _ hp
  induction k generalizing s with
  | zero => exact h
  | succ k ih =>
    unfold State.releaseHeads
    split
    · exact h
    · rename_i d _ _
      split
      · exact h
      · rename_i w hw
        split
        · split
          · refine ih (by show n ≤ (s.lane.reports ++ [_]).length; rw [List.length_append]; omega) ?_
            by_cases hd : c = d
            · subst hd
              rcases h with ⟨j, hj⟩ | ⟨hf, -⟩
              · obtain rfl := Option.some.inj (hw.symm.trans hj)
                refine .inr ⟨State.context_setContext_self _ _ _, ?_⟩
                show _ ∈ (s.lane.reports ++ [_]).drop n
                rw [List.drop_append_of_le_length hn, show Context.report _ _ = y.report r by simp only [hr]; rfl]
                exact List.mem_append_right _ (List.mem_singleton_self _)
              · rw [hw] at hf; cases hf
            · rcases h with ⟨j, hj⟩ | ⟨hf, hp⟩
              · exact .inl ⟨j, by rw [State.release_context_ne s hd, hj]⟩
              · exact .inr ⟨by rw [State.release_context_ne s hd, hf], grow _ _ _ hp⟩
          · rcases h with ⟨j, hj⟩ | ⟨hf, hp⟩
            · exact .inl ⟨j, by rw [State.stall_context, hj]⟩
            · exact .inr ⟨by rw [State.stall_context, hf], by rw [State.stall_reports]; exact hp⟩
        · exact h

theorem State.offerClose_reports (s : State) (z : ZoneNo) (tag : TagNumber) (ok : Bool) :
    (s.offerClose z tag ok).lane.reports = s.lane.reports := by
  unfold State.offerClose
  split
  · rfl
  · rw [State.raise_reports]

theorem State.handRecent_lane (s : State) (x : Context) (r : PassResult) : (s.handRecent x r).lane = s.lane := by
  unfold State.handRecent
  split <;> rfl

/-- The context in DONE with its result (R53). -/
def Context.finished (x : Context) (r : PassResult) (tick : Tick) : Context :=
  { x.concluded r tick with state := .done }

/-- What the end of a pass shows of it (R53, R57). -/
theorem State.endPass_leaves {s : State} {c : ContextNo} {x : Context} (hs : s.context c = some x) (r : PassResult) :
    (s.endPass c r).leaves s.lane.reports.length c (x.finished r s.clock.laneTime) r := by
  rw [State.endPass_eq hs]
  refine State.leaves_releaseHeads rfl _ _ ?_ (.inl ?_)
  · show _ ≤ (State.handRecent _ x r).lane.reports.length
    rw [State.handRecent_lane, State.offerClose_reports, (s.concludes_jobsOnly c x r).lane]
    exact le_rfl
  · obtain ⟨j, hj⟩ := s.concludes_context c x r
    exact ⟨j, by rw [State.context_modContext, if_pos rfl, State.handRecent_context, State.offerClose_context, hj]; rfl⟩

/-! ### All that the end of a pass leaves -/

/-- The pass of context c has ended with result r between s and t: x is its context, and a the air port, as they stood
when the end came (R53). -/
structure PassEnds (s t : State) (c : ContextNo) (x : Context) (a : AirPort) (r : PassResult) : Prop where
  frame : s.passFrame t c
  ended : t.ended c x r s.clock.laneTime
  recent : t.recent = (s.handRecent x r).recent
  closes : s.closes t (a.withdraw c) x.servingZone x.tagNumber r.closesOk
  leaves : t.leaves s.lane.reports.length c (x.finished r s.clock.laneTime) r
  disowned : t.air.disowned c

/-- What closes says rests on the events and the contexts in DONE before, and on the air port and the events after. -/
theorem State.closes_of {s s' t t' : State} {a : AirPort} {z : ZoneNo} {tag : TagNumber} {ok : Bool}
    (h : s.closes t a z tag ok) (hev : s'.events = s.events) (ht : t'.air = t.air) (htv : t'.events = t.events)
    (hc : ∀ e ∈ a.queue, ∀ d, e.owner = some d → s'.context d = s.context d) : s'.closes t' a z tag ok := by
  obtain ⟨h1, h2, h3⟩ := h
  unfold State.closes
  rw [hev, ht, htv]
  refine ⟨h1, h2, fun e he => (h3 e he).imp_right ?_⟩
  rintro ⟨d, y, ho, hd, hy⟩
  exact ⟨d, y, ho, (hc e he d ho).trans hd, hy⟩

/-- The entry handed to the recent-pass table rests on the table, the clock and the repeat window. -/
theorem State.handRecent_recent_of {s u : State} (hr : u.recent = s.recent) (hc : u.clock = s.clock)
    (hp : u.profile = s.profile) (x : Context) (r : PassResult) : (u.handRecent x r).recent = (s.handRecent x r).recent := by
  have ha : u.agedEntry = s.agedEntry := by
    funext y
    unfold State.agedEntry
    rw [hc, hp]
  unfold State.handRecent
  rw [hc]
  split
  · unfold State.insertRecent State.ageRecent
    simp only [hr, ha]
  · exact hr

/-- The end of a pass, after work on its context and its frames alone (R53). -/
theorem State.endPass_ends {s u : State} {c : ContextNo} (hu : OwnChange s u c) {x : Context}
    (hx : u.context c = some x) (r : PassResult) : PassEnds s (u.endPass c r) c x u.air r where
  frame := State.passFrame_trans hu.passFrame (u.endPass_passFrame c r)
  ended := by rw [← hu.clock]; exact State.endPass_ended hx r
  recent := by
    rw [State.endPass_recent hx, State.handRecent_recent_of hu.recent hu.clock hu.profile]
  closes := by
    refine State.closes_of (State.endPass_closes hx r) hu.events.symm rfl rfl fun e he d ho => ?_
    exact (hu.contexts d fun h => (u.air.withdraw_disowned c).1 e he (h ▸ ho)).symm
  leaves := by rw [← hu.clock, ← hu.lane]; exact State.endPass_leaves hx r
  disowned := State.endPass_disowned hx r

namespace PassEnds

/-- Work on jobs that follows leaves the pass ended (R132). -/
theorem jobs {s t v : State} {c : ContextNo} {x : Context} {a : AirPort} {r : PassResult} (h : PassEnds s t c x a r)
    (k : JobsOnly t v) : PassEnds s v c x a r where
  frame := State.passFrame_trans h.frame (k.passFrame c)
  ended := k.ended h.ended
  recent := k.recent.trans h.recent
  closes := State.closes_of h.closes rfl k.air k.events fun _ _ _ _ => rfl
  leaves := by
    rcases h.leaves with ⟨j, hj⟩ | ⟨hf, hp⟩
    · obtain ⟨j', hj'⟩ := k.context_some hj
      exact .inl ⟨j', hj'⟩
    · exact .inr ⟨k.context_none hf, by rw [k.lane]; exact hp⟩
  disowned := by rw [k.air]; exact h.disowned

/-- What the finished context and its report have, whatever its current job, the part shows (R57, R59). -/
theorem shows {s t : State} {c : ContextNo} {x : Context} {a : AirPort} {r : PassResult} (h : PassEnds s t c x a r)
    {p : Context → Prop} {q : PassReport → Prop} (hp : ∀ j, p { x.finished r s.clock.laneTime with currentJob := j })
    (hq : q ((x.finished r s.clock.laneTime).report r)) : s.shows t c x p q := by
  rcases h.leaves with ⟨j, hj⟩ | ⟨hf, hr⟩
  · exact .inl ⟨_, hj, hp j⟩
  · exact .inr ⟨hf, _, hr, rfl, rfl, hq⟩

end PassEnds

/-! ### A job that is issued -/

/-- The test for a scrub writes no context (R99). -/
theorem State.scrubTest_context (s : State) (c : ContextNo) : s.scrubTest.context c = s.context c := by
  have arrive : ∀ (t : State) n f, (t.issueScrub n f).context c = t.context c := by
    intro t n f
    unfold State.issueScrub State.arrive
    split <;> rfl
  unfold State.scrubTest
  repeat' split
  · exact arrive _ _ _
  · rfl
  · exact arrive _ _ _
  · rfl
  · rfl

/-- The issue of a job writes no other context (R38, R127). -/
theorem State.issueFor_context_ne (s : State) {c d : ContextNo} (h : d ≠ c) (kind : JobKind) (key : KeyId)
    (input : List Block) : (s.issueFor c kind key input).context d = s.context d := by
  have mod : ∀ (t : State) f, (t.modContext c f).context d = t.context d := fun t f => by
    rw [State.context_modContext, if_neg h]
  show (match State.idleEngineFor _ _ with | some e => _ | none => _ : State).context d = _
  split
  · rw [State.scrubTest_context]
    exact (mod _ _).trans (mod s _)
  · exact mod s _

/-- The job that was issued is held, with no job ending meanwhile (R127). -/
theorem State.hasJob_issueFor (s : State) (c : ContextNo) (kind : JobKind) (key : KeyId) (input : List Block) :
    (s.issueFor c kind key input).hasJob kind (.context c) key input [] :=
  (State.hasJob_iff _ _ _ _ _ _).mpr (State.someJob_issueFor c kind key input (by simp) (.inr ⟨rfl, rfl, rfl, rfl, rfl⟩))

/-- The job that was issued at the end of another on engine e is held after that end (R127, R132). -/
theorem State.hasJob_issueFor_afterEnd {s : State} {e : EngineNo} (hb : (s.engine e).isIdle = false) (c : ContextNo)
    (kind : JobKind) (key : KeyId) (input : List Block) :
    (((s.issueFor c kind key input).engineEnd e).arbitrate e).hasJob kind (.context c) key input [] :=
  State.hasJob_afterEnd e (State.someJob_issueFor c kind key input
    (fun _ hd => Option.some.inj hd ▸ hb) (.inr ⟨rfl, rfl, rfl, rfl, rfl⟩))

end Sys2Proof.Machine
end

section
/-! PROOF. The air port: handles, uplink frames, admission, sends, and the confirmations that reach an owner
(chapter 1; R44 to R46, R76). -/

namespace Sys2Proof.Machine

/-! ### Handles (R6) -/

/-- With a free handle within reach the search finds the first (R6 steps 1 and 2). -/
theorem AirPort.freeHandle_first (a : AirPort) (k : Nat) (h : Byte)
    (hf : ∃ i, i < k ∧ a.inUse (h + BitVec.ofNat 8 i) = false) :
    ∃ j, j < k ∧ a.freeHandle k h = h + BitVec.ofNat 8 j ∧ a.inUse (h + BitVec.ofNat 8 j) = false ∧
      ∀ i, i < j → a.inUse (h + BitVec.ofNat 8 i) = true := by
  induction k generalizing h with
  | zero => obtain ⟨i, hi, -⟩ := hf; exact absurd hi (Nat.not_lt_zero i)
  | succ k ih =>
    have hnext : ∀ i, h + BitVec.ofNat 8 (i + 1) = h + 1 + BitVec.ofNat 8 i := by
      intro i
      rw [BitVec.add_assoc, Nat.add_comm i 1, BitVec.ofNat_add]
      rfl
    unfold AirPort.freeHandle
    by_cases hu : a.inUse h = true
    · have hf' : ∃ i, i < k ∧ a.inUse (h + 1 + BitVec.ofNat 8 i) = false := by
        obtain ⟨i, hi, hfree⟩ := hf
        cases i with
        | zero => simp [hu] at hfree
        | succ i => exact ⟨i, by omega, by rw [← hnext]; exact hfree⟩
      obtain ⟨j, hj, he, hfree, hfirst⟩ := ih (h + 1) hf'
      refine ⟨j + 1, by omega, by rw [if_pos hu, he, hnext], by rw [hnext]; exact hfree, fun i hi => ?_⟩
      cases i with
      | zero => simpa using hu
      | succ i => rw [hnext]; exact hfirst i (by omega)
    · have h0 : h + BitVec.ofNat 8 0 = h := BitVec.add_zero h
      exact ⟨0, Nat.succ_pos k, by rw [if_neg hu, h0], by rw [h0]; exact Bool.not_eq_true _ ▸ hu,
        fun i hi => absurd hi (Nat.not_lt_zero i)⟩

/-- The handles in use, one for each frame. -/
def AirPort.handles (a : AirPort) : List Byte :=
  a.queue.map DownEntry.handle ++ a.tx.toList.map (fun t => t.entry.handle) ++ a.confirm.map ConfirmEntry.handle

theorem AirPort.inUse_iff (a : AirPort) (h : Byte) : a.inUse h = true ↔ h ∈ a.handles := by
  unfold AirPort.inUse AirPort.handles
  cases a.tx <;> simp [or_assoc, @eq_comm _ h]

/-- Fewer than 256 handles in use leave one free (R6). -/
theorem AirPort.exists_free {a : AirPort} (hl : a.handles.length < 256) (h : Byte) :
    ∃ i, i < 256 ∧ a.inUse (h + BitVec.ofNat 8 i) = false := by
  by_contra hno
  have hall : ∀ i, i < 256 → h + BitVec.ofNat 8 i ∈ a.handles := by
    intro i hi
    by_contra hm
    exact hno ⟨i, hi, by rw [← Bool.not_eq_true, AirPort.inUse_iff]; exact hm⟩
  have hinj : ∀ i ∈ List.range 256, ∀ j ∈ List.range 256,
      h + BitVec.ofNat 8 i = h + BitVec.ofNat 8 j → i = j := by
    intro i hi j hj e
    rw [List.mem_range] at hi hj
    have := congrArg BitVec.toNat (add_left_cancel e)
    simpa [Nat.mod_eq_of_lt hi, Nat.mod_eq_of_lt hj] using this
  have hsub : ((List.range 256).map fun i => h + BitVec.ofNat 8 i) ⊆ a.handles := by
    intro b hb
    obtain ⟨i, hi, rfl⟩ := List.mem_map.mp hb
    exact hall i (List.mem_range.mp hi)
  have := (List.subperm_of_subset (List.nodup_range.map_on hinj) hsub).length_le
  rw [List.length_map, List.length_range] at this
  omega

/-- Settles O12: at most 57 of the 256 handles are in use, so the search of `freeHandle_first` finds one. -/
theorem handleChoice : Obligations.HandleChoice := by
  intro a zone owner body hq hc
  have htx : a.tx.toList.length ≤ 1 := by cases a.tx <;> simp
  have hl : a.handles.length < 256 := by
    simp only [AirPort.handles, List.length_append, List.length_map]
    omega
  obtain ⟨k, hk, he, hfree, hfirst⟩ := a.freeHandle_first 256 a.nextHandle (AirPort.exists_free hl _)
  refine ⟨k, _, hk, rfl, hfree, hfirst, ?_⟩
  unfold AirPort.enqueue AirPort.chosenHandle
  rw [he]

/-! ### Uplink frames (R1 to R3) -/

/-- A control frame has one of the three baseband kinds. -/
theorem isTagKind_eq_false (kind : Byte) : isTagKind kind = false ↔ kind ∈ [0x10#8, 0x11#8, 0x12#8] := by
  simp [isTagKind, or_iff_not_imp_left]

/-- While the ports are not live no frame is taken (R2). -/
theorem State.uplink_of_not_live {s : State} (h : s.live = false) (kind : Byte) (f : PortFrame) (act : State → State) :
    s.uplink kind f act = s := by
  simp [State.uplink, h]

/-- A tag frame in INIT is dropped (R2). -/
theorem State.uplink_in_init {s : State} (hl : s.live = true) (hd : s.device = .init) {kind : Byte}
    (hk : isTagKind kind = true) (f : PortFrame) (act : State → State) : s.uplink kind f act = s := by
  simp [State.uplink, hl, hd, hk]

/-- A frame that passes its checks is acted on (R1). -/
theorem State.uplink_of_good {s : State} (hl : s.live = true) {kind : Byte}
    (hd : isTagKind kind = true → s.device ≠ .init) {f : PortFrame} (hg : airFrameGood kind f = true)
    (act : State → State) : s.uplink kind f act = act s := by
  cases hk : isTagKind kind with
  | false => simp [State.uplink, hl, hk, hg]
  | true => simp [State.uplink, hl, hk, hg, hd hk]

/-- A frame that fails its checks is dropped with AIR-CRC (R1). -/
theorem State.uplink_of_bad {s : State} (hl : s.live = true) {kind : Byte}
    (hd : isTagKind kind = true → s.device ≠ .init) {f : PortFrame} (hg : airFrameGood kind f = false)
    (act : State → State) : s.uplink kind f act = s.raise .airCrc := by
  cases hk : isTagKind kind with
  | false => simp [State.uplink, hl, hk, hg]
  | true => simp [State.uplink, hl, hk, hg, hd hk]

/-- Frames the part takes no part in: an OTHER frame, and a tag frame that names issuer 0xFFFF (R2, R3). -/
def passesThrough (kind : Byte) (p : List Byte) : Prop :=
  namedUplinkCode kind = false ∨
    (kind ∈ [0x01#8, 0x02#8, 0x03#8] ∧ BitVec.ofNat 16 (field p 2 2) = 0xFFFF#16)

/-- Every uplink command is checked and acted on by its kind, and one that passes through is forwarded. -/
theorem exec_uplink {i : Instr} {kind : Byte} {f : PortFrame} (h : uplinkFrame i = some (kind, f)) (s : State) :
    ∃ act : State → State, exec i s = .next (s.uplink kind f act) ∧
      (passesThrough kind f.payload → act s = s.forward kind f.payload) := by
  have tag : ∀ (k : Byte) (judge : State → List Byte → State), namedUplinkCode k = true →
      passesThrough k f.payload → s.offerTagFrame k f.payload judge = s.forward k f.payload := by
    intro k judge hn hp
    rcases hp with hp | ⟨-, hp⟩
    · rw [hn] at hp; cases hp
    · exact if_pos hp
  have control : ∀ (k : Byte) (t : State), namedUplinkCode k = true → k ∉ [0x01#8, 0x02#8, 0x03#8] →
      passesThrough k f.payload → t = s.forward k f.payload := by
    intro k t hn hk hp
    rcases hp with hp | ⟨hp, -⟩
    · rw [hn] at hp; cases hp
    · exact absurd hp hk
  cases i with
  | hello g => cases h; exact ⟨_, rfl, tag _ _ rfl⟩
  | data g => cases h; exact ⟨_, rfl, tag _ _ rfl⟩
  | commit g => cases h; exact ⟨_, rfl, tag _ _ rfl⟩
  | credit g => cases h; exact ⟨_, rfl, control _ _ rfl (by decide)⟩
  | sent g => cases h; exact ⟨_, rfl, control _ _ rfl (by decide)⟩
  | sendFailed g => cases h; exact ⟨_, rfl, control _ _ rfl (by decide)⟩
  | other k g =>
    cases h
    show ∃ act, execOther kind f s = _ ∧ _
    unfold execOther
    split
    · subst_vars; exact ⟨_, rfl, tag _ _ rfl⟩
    · split
      · subst_vars; exact ⟨_, rfl, tag _ _ rfl⟩
      · split
        · subst_vars; exact ⟨_, rfl, tag _ _ rfl⟩
        · split
          · subst_vars; exact ⟨_, rfl, control _ _ rfl (by decide)⟩
          · split
            · subst_vars; exact ⟨_, rfl, control _ _ rfl (by decide)⟩
            · split
              · subst_vars; exact ⟨_, rfl, control _ _ rfl (by decide)⟩
              · exact ⟨_, rfl, fun _ => rfl⟩
  | _ => cases h

/-- Settles O11: the four clauses are the four ways of `State.uplink`. -/
theorem uplinkFramesCheckedAndForwarded : Obligations.UplinkFramesCheckedAndForwarded := by
  intro i kind f s hf
  obtain ⟨act, he, hact⟩ := exec_uplink hf s
  rw [he]
  have hk : isTagKind kind = true ↔ kind ∉ [0x10#8, 0x11#8, 0x12#8] := by
    rw [← isTagKind_eq_false, Bool.not_eq_false]
  refine ⟨fun hl => by rw [State.uplink_of_not_live hl], fun hl hd ht => by rw [State.uplink_in_init hl hd (hk.mpr ht)],
    fun hl hg hd => ?_, fun hl hd hg hp => ?_⟩
  · rw [State.uplink_of_bad hl (fun ht hi => hk.mp ht (hd hi)) hg]
  · rw [State.uplink_of_good hl (fun _ => hd) hg, hact hp]
    unfold State.forward
    exact ⟨fun h => by rw [if_pos h], fun h => by rw [if_neg (Nat.not_lt.mpr h)]⟩

/-! ### DOWN-PASSTHROUGH (R9, R159) -/

theorem AirPort.passthroughFits_iff (a : AirPort) (p : List Byte) :
    a.passthroughFits p = true ↔ a.passthroughCount < 4 ∧ a.sharedCount < 8 ∧ 1 ≤ p.length ∧ p.length ≤ 97 ∧
      (byteAt p 0).toNat < 8 := by
  simp [AirPort.passthroughFits, and_assoc]

/-- A DOWN-PASSTHROUGH that passes the lane port's checks is offered to the air port (R159). -/
theorem State.laneFrame_passthrough {s : State} (hl : s.live = true) {f : PortFrame}
    (hg : laneFrameGood 0x11#8 f = true) : s.laneFrame 0x11#8 f = s.offerPassthrough f.payload := by
  simp [State.laneFrame, hl, hg]

/-- Settles O15: admission is `AirPort.passthroughFits`. -/
theorem downPassthroughAdmission : Obligations.DownPassthroughAdmission := by
  intro f s hl hg
  have he : exec (.downPassthrough f) s = .next (s.offerPassthrough f.payload) :=
    congrArg Host.Outcome.next (State.laneFrame_passthrough hl hg)
  rw [he]
  unfold State.offerPassthrough
  refine ⟨fun zone body hp hz hb hc4 hc8 => ?_, fun h => ?_⟩
  · rw [hp, if_pos]
    · rfl
    · rw [AirPort.passthroughFits_iff]
      exact ⟨hc4, hc8, by simp, by simp only [List.length_cons]; omega, hz⟩
  · rw [if_neg]
    rw [AirPort.passthroughFits_iff]
    rintro ⟨h1, h2, h3, h4, h5⟩
    unfold AirPort.passthroughCount at h1
    unfold AirPort.sharedCount at h2
    rcases h with h | h | h | h | h
    · simp [h] at h3
    all_goals omega

/-! ### Downlink frames and their CRC (R10, R11, R187, R188) -/

/-- A number that stands whole between two strings is the field of its place and length. -/
theorem field_at {p l m : List Byte} {i k v : Nat} (hp : p = l ++ (toBytes k v ++ m)) (hi : l.length = i)
    (hv : v < 256 ^ k) : field p i k = v := by
  rw [hp, ← hi, ← Nat.add_zero l.length, field_append, field_toBytes k v m hv]

/-- A payload of zone, handle and four numbers has each number in its field. -/
theorem four_fields (z h : Byte) {k₁ k₂ k₃ k₄ v₁ v₂ v₃ v₄ : Nat} (h₁ : v₁ < 256 ^ k₁) (h₂ : v₂ < 256 ^ k₂)
    (h₃ : v₃ < 256 ^ k₃) (h₄ : v₄ < 256 ^ k₄) {p : List Byte}
    (hp : p = [z, h] ++ toBytes k₁ v₁ ++ toBytes k₂ v₂ ++ toBytes k₃ v₃ ++ toBytes k₄ v₄) :
    p.length = 2 + k₁ + k₂ + k₃ + k₄ ∧ field p 2 k₁ = v₁ ∧ field p (2 + k₁) k₂ = v₂ ∧
      field p (2 + k₁ + k₂) k₃ = v₃ ∧ field p (2 + k₁ + k₂ + k₃) k₄ = v₄ := by
  refine ⟨by simp [hp]; omega, ?_, ?_, ?_, ?_⟩
  · exact field_at (l := [z, h]) (m := toBytes k₂ v₂ ++ (toBytes k₃ v₃ ++ toBytes k₄ v₄)) (by simp [hp]) rfl h₁
  · exact field_at (l := [z, h] ++ toBytes k₁ v₁) (m := toBytes k₃ v₃ ++ toBytes k₄ v₄) (by simp [hp])
      (by simp; omega) h₂
  · exact field_at (l := [z, h] ++ toBytes k₁ v₁ ++ toBytes k₂ v₂) (m := toBytes k₄ v₄) (by simp [hp])
      (by simp; omega) h₃
  · exact field_at (l := [z, h] ++ toBytes k₁ v₁ ++ toBytes k₂ v₂ ++ toBytes k₃ v₃) (m := []) (by simp [hp])
      (by simp; omega) h₄

/-- A word of w bits is a number of k bytes, where 8 k bits hold w. -/
theorem toNat_lt_bytes {w : Nat} (v : BitVec w) {k : Nat} (h : w ≤ 8 * k) : v.toNat < 256 ^ k := by
  refine lt_of_lt_of_le v.isLt ?_
  rw [show 256 = 2 ^ 8 from rfl, ← Nat.pow_mul]
  exact Nat.pow_le_pow_right (by decide) h

/-- Every downlink frame has the code and the fields of its kind (section 11.1). -/
theorem DownEntry.laidOut_all (e : DownEntry) : e.laidOut := by
  obtain ⟨zone, handle, owner, body⟩ := e
  cases body with
  | step f =>
    cases f with
    | challenge tag nonce set ra =>
      exact ⟨_, by simp, by simp, wireFrame_framed _ _, four_fields zone handle (toNat_lt_bytes tag (k := 6) (by decide))
        (toNat_lt_bytes nonce (k := 8) (by decide)) (toNat_lt_bytes set (k := 1) (by decide))
        (toNat_lt_bytes ra (k := 4) (by decide)) rfl⟩
    | write tag counter record wa =>
      exact ⟨_, by simp, by simp, wireFrame_framed _ _, four_fields zone handle (toNat_lt_bytes tag (k := 6) (by decide))
        (toNat_lt_bytes counter (k := 3) (by decide)) (toNat_lt_bytes record (k := 16) (by decide))
        (toNat_lt_bytes wa (k := 4) (by decide)) rfl⟩
  | close tag ok =>
    refine ⟨_, by simp, by simp, wireFrame_framed _ _, by simp, ?_, ?_⟩
    · exact field_at (l := [zone, handle]) (m := [if ok then 0 else 1]) (by simp) rfl
        (toNat_lt_bytes tag (k := 6) (by decide))
    · cases ok <;> simp
  | passthrough body => exact ⟨[zone, handle] ++ body, rfl, rfl, wireFrame_framed _ _, rfl⟩

/-- One shift of the CRC register, in other words (R187). -/
theorem crcShift_eq {shift : BitVec 16 → BitVec 16}
    (h : ∀ g, shift g = if g.getLsbD 15 then (g <<< 1) ^^^ 0x1021#16 else g <<< 1) : shift = crcShift := by
  funext g
  rw [h, crcShift, BitVec.msb_eq_getLsbD_last]

/-- The start of a downlink send takes the head and one credit (R10). -/
theorem AirPort.startSend_cons {a : AirPort} {e : DownEntry} {rest : List DownEntry} (h : a.queue = e :: rest) :
    a.startSend = { a with
      queue := rest, credit := a.credit - 1, tx := some { entry := e, withdrawn := false, wire := e.wire } } := by
  unfold AirPort.startSend
  rw [h]

/-- The four conditions of a send (R10). -/
theorem AirPort.canSend_iff (a : AirPort) :
    a.canSend = true ↔ a.queue ≠ [] ∧ a.tx = none ∧ 0 < a.credit ∧ a.confirm.length < 16 := by
  simp [AirPort.canSend, and_assoc]

/-- Settles O14: `DownEntry.laidOut_all` for the bytes, `crc16_append` for the CRC, and the two meanings. -/
theorem downlinkSendAndFrameOut : Obligations.DownlinkSendAndFrameOut := by
  refine ⟨DownEntry.laidOut_all, ⟨rfl, by decide +kernel, fun l b shift hs => ?_⟩, fun s => ⟨?_, fun h => ?_, ?_⟩⟩
  · rw [crcShift_eq hs, crc16_append]
    rfl
  · intro e rest hl hq ht hc hf
    have hcan : s.air.canSend = true := s.air.canSend_iff.mpr ⟨by simp [hq], ht, hc, hf⟩
    show Host.Outcome.next (if _ then _ else _) = _
    rw [if_pos (by simp [hl, hcan]), AirPort.startSend_cons hq]
  · have hcan : s.air.canSend = false := by
      rw [← Bool.not_eq_true, AirPort.canSend_iff]
      rintro ⟨h1, h2, h3, h4⟩
      rcases h with h | h | h | h
      · exact h1 h
      · simp [h2] at h
      · omega
      · omega
    show Host.Outcome.next (if _ then _ else _) = _
    rw [if_neg (by simp [hcan])]
  · intro x hx
    show Host.Outcome.next { s with air := s.air.frameOut s.clock.laneTime } = _
    unfold AirPort.frameOut
    rw [hx]

end Sys2Proof.Machine
end

section
/-! PROOF. Confirmations and deadlines: a SENT, a failed send, a step deadline, a lifetime, and the age of the
recent-pass table (R4, R12 to R14, R44 to R46, R54, R76, R152). -/

namespace Sys2Proof.Machine

/-! ### A retry, or the end (R45, R46) -/

/-- With retries left a copy of the step frame is queued, and there is no step deadline (R45). -/
theorem State.retryOrEnd_retries {s : State} {c : ContextNo} {x : Context} {fr : StepFrame} (hx : s.context c = some x)
    (hf : x.stepFrame = some fr) (hr : 0 < x.retriesLeft) :
    s.retryOrEnd c = { s with
      air := s.air.enqueue (zoneByte x.servingZone) (some c) (.step fr)
      passes := { s.passes with contexts := tableSet s.passes.contexts c (some { x with
        retriesLeft := x.retriesLeft - 1, stepDeadline := none }) } } := by
  unfold State.retryOrEnd State.queueStep
  rw [hx]
  dsimp only
  rw [if_pos hr, State.context_setContext_self]
  dsimp only
  rw [hf]
  rfl

/-- The pass of context c has been given up between s and t (R45, R46, R53): NO-REPLY, or in WRITING and CONFIRMING
WRITE-UNCERTAIN with an uncertain recent-pass entry; a CLOSE FAIL is offered to the air port a. -/
def State.givenUp (s t : State) (c : ContextNo) (x : Context) (a : AirPort) : Prop :=
  s.passFrame t c ∧ s.closes t (a.withdraw c) x.servingZone x.tagNumber false ∧
    ((x.state = .writing ∨ x.state = .confirming) →
      t.ended c x .writeUncertain s.clock.laneTime ∧ t.recent = s.recentWith x x.counter true) ∧
    (¬(x.state = .writing ∨ x.state = .confirming) →
      t.ended c x .noReply s.clock.laneTime ∧ t.recent = s.recent)

/-- With no retries left the pass is given up. -/
theorem State.retryOrEnd_givesUp {s u : State} {c : ContextNo} (hu : OwnChange s u c) {x : Context}
    (hx : u.context c = some x) (hr : x.retriesLeft = 0) : s.givenUp (u.retryOrEnd c) c x u.air := by
  have he : u.retryOrEnd c = u.endPass c x.state.exhausted := by
    unfold State.retryOrEnd
    rw [hx]
    exact if_neg (by omega)
  rw [he]
  have h := fun r => State.endPass_ends hu hx r
  by_cases hw : x.state = .writing ∨ x.state = .confirming
  · have hres : x.state.exhausted = .writeUncertain := by rcases hw with hw | hw <;> rw [hw] <;> rfl
    rw [hres]
    exact ⟨(h _).frame, (h _).closes, fun _ => ⟨(h _).ended, (h _).recent⟩, fun hn => absurd hw hn⟩
  · have hres : x.state.exhausted = .noReply := by
      cases hst : x.state <;> simp_all [PassState.exhausted]
    rw [hres]
    exact ⟨(h _).frame, (h _).closes, fun hy => absurd hy hw, fun _ => ⟨(h _).ended, (h _).recent⟩⟩

/-- The context without its step deadline (R45, R46). -/
def Context.noDeadline (x : Context) : Context :=
  { x with stepDeadline := none }

/-- A retry once the step deadline has been removed. -/
theorem State.retryOrEnd_retries_noDeadline (s : State) {c : ContextNo} {x : Context} {fr : StepFrame}
    (hf : x.stepFrame = some fr) (hr : 0 < x.retriesLeft) :
    (s.setContext c (some x.noDeadline)).retryOrEnd c = { s with
      air := s.air.enqueue (zoneByte x.servingZone) (some c) (.step fr)
      passes := { s.passes with contexts := tableSet s.passes.contexts c (some { x with
        retriesLeft := x.retriesLeft - 1, stepDeadline := none }) } } := by
  rw [State.retryOrEnd_retries (x := x.noDeadline) (s.context_setContext_self c _) hf hr]
  simp only [State.setContext, tableSet_tableSet]
  rfl

/-- The end once the step deadline has been removed. -/
theorem State.retryOrEnd_givesUp_noDeadline {s u : State} {c : ContextNo} (hu : OwnChange s u c) {x : Context}
    (hr : x.retriesLeft = 0) : s.givenUp ((u.setContext c (some x.noDeadline)).retryOrEnd c) c x u.air :=
  State.retryOrEnd_givesUp (x := x.noDeadline) (hu.trans (.setContext u c _)) (u.context_setContext_self c _) hr

/-! ### A failed send (R13, R14) -/

/-- A frame that reaches the air port's control side while the ports are live is acted on (R4, R12, R13). -/
theorem State.uplink_control {s : State} (hl : s.live = true) {kind : Byte} (hk : isTagKind kind = false) {f : PortFrame}
    (hg : airFrameGood kind f = true) (act : State → State) : s.uplink kind f act = act s :=
  State.uplink_of_good hl (fun h => absurd h (by rw [hk]; decide)) hg act

/-- The owner with a step frame is told of the failure (R13, R14, R45). -/
theorem State.reportFailed_owner {s : State} {c : ContextNo} {x : Context} {fr : StepFrame} (hx : s.context c = some x)
    (hf : x.stepFrame = some fr) : s.reportFailed (some c) = s.retryOrEnd c := by
  unfold State.reportFailed
  dsimp only
  rw [hx]
  exact if_pos (by rw [hf]; rfl)

/-- A SEND-FAILED for a handle that awaits confirmation, and the expiry of its deadline, remove the entry and tell the
owner. -/
theorem exec_failed {s : State} (hl : s.live = true) {i : Instr} {e : ConfirmEntry}
    (hi : (∃ f, i = .sendFailed f ∧ airFrameGood 0x12#8 f = true ∧ s.air.awaiting (byteAt f.payload 0) = some e) ∨
      (∃ h, i = .confirmationDeadline h ∧ s.air.awaiting h = some e ∧ expired e.deadline s.clock.laneTime = true)) :
    exec i s = .next ((s.removeConfirm e).reportFailed e.owner) := by
  rcases hi with ⟨f, rfl, hg, ha⟩ | ⟨h, rfl, ha, hx⟩
  · show Host.Outcome.next (s.uplink _ f _) = _
    rw [State.uplink_control hl rfl hg]
    unfold State.takeSendFailed
    rw [ha]
  · show execConfirmationDeadline h s = _
    unfold execConfirmationDeadline
    rw [ha]
    dsimp only
    rw [if_pos hx]

/-- Settles O13: `exec_failed`, and then a retry or the end. -/
theorem failedSendRetriesOrEnds : Obligations.FailedSendRetriesOrEnds := by
  intro s hl
  refine ⟨fun i e hi => ⟨fun ho => ?_, fun c x fr ho hx hf hr => ?_, fun c x fr ho hx hf hr => ?_⟩,
    fun f hg ha => ?_, fun h hx => ?_⟩
  · rw [exec_failed hl hi, ho]
    rfl
  · rw [exec_failed hl hi, ho, State.reportFailed_owner (s := s.removeConfirm e) hx hf,
      State.retryOrEnd_retries (s := s.removeConfirm e) hx hf hr]
    rfl
  · rw [exec_failed hl hi, ho, State.reportFailed_owner (s := s.removeConfirm e) hx hf]
    exact ⟨_, rfl, State.retryOrEnd_givesUp (.removeConfirm s e c) hx hr⟩
  · show Host.Outcome.next (s.uplink _ f _) = _
    rw [State.uplink_control hl rfl hg]
    unfold State.takeSendFailed
    rw [ha]
  · show execConfirmationDeadline h s = _
    unfold execConfirmationDeadline
    cases ha : s.air.awaiting h with
    | none => rfl
    | some e =>
      have hn : expired e.deadline s.clock.laneTime = false := decide_eq_false (Nat.not_lt.mpr (hx e ha))
      simp [hn]

/-! ### CREDIT and SENT (R4, R12, R44, R76) -/

/-- A step deadline that has expired is taken: it is removed, and a copy queued or the pass ended (R46). -/
theorem State.expireStep_expires {s : State} {c : ContextNo} {x : Context} {d : Tick} (hx : s.context c = some x)
    (hd : x.stepDeadline = some d) (he : expired d s.clock.laneTime = true) :
    s.expireStep c = (s.setContext c (some x.noDeadline)).retryOrEnd c := by
  unfold State.expireStep
  rw [hx, Option.bind_some, hd]
  dsimp only
  rw [if_pos he, State.modContext_of_some hx]
  rfl

/-- A SENT whose deadline has expired already: it expires at once (R76, log 32). -/
theorem State.reportSent_late {s : State} {c : ContextNo} {x : Context} (hx : s.context c = some x)
    (hf : x.stepFrame.isSome = true) {t : Tick} (he : expired (x.deadlineAfter t) s.clock.laneTime = true) :
    s.reportSent (some c) t = (s.setContext c (some x.noDeadline)).retryOrEnd c := by
  unfold State.reportSent
  dsimp only
  rw [hx]
  dsimp only
  rw [if_pos hf, State.expireStep_expires (s.context_setContext_self c _) rfl he]
  unfold State.setContext
  dsimp only
  rw [tableSet_tableSet]
  rfl

/-- A SENT for a handle that awaits confirmation removes the entry and tells the owner its tick (R12). -/
theorem exec_sent {s : State} (hl : s.live = true) {f : PortFrame} (hg : airFrameGood 0x11#8 f = true) {e : ConfirmEntry}
    (ha : s.air.awaiting (byteAt f.payload 0) = some e) :
    exec (.sent f) s = .next ((s.removeConfirm e).reportSent e.owner
      (s.clock.laneTime - (byteAt f.payload 1).setWidth 32)) := by
  show Host.Outcome.next (s.uplink _ f _) = _
  rw [State.uplink_control hl rfl hg]
  unfold State.takeSent
  rw [ha]

/-- Settles O10: the owner of a SENT by `State.reportSent_ahead` and `State.reportSent_late`. -/
theorem creditAndSent : Obligations.CreditAndSent := by
  intro f s hl
  refine ⟨fun hg => ?_, fun hg => ⟨fun ha => ?_, fun e ha => ?_⟩⟩
  · show Host.Outcome.next (s.uplink _ f _) = _
    rw [State.uplink_control hl rfl hg]
    rfl
  · show Host.Outcome.next (s.uplink _ f _) = _
    rw [State.uplink_control hl rfl hg]
    unfold State.takeSent
    rw [ha]
  · rw [exec_sent hl hg ha]
    refine ⟨fun ho => by rw [ho]; rfl, fun c x fr d ho hx hf hd => ?_⟩
    have hs : x.stepFrame.isSome = true := by rw [hf]; rfl
    have hx' : (s.removeConfirm e).context c = some x := hx
    rw [ho, hd]
    refine ⟨fun hne => ?_, fun hex hr => ?_, fun hex hr => ?_⟩
    · rw [State.reportSent_ahead hx' hs hne]
      rfl
    · rw [State.reportSent_late hx' hs hex, State.retryOrEnd_retries_noDeadline _ hf hr]
      rfl
    · rw [State.reportSent_late hx' hs hex]
      exact ⟨_, rfl, State.retryOrEnd_givesUp_noDeadline (.removeConfirm s e c) hr⟩

/-! ### Deadlines and ages (R46, R54, R152) -/

/-- Settles O29: `State.expireStep_expires`, and then a retry or the end. -/
theorem stepDeadlineExpires : Obligations.StepDeadlineExpires := by
  intro c s x hx
  refine ⟨fun d fr hd he hf hr => ?_, fun d hd he hr => ?_, fun h => ?_⟩
  · show Host.Outcome.next (s.expireStep c) = _
    rw [State.expireStep_expires hx hd he, State.retryOrEnd_retries_noDeadline s hf hr]
  · refine ⟨_, rfl, ?_⟩
    rw [State.expireStep_expires hx hd he]
    exact State.retryOrEnd_givesUp_noDeadline (.refl s c) hr
  · show Host.Outcome.next (s.expireStep c) = _
    rw [State.expireStep_stands fun y d hy hd => ?_]
    obtain rfl := Option.some.inj (hx.symm.trans hy)
    exact h d hd

/-- The head removal takes the aged entries off the head, up to the first young one (R152). -/
theorem State.ageRecent_split (s : State) :
    s.recent = s.recent.takeWhile s.agedEntry ++ s.ageRecent.recent ∧
      (∀ x ∈ s.recent.takeWhile s.agedEntry, s.agedEntry x = true) ∧
      ∀ x, s.ageRecent.recent.head? = some x → s.agedEntry x = false := by
  refine ⟨List.takeWhile_append_dropWhile.symm, fun x hx => List.mem_takeWhile_imp hx, fun x hx => ?_⟩
  have hne := List.head?_dropWhile_not s.agedEntry s.recent
  rw [show s.recent.dropWhile s.agedEntry = s.ageRecent.recent from rfl, hx] at hne
  simpa using hne

/-- Settles O30: the end of a pass by `State.endPass_ends`, the head removal by `State.ageRecent_split`. -/
theorem lifetimeAndRecentPassAge : Obligations.LifetimeAndRecentPassAge := by
  intro s
  refine ⟨fun c x hx => ⟨fun hd he => ?_, fun h => ?_⟩, ?_⟩
  · have hend : s.expireLifetime c = s.endPass c x.state.outlived := by
      unfold State.expireLifetime
      rw [hx]
      exact if_pos ⟨hd, he⟩
    have h := State.endPass_ends (.refl s c) hx x.state.outlived
    obtain ⟨h1, h2, h3⟩ := h.disowned
    have hok : x.state.outlived.closesOk = false := by cases x.state <;> rfl
    refine ⟨_, congrArg Host.Outcome.next hend, h.frame, hok ▸ h.closes, h1, h2, h3, fun hw => ?_, fun hk => ?_⟩
    · have hres : x.state.outlived = .writeUncertain := by rcases hw with hw | hw <;> rw [hw] <;> rfl
      rw [hres] at h ⊢
      exact ⟨h.ended, h.recent⟩
    · have hres : x.state.outlived = .abandoned := by rcases hk with hk | hk | hk <;> rw [hk] <;> rfl
      rw [hres] at h ⊢
      exact ⟨h.ended, h.recent⟩
  · show Host.Outcome.next (s.expireLifetime c) = _
    unfold State.expireLifetime
    rw [hx]
    dsimp only
    rw [if_neg]
    rintro ⟨h1, h2⟩
    rcases h with h | h
    · exact h1 h
    · rw [h] at h2; cases h2
  · obtain ⟨hsplit, haged, hyoung⟩ := s.ageRecent_split
    refine ⟨_, _, rfl, rfl, hsplit, fun x hx => ?_, fun x hx => ?_⟩
    · exact of_decide_eq_true (haged x hx)
    · exact Nat.not_le.mp (of_decide_eq_false (hyoung x hx))

end Sys2Proof.Machine
end

section
/-! PROOF. The frames of a tag that open a context straight into DONE, or answer a step frame (R39, R41, R47, R51). -/

namespace Sys2Proof.Machine

/-! ### A tag frame reaches the pass context table (R1 to R3) -/

/-- A tag frame that passes its checks and names an issuer of its own is judged by the table (R3). -/
theorem State.uplink_judged {s : State} (hl : s.live = true) (hd : s.device ≠ .init) {kind : Byte} {f : PortFrame}
    (hg : airFrameGood kind f = true) (hi : BitVec.ofNat 16 (field f.payload 2 2) ≠ 0xFFFF#16)
    (judge : State → List Byte → State) :
    s.uplink kind f (fun s => s.offerTagFrame kind f.payload judge) = judge s f.payload := by
  rw [State.uplink_of_good hl (fun _ => hd) hg]
  exact if_neg hi

/-- A DATA for a context in CHALLENGING is taken (R47). -/
theorem exec_data_taken {f : PortFrame} {s : State} {c : ContextNo} {x : Context} (hl : s.live = true)
    (hd : s.device ≠ .init) (hg : airFrameGood 0x02#8 f = true) (hi : (dataOf f.payload).issuer ≠ 0xFFFF#16)
    (hc : s.contextOf (dataOf f.payload).issuer (dataOf f.payload).tagNumber = some c) (hx : s.context c = some x)
    (hs : x.state = .challenging) : exec (.data f) s = .next (s.takeData c x (dataOf f.payload)) := by
  show Host.Outcome.next (s.uplink _ f _) = _
  rw [State.uplink_judged hl hd hg hi]
  unfold State.judgeData
  dsimp only
  rw [hc]
  dsimp only
  rw [hx]
  dsimp only
  rw [if_pos hs]

/-- A COMMIT for a context in WRITING is taken (R51). -/
theorem exec_commit_taken {f : PortFrame} {s : State} {c : ContextNo} {x : Context} (hl : s.live = true)
    (hd : s.device ≠ .init) (hg : airFrameGood 0x03#8 f = true) (hi : (commitOf f.payload).issuer ≠ 0xFFFF#16)
    (hc : s.contextOf (commitOf f.payload).issuer (commitOf f.payload).tagNumber = some c) (hx : s.context c = some x)
    (hs : x.state = .writing) : exec (.commit f) s = .next (s.takeCommit c x (commitOf f.payload)) := by
  show Host.Outcome.next (s.uplink _ f _) = _
  rw [State.uplink_judged hl hd hg hi]
  unfold State.judgeCommit
  dsimp only
  rw [hc]
  dsimp only
  rw [hx]
  dsimp only
  rw [if_pos hs]

/-! ### An answer is taken (R37, R47, R51) -/

/-- The part when context c has taken an answer heard in a zone: heard, behind no step frame, owning no frame. -/
def State.hears (s : State) (c : ContextNo) (x : Context) (z : ZoneNo) (rssi : Byte) : State :=
  (s.setContext c (some (x.answered z rssi))).withdrawFrames c

theorem State.hears_ownChange (s : State) (c : ContextNo) (x : Context) (z : ZoneNo) (rssi : Byte) :
    OwnChange s (s.hears c x z rssi) c :=
  .after (.withdrawFrames _ c) (.setContext s c _)

theorem State.hears_context (s : State) (c : ContextNo) (x : Context) (z : ZoneNo) (rssi : Byte) :
    (s.hears c x z rssi).context c = some (x.answered z rssi) :=
  s.context_setContext_self c _

/-- An answer that is not the right one ends the pass, its CLOSE toward the zone just heard (R47, R51, R53). -/
theorem State.hears_ends (s : State) (c : ContextNo) (x : Context) (z : ZoneNo) (rssi : Byte) (r : PassResult) :
    PassEnds s ((s.hears c x z rssi).endPass c r) c (x.answered z rssi) (s.air.withdraw c) r :=
  State.endPass_ends (s.hears_ownChange c x z rssi) (s.hears_context c x z rssi) r

/-- An answer that is the right one: the context goes on as y, and its job is issued (R47, R51). -/
theorem State.hears_issues (s : State) (c : ContextNo) (x : Context) (z : ZoneNo) (rssi : Byte) (y : Context)
    (kind : JobKind) (key : KeyId) (input : List Block) {t : State}
    (ht : t = ((s.hears c x z rssi).setContext c (some y)).issueFor c kind key input) :
    (∃ j, t.context c = some { y with currentJob := j }) ∧ t.hasJob kind (.context c) key input [] ∧
      (∀ d, d ≠ c → t.context d = s.context d) ∧ { s with air := s.air.withdraw c }.jobsApart t (some c) := by
  subst ht
  have hu : OwnChange s ((s.hears c x z rssi).setContext c (some y)) c :=
    .after (.setContext _ c _) (s.hears_ownChange c x z rssi)
  have hj := State.issueFor_jobsOnly ((s.hears c x z rssi).setContext c (some y)) c kind key input
  exact ⟨hj.context_some (State.context_setContext_self _ c _), State.hasJob_issueFor _ c kind key input,
    fun d hd => (State.issueFor_context_ne _ hd kind key input).trans (hu.contexts d hd), hu.jobsApart hj⟩

/-- The right DATA (R47). -/
theorem State.takeData_right (s : State) (c : ContextNo) {x : Context} {d : Data}
    (hn : d.records.length = setSize x.requestedSet) (hk : d.counter = x.counter) :
    s.takeData c x d = ((s.hears c x d.zone d.rssi).setContext c
      (some { x.answered d.zone d.rssi with state := .checking, held := some (d.records, d.ta) })).issueFor c .ta (.sk c)
        (paddedBlocks (taMessage x.tagNumber x.counter d.records)) :=
  if_neg fun h => h.elim (· hn) (· hk)

/-- A DATA that is not the right one (R47). -/
theorem State.takeData_wrong (s : State) (c : ContextNo) {x : Context} {d : Data}
    (h : d.records.length ≠ setSize x.requestedSet ∨ d.counter ≠ x.counter) :
    s.takeData c x d = (s.hears c x d.zone d.rssi).endPass c .tagAuthFail :=
  if_pos h

/-- The right COMMIT (R51). -/
theorem State.takeCommit_right (s : State) (c : ContextNo) {x : Context} {m : Commit}
    (h : m.newCounter = x.counter + 1) :
    s.takeCommit c x m = ((s.hears c x m.zone m.rssi).setContext c
      (some { x.answered m.zone m.rssi with state := .confirming, heldCa := some m.ca })).issueFor c .ca (.sk c)
        (paddedBlocks (caMessage x.tagNumber m.newCounter)) := by
  rw [h]
  exact if_neg (not_not.mpr h)

/-- A COMMIT that is not the right one (R51). -/
theorem State.takeCommit_wrong (s : State) (c : ContextNo) {x : Context} {m : Commit}
    (h : m.newCounter ≠ x.counter + 1) :
    s.takeCommit c x m = (s.hears c x m.zone m.rssi).endPass c .commitAuthFail :=
  if_pos h

/-- Settles O20: the right DATA by `State.hears_issues`, any other by `State.hears_ends`. -/
theorem dataIsTaken : Obligations.DataIsTaken := by
  rintro f s d c x rfl hl hd hg hi hc hx hs
  rw [exec_data_taken hl hd hg hi hc hx hs]
  refine ⟨fun hn hk => ?_, fun h => ?_⟩
  · obtain ⟨⟨j, hj⟩, hjob, hne, hap⟩ := s.hears_issues c x _ _ _ _ _ _ (s.takeData_right c hn hk)
    exact ⟨_, _, rfl, hj, rfl, rfl, rfl, rfl, rfl, rfl, rfl, hjob, hne, hap⟩
  · rw [s.takeData_wrong c h]
    have he := s.hears_ends c x (dataOf f.payload).zone (dataOf f.payload).rssi .tagAuthFail
    exact ⟨_, rfl, he.ended, he.frame, he.recent, s.air.withdraw_withdraw c ▸ he.closes⟩

/-- Settles O21: the right COMMIT by `State.hears_issues`, any other by `State.hears_ends`. -/
theorem commitIsTaken : Obligations.CommitIsTaken := by
  rintro f s m c x rfl hl hd hg hi hc hx hs
  rw [exec_commit_taken hl hd hg hi hc hx hs]
  refine ⟨fun h => ?_, fun h => ?_⟩
  · obtain ⟨⟨j, hj⟩, hjob, hne, hap⟩ := s.hears_issues c x _ _ _ _ _ _ (s.takeCommit_right c h)
    exact ⟨_, _, rfl, hj, rfl, rfl, rfl, rfl, rfl, rfl, hjob, hne, hap⟩
  · rw [s.takeCommit_wrong c h]
    have he := s.hears_ends c x (commitOf f.payload).zone (commitOf f.payload).rssi .commitAuthFail
    exact ⟨_, rfl, he.ended, he.frame, he.recent, s.air.withdraw_withdraw c ▸ he.closes⟩

/-! ### What releases leave (R57, R139) -/

theorem Engine.job?_atRelease (c : ContextNo) (x : Engine) : (x.atRelease c).job? = x.job? := by
  obtain ⟨st, cl, lo⟩ := x
  unfold Engine.atRelease
  cases st <;> dsimp only <;> split <;> rfl

/-- Releases touch no key, no queued job, and no job of an engine (R139). -/
theorem State.releaseHeads_jobs (k : Nat) (z : ZoneNo) (s : State) :
    (s.releaseHeads k z).keys = s.keys ∧ (s.releaseHeads k z).cipher.queue = s.cipher.queue ∧
      ∀ e, ((s.releaseHeads k z).engine e).job? = (s.engine e).job? := by
  induction k generalizing s with
  | zero => exact ⟨rfl, rfl, fun _ => rfl⟩
  | succ k ih =>
    unfold State.releaseHeads
    split
    · exact ⟨rfl, rfl, fun _ => rfl⟩
    · rename_i d _ _
      split
      · exact ⟨rfl, rfl, fun _ => rfl⟩
      · split
        · split
          · obtain ⟨h1, h2, h3⟩ := ih (s.release d _)
            refine ⟨h1, h2, fun e => (h3 e).trans ?_⟩
            refine (congrArg Engine.job? (State.engine_tellEngines _ _ e)).trans (Engine.job?_atRelease d _)
          · unfold State.stall
            split
            · exact ⟨rfl, rfl, fun _ => rfl⟩
            · unfold State.engine
              rw [State.raise_keys, State.raise_cipher]
              exact ⟨rfl, rfl, fun _ => rfl⟩
        · exact ⟨rfl, rfl, fun _ => rfl⟩

/-- A release frees a context or leaves it (R57). -/
theorem State.releaseHeads_context (k : Nat) (z : ZoneNo) (s : State) (c : ContextNo) :
    (s.releaseHeads k z).context c = s.context c ∨ (s.releaseHeads k z).context c = none := by
  induction k generalizing s with
  | zero => exact .inl rfl
  | succ k ih =>
    unfold State.releaseHeads
    split
    · exact .inl rfl
    · rename_i d _ _
      split
      · exact .inl rfl
      · split
        · split
          · rename_i x _ _ _
            by_cases hd : c = d
            · subst hd
              have hf : (s.release c x).context c = none := State.context_setContext_self _ _ _
              exact .inr ((ih (s.release c x)).elim (fun h => h.trans hf) id)
            · rw [← State.release_context_ne s hd x]
              exact ih _
          · exact .inl (s.stall_context d c)
        · exact .inl rfl

/-- A flag that is set stays set through releases (R168). -/
theorem State.releaseHeads_flag (k : Nat) (z : ZoneNo) {s : State} {n : EventNo} (h : s.events.flag n = true) :
    (s.releaseHeads k z).events.flag n = true := by
  induction k generalizing s with
  | zero => exact h
  | succ k ih =>
    unfold State.releaseHeads
    split
    · exact h
    · split
      · exact h
      · split
        · split
          · exact ih h
          · unfold State.stall
            split
            · exact h
            · rw [State.raise_events, Events.flag_record]
              exact (Bool.or_eq_true _ _).mpr (.inr h)
        · exact h

/-! ### An open straight into DONE (R41) -/

/-- The part when context c has been opened into DONE, before REPLAY is raised or a CLOSE offered (R41). -/
def State.openedDone (s : State) (c : ContextNo) (h : Hello) (r : PassResult) (flags : PassFlags) : State :=
  s.openContext c { s.opened h .done flags with result := some r, doneTick := some s.clock.laneTime }

/-- What an open into DONE leaves, whatever is announced of it: v is the part after the announcement (R41, R57). -/
theorem State.openedDone_announced {s v : State} {c : ContextNo} {h : Hello} {r : PassResult} {flags : PassFlags}
    (hf : (s.openedDone c h r flags).passFrame v c) (hp : v.passes = (s.openedDone c h r flags).passes)
    (hr : v.recent = s.recent) (hk : v.keys = s.keys) (hci : v.cipher = s.cipher) :
    (v.attemptRelease h.zone).ended c (s.opened h .done {}) r s.clock.laneTime ∧
      s.passFrame (v.attemptRelease h.zone) c ∧ (v.attemptRelease h.zone).recent = s.recent ∧
      (v.attemptRelease h.zone).keys = s.keys ∧ (v.attemptRelease h.zone).cipher.queue = s.cipher.queue ∧
      (∀ e, ((v.attemptRelease h.zone).engine e).job? = (s.engine e).job?) ∧
      ∀ y, (v.attemptRelease h.zone).context c = some y → y.currentJob = .idle := by
  have hc : v.context c = some { s.opened h .done flags with result := some r, doneTick := some s.clock.laneTime } := by
    unfold State.context
    rw [hp]
    exact s.context_setContext_self c _
  have ho : s.passFrame (s.openedDone c h r flags) c :=
    State.passFrame_of rfl fun d hd => (s.context_setContext c d _).trans (if_neg hd)
  obtain ⟨h1, h2, h3⟩ := State.releaseHeads_jobs (v.openList h.zone).length h.zone v
  refine ⟨State.ended_releaseHeads _ _ (.inl ⟨_, hc, rfl, rfl, rfl, rfl, rfl⟩),
    State.passFrame_trans (State.passFrame_trans ho hf) (v.attemptRelease_passFrame _ _),
    (State.releaseHeads_recent _ _ _).trans hr, h1.trans hk, h2.trans (by rw [hci]), fun e => (h3 e).trans ?_,
    fun y hy => ?_⟩
  · unfold State.engine
    rw [hci]
  · rcases State.releaseHeads_context (v.openList h.zone).length h.zone v c with he | he
    · obtain rfl := Option.some.inj (hc.symm.trans (he.symm.trans hy))
      rfl
    · cases he.symm.trans hy

/-- A CLOSE is admitted below the shared quota (R8). -/
theorem State.offerClose_admitted {s : State} (h : s.air.sharedCount < 8) (z : ZoneNo) (tag : TagNumber) (ok : Bool) :
    s.offerClose z tag ok = { s with air := s.air.enqueue (zoneByte z) none (.close tag ok) } :=
  if_pos h

/-- A CLOSE is dropped at the shared quota (R8). -/
theorem State.offerClose_dropped {s : State} (h : 8 ≤ s.air.sharedCount) (z : ZoneNo) (tag : TagNumber) (ok : Bool) :
    s.offerClose z tag ok = s.raise .closeDrop :=
  if_neg (Nat.not_lt.mpr h)

/-- A CLOSE leaves all but the air port, the events and the responses (R8). -/
theorem State.offerClose_rest (s : State) (z : ZoneNo) (tag : TagNumber) (ok : Bool) :
    (s.offerClose z tag ok).passes = s.passes ∧ (s.offerClose z tag ok).recent = s.recent ∧
      (s.offerClose z tag ok).keys = s.keys ∧ (s.offerClose z tag ok).cipher = s.cipher := by
  unfold State.offerClose
  split
  · exact ⟨rfl, rfl, rfl, rfl⟩
  · simp

/-- How a REPLAY is announced (R41). -/
theorem State.openDone_replay_eq (s : State) (c : ContextNo) (h : Hello) (flags : PassFlags) :
    s.openDone c h .replay flags = ((s.openedDone c h .replay flags).raise .replay).attemptRelease h.zone := rfl

/-- How a NO-KEY is announced (R41). -/
theorem State.openDone_noKey_eq (s : State) (c : ContextNo) (h : Hello) (flags : PassFlags) :
    s.openDone c h .noKey flags =
      ((s.openedDone c h .noKey flags).offerClose h.zone h.tagNumber false).attemptRelease h.zone := rfl

/-- REPLAY raises its event; no frame joins the queue (R41). -/
theorem State.openDone_replay (s : State) (c : ContextNo) (h : Hello) (flags : PassFlags) :
    (s.openDone c h .replay flags).events.flag Event.replay.number = true ∧
      (s.openDone c h .replay flags).air.queue.Sublist s.air.queue ∧
      (s.openDone c h .replay flags).air.nextHandle = s.air.nextHandle := by
  rw [State.openDone_replay_eq]
  obtain ⟨⟨keep, hq, -⟩, hn, -, -⟩ := State.releaseHeads_releasedAir
    (((s.openedDone c h .replay flags).raise .replay).openList h.zone).length h.zone
    ((s.openedDone c h .replay flags).raise .replay)
  rw [State.raise_air] at hq hn
  refine ⟨State.releaseHeads_flag _ _ ?_, hq ▸ List.filter_sublist, hn⟩
  rw [State.raise_events, Events.flag_record]
  simp

/-- NO-KEY offers a CLOSE FAIL, admitted or dropped with CLOSE-DROP (R8, R41). -/
theorem State.openDone_noKey (s : State) (c : ContextNo) (h : Hello) (flags : PassFlags) :
    (s.air.sharedCount < 8 → ∃ e ∈ (s.openDone c h .noKey flags).air.queue, e.zone = zoneByte h.zone ∧
      e.owner = none ∧ e.body = .close h.tagNumber false) ∧
    (8 ≤ s.air.sharedCount → (s.openDone c h .noKey flags).events.flag Event.closeDrop.number = true) ∧
    ((∀ e ∈ s.air.queue, e.owner ≠ some c) →
      s.closes (s.openDone c h .noKey flags) s.air h.zone h.tagNumber false) := by
  rw [State.openDone_noKey_eq]
  have hrel := State.releaseHeads_releasedAir
    (((s.openedDone c h .noKey flags).offerClose h.zone h.tagNumber false).openList h.zone).length h.zone
    ((s.openedDone c h .noKey flags).offerClose h.zone h.tagNumber false)
  refine ⟨fun hs => ?_, fun hs => State.releaseHeads_flag _ _ ?_, fun ho => ?_⟩
  · obtain ⟨⟨keep, hq, hk⟩, -⟩ := hrel
    refine ⟨{ zone := zoneByte h.zone, handle := s.air.chosenHandle, owner := none,
              body := .close h.tagNumber false }, ?_, rfl, rfl, rfl⟩
    show _ ∈ (State.attemptRelease _ _).air.queue
    unfold State.attemptRelease
    rw [hq, List.mem_filter]
    refine ⟨?_, ?_⟩
    · rw [State.offerClose_admitted (s := s.openedDone c h .noKey flags) hs]
      exact List.mem_append_right _ (List.mem_singleton_self _)
    · by_contra hne
      obtain ⟨d, y, hd, -⟩ := hk _ (by simpa using hne)
      cases hd
  · rw [State.offerClose_dropped (s := s.openedDone c h .noKey flags) hs, State.raise_events, Events.flag_record]
    simp
  · refine State.closes_of_offer (u := s.openedDone c h .noKey flags) rfl ho rfl rfl rfl (fun d y hd hy hyd => ?_) hrel
    rw [State.offerClose_context] at hy
    exact ⟨y, (((s.context_setContext c d _).trans (if_neg hd)).symm.trans hy), hyd⟩

/-- A HELLO in SERVICE whose tag no context holds, heard in a zone that is not CLOSED, is judged by the recent-pass
table where a context is FREE (R39). -/
theorem exec_hello_judged {f : PortFrame} {s : State} {c : ContextNo} (hl : s.live = true) (hd : s.device = .service)
    (hg : airFrameGood 0x01#8 f = true) (hi : (helloOf f.payload).issuer ≠ 0xFFFF#16)
    (ht : s.contextOf (helloOf f.payload).issuer (helloOf f.payload).tagNumber = none)
    (hz : (s.zone (helloOf f.payload).zone).function ≠ .closed) (hc : s.freeContext = some c) :
    exec (.hello f) s = .next (s.judgeRecent c (helloOf f.payload)) := by
  show Host.Outcome.next (s.uplink _ f _) = _
  rw [State.uplink_judged hl (by rw [hd]; decide) hg hi]
  unfold State.judgeHello
  dsimp only
  rw [ht]
  dsimp only
  rw [if_pos ⟨hd, hz⟩, hc]

/-- Settles O19: both verdicts open through `State.openDone`. -/
theorem helloOpensDone : Obligations.HelloOpensDone := by
  rintro f s h c r u rfl hl hd hg hi ht hz hc hr
  rw [exec_hello_judged hl hd hg hi ht hz hc]
  unfold State.judgeRecent
  dsimp only
  rcases hr with ⟨rfl, hv⟩ | ⟨rfl, hn, hv⟩
  · rw [hv]
    obtain ⟨h1, h2, h3, h4, h5, h6, h7⟩ := State.openedDone_announced (s := s.ageRecent)
      (v := (s.ageRecent.openedDone c (helloOf f.payload) .replay {}).raise .replay)
      (State.raise_passFrame _ _ c) (State.raise_passes _ _) (State.raise_recent _ _) (State.raise_keys _ _)
      (State.raise_cipher _ _)
    exact ⟨_, rfl, h1, State.passFrame_trans (State.passFrame_of rfl fun _ _ => rfl) h2, h3, h4, h5, h6, h7,
      fun _ => s.ageRecent.openDone_replay c _ _, by simp, by simp, by simp⟩
  · rw [hv]
    have hnone : (s.ageRecent.findSlot .tagMaster (helloOf f.payload).issuer (helloOf f.payload).generation).filter
        s.ageRecent.usable = none := by
      rw [Option.filter_eq_none_iff]
      intro n hf
      rw [show s.ageRecent.usable n = s.usable n from rfl, hn n hf]
      decide
    unfold State.openFresh
    rw [hnone]
    have hoff := (s.ageRecent.openedDone c (helloOf f.payload) .noKey { followsUncertain := u }).offerClose_rest
      (helloOf f.payload).zone (helloOf f.payload).tagNumber false
    obtain ⟨hp, hre, hk, hci⟩ := hoff
    obtain ⟨h1, h2, h3, h4, h5, h6, h7⟩ := State.openedDone_announced (s := s.ageRecent)
      (State.offerClose_passFrame _ _ _ _ c) hp hre hk hci
    obtain ⟨g1, g2, g3⟩ := s.ageRecent.openDone_noKey c (helloOf f.payload) { followsUncertain := u }
    exact ⟨_, rfl, h1, State.passFrame_trans (State.passFrame_of rfl fun _ _ => rfl) h2, h3, h4, h5, h6, h7,
      by simp, fun _ => g1, fun _ => g2, fun _ => g3⟩

end Sys2Proof.Machine
end

section
/-! PROOF. The job ends of a pass behind its session key: a step frame queued, a TA or CA judged, a record code computed
or checked (R29 to R33, R43, R48 to R52). -/

namespace Sys2Proof.Machine

/-! ### What an engine's end adds (R132) -/

/-- The part after engine e has ended its job and the arbiter has been asked for it (R132). -/
def State.afterEnd (u : State) (e : EngineNo) : State := (u.engineEnd e).arbitrate e

/-- What a pass does with the result of its job runs between the end of the job and that of the engine. -/
def State.jobDone (s : State) (c : ContextNo) (x : Context) : State := s.setContext c (some x.apart)

theorem State.jobDone_ownChange (s : State) (c : ContextNo) (x : Context) : OwnChange s (s.jobDone c x) c :=
  .setContext s c _

theorem State.jobDone_context (s : State) (c : ContextNo) (x : Context) :
    (s.jobDone c x).context c = some x.apart :=
  s.context_setContext_self c _

/-- A pass that ends on the result of its job has ended after the end of the engine too (R53, R132). -/
theorem State.endPass_afterEnd {s u : State} {c : ContextNo} (hu : OwnChange s u c) (ha : u.air = s.air) {x : Context}
    (hx : u.context c = some x) (r : PassResult) (e : EngineNo) :
    PassEnds s ((u.endPass c r).afterEnd e) c x s.air r :=
  ha ▸ (State.endPass_ends hu hx r).jobs (State.afterEnd_jobsOnly _ e)

/-- A pass that goes on as y with a next job holds that job after the end of the engine (R38, R132). -/
theorem State.issueFor_afterEnd {s u : State} {c : ContextNo} (hu : OwnChange s u c) (ha : u.air = s.air)
    {y : Context} (hy : u.context c = some y) {e : EngineNo} (hb : (s.engine e).isIdle = false) (kind : JobKind)
    (key : KeyId) (input : List Block) :
    (∃ j, ((u.issueFor c kind key input).afterEnd e).context c = some { y with currentJob := j }) ∧
      ((u.issueFor c kind key input).afterEnd e).hasJob kind (.context c) key input [] ∧
      s.jobsApart ((u.issueFor c kind key input).afterEnd e) (some c) := by
  have hj : JobsOnly u ((u.issueFor c kind key input).afterEnd e) :=
    (State.issueFor_jobsOnly u c kind key input).trans (State.afterEnd_jobsOnly _ e)
  refine ⟨hj.context_some hy, State.hasJob_issueFor_afterEnd ((hu.engine e).symm ▸ hb) c kind key input, ?_⟩
  have h := hu.jobsApart hj
  rwa [ha] at h

/-! ### The ends of a pass that reads records (R30, R31, R33, R49) -/

/-- The end without a write (R30, R31, R53). -/
theorem State.endNoWrite_afterEnd {s u : State} {c : ContextNo} (hu : OwnChange s u c) (ha : u.air = s.air)
    {x : Context} (hx : u.context c = some x.apart) (e : EngineNo) :
    ((u.endNoWrite c).afterEnd e).ended c x .completeNoWrite s.clock.laneTime ∧
      s.passFrame ((u.endNoWrite c).afterEnd e) c ∧
      ((u.endNoWrite c).afterEnd e).recent = s.recentWith x x.counter false ∧
      s.closes ((u.endNoWrite c).afterEnd e) (s.air.withdraw c) x.servingZone x.tagNumber true ∧
      s.shows ((u.endNoWrite c).afterEnd e) c x
        (fun y => y.flags.noWriteKey = true ∧ y.tripRecord = none ∧ y.recordCheck = x.recordCheck)
        (fun r => r.flags.noWriteKey = true ∧ r.tripRecord = none ∧ r.recordCheck = x.recordCheck) := by
  have hm := u.context_modContext c c fun x =>
    { x with flags := { x.flags with noWriteKey := true }, tripRecord := none }
  rw [if_pos rfl, hx] at hm
  have he := State.endPass_afterEnd (.after (.modContext u c _) hu) ha hm .completeNoWrite e
  exact ⟨he.ended, he.frame, he.recent, he.closes, he.shows (fun _ => ⟨rfl, rfl, rfl⟩) ⟨rfl, rfl, rfl⟩⟩

/-- The end of a VERIFY pass (R33, R49, R53). -/
theorem State.complete_verified {s u : State} {c : ContextNo} (hu : OwnChange s u c) (ha : u.air = s.air) {x : Context}
    (hx : u.context c = some x.apart) (hv : x.profile.function = .verify) (e : EngineNo) :
    s.verified ((u.endPass c .complete).afterEnd e) c x := by
  have he := State.endPass_afterEnd hu ha hx .complete e
  refine ⟨he.ended, he.frame, he.recent.trans ?_, he.closes, he.shows (fun _ => rfl) rfl⟩
  unfold State.handRecent Context.recentEntry
  rw [show x.apart.profile = x.profile from rfl, if_pos hv]
  rfl

/-- Composition, at the end of the job of a context that stands as x (R29, R30). -/
theorem State.compose_composes {s u : State} {c : ContextNo} (hu : OwnChange s u c) (ha : u.air = s.air) {x : Context}
    (hx : u.context c = some x.apart) {e : EngineNo} (hb : (s.engine e).isIdle = false) :
    s.composes ((u.compose c).afterEnd e) c x := by
  have hf : ∀ g, u.findSlot .record 0 g = s.findSlot .record 0 g := by
    intro g
    unfold State.findSlot State.slot
    rw [hu.keys]
  refine ⟨fun g n hg hn => ?_, fun hno => ?_⟩
  · have hc : u.compose c = (u.setContext c (some { x.apart with
        tripRecord := some (composeRecord x.profile s.clock.minute (blockByte ((x.recordRead 0).getD 0) 0) g) })).issueFor
          c .recordCompute (.slot n) (paddedBlocks (recordCodeMessage x.tagNumber
            (composeRecord x.profile s.clock.minute (blockByte ((x.recordRead 0).getD 0) 0) g))) := by
      unfold State.compose
      rw [hx, hu.keys, hg]
      dsimp only
      rw [hf, hn, hu.clock]
      rfl
    rw [hc]
    obtain ⟨⟨job, hy⟩, hjob, hap⟩ := State.issueFor_afterEnd (.after (.setContext u c _) hu) ha
      (u.context_setContext_self c _) hb .recordCompute (.slot n) _
    exact ⟨_, job, rfl, hy, hjob, hap⟩
  · have hc : u.compose c = u.endNoWrite c := by
      unfold State.compose
      rw [hx, hu.keys]
      dsimp only
      split
      · rfl
      · rename_i g hg
        rw [hf, hno g hg]
    rw [hc]
    exact State.endNoWrite_afterEnd hu ha hx e

/-! ### The record check has settled (R33, R49) -/

/-- Work on jobs, apart from context c, is within the work of one context. -/
theorem State.jobsApart_passFrame {s t : State} {c : ContextNo} (h : s.jobsApart t (some c)) : s.passFrame t c := by
  obtain ⟨hr, hc⟩ := h
  refine ⟨by rw [hr], fun d hd hf => ?_, fun d y hd hy _ => ?_⟩
  · simpa [hf] using hc d (by simpa using hd.symm)
  · simpa [hy] using hc d (by simpa using hd.symm)

/-- A composition shows the outcome of the record check before it (R32, R33). -/
theorem State.composes_shows {s t : State} {c : ContextNo} {x : Context} (h : s.composes t c x) :
    s.passFrame t c ∧ s.shows t c x (fun z => z.recordCheck = x.recordCheck) (fun r => r.recordCheck = x.recordCheck) := by
  obtain ⟨hsome, hnone⟩ := h
  by_cases hg : ∃ g n, s.keys.writeGen = some g ∧ s.findSlot .record 0 g = some n
  · obtain ⟨g, n, hg, hn⟩ := hg
    obtain ⟨_, _, -, hy, -, hap⟩ := hsome g n hg hn
    exact ⟨State.jobsApart_passFrame hap, .inl ⟨_, hy, rfl⟩⟩
  · obtain ⟨-, hf, -, -, hs⟩ := hnone fun g h => Option.eq_none_iff_forall_ne_some.mpr fun n hn => hg ⟨g, n, h, hn⟩
    refine ⟨hf, hs.imp (fun ⟨y, hy, _, _, hc⟩ => ⟨y, hy, hc⟩) ?_⟩
    exact fun ⟨hc, r, hr, hi, ht, _, _, ho⟩ => ⟨hc, r, hr, hi, ht, ho⟩

/-- Past its record check a VERIFY pass ends (R49 step 2). -/
theorem State.afterCheck_verifies {s : State} {c : ContextNo} {x : Context} (hx : s.context c = some x)
    (hv : x.profile.function = .verify) : s.afterCheck c = s.endPass c .complete := by
  unfold State.afterCheck
  rw [hx]
  exact if_pos hv

/-- Past its record check any other pass reaches composition (R49 step 3). -/
theorem State.afterCheck_writes {s : State} {c : ContextNo} {x : Context} (hx : s.context c = some x)
    (hv : x.profile.function ≠ .verify) : s.afterCheck c = s.compose c := by
  unfold State.afterCheck
  rw [hx]
  exact if_neg hv

/-- A pass that has settled its record check ends COMPLETE or composes, and shows the outcome (R33, R49). -/
theorem State.settleCheck_afterEnd {s u : State} {c : ContextNo} (hu : OwnChange s u c) (ha : u.air = s.air)
    {x : Context} (hx : u.context c = some x.apart) {e : EngineNo} (hb : (s.engine e).isIdle = false) {o : RecordCheck}
    {y : Context} (hy : y = { x with recordCheck := some o, flags := x.flags.withCheck o }) :
    s.passFrame ((u.settleCheck c o).afterEnd e) c ∧
      s.shows ((u.settleCheck c o).afterEnd e) c x (fun z => z.recordCheck = some o)
        (fun r => r.recordCheck = some o) ∧
      (x.profile.function = .verify → s.verified ((u.settleCheck c o).afterEnd e) c y) ∧
      (x.profile.function ≠ .verify → s.composes ((u.settleCheck c o).afterEnd e) c y) := by
  subst hy
  have hm := u.context_modContext c c fun x => { x with recordCheck := some o, flags := x.flags.withCheck o }
  rw [if_pos rfl, hx] at hm
  have hv : OwnChange s (u.modContext c fun x => { x with recordCheck := some o, flags := x.flags.withCheck o }) c :=
    .after (.modContext u c _) hu
  unfold State.settleCheck
  by_cases hf : x.profile.function = .verify
  · rw [State.afterCheck_verifies hm hf]
    have h := State.complete_verified hv ha (x := { x with recordCheck := some o, flags := x.flags.withCheck o }) hm hf e
    obtain ⟨-, hp, -, -, hs⟩ := id h
    exact ⟨hp, hs, fun _ => h, fun hn => absurd hf hn⟩
  · rw [State.afterCheck_writes hm hf]
    have h := State.compose_composes hv ha (x := { x with recordCheck := some o, flags := x.flags.withCheck o }) hm hb
    obtain ⟨hp, hs⟩ := State.composes_shows h
    exact ⟨hp, hs, fun hn => absurd hn hf, fun _ => h⟩

/-! ### The job ends (R43, R48 to R52) -/

/-- A context that stands behind a new step frame has queued its first copy (R43, R50). -/
theorem State.standBehind_afterEnd {s u : State} {c : ContextNo} (hu : OwnChange s u c) (ha : u.air = s.air)
    (x : Context) (st : PassState) (fr : StepFrame) (e : EngineNo) :
    ∃ y, ((u.standBehind c x st fr).afterEnd e).context c = some y ∧ y.state = st ∧ y.stepFrame = some fr ∧
      y.retriesLeft = x.profile.retries ∧ y.stepDeadline = none ∧
      ((u.standBehind c x st fr).afterEnd e).air = s.air.enqueue (zoneByte x.servingZone) (some c) (.step fr) ∧
      { s with air := ((u.standBehind c x st fr).afterEnd e).air }.jobsApart
        ((u.standBehind c x st fr).afterEnd e) (some c) := by
  have hq : u.standBehind c x st fr = (u.setContext c (some { x with
      state := st, stepFrame := some fr, retriesLeft := x.profile.retries, stepDeadline := none })).offerStep c
        x.servingZone fr := by
    unfold State.standBehind State.queueStep
    rw [State.context_setContext_self]
  have hv : OwnChange s (u.standBehind c x st fr) c := by
    rw [hq]
    exact .trans (.trans hu (.setContext u c _)) ⟨rfl, fun _ _ => rfl⟩
  have hj := State.afterEnd_jobsOnly (u.standBehind c x st fr) e
  have hair : ((u.standBehind c x st fr).afterEnd e).air =
      s.air.enqueue (zoneByte x.servingZone) (some c) (.step fr) := by
    refine hj.air.trans ?_
    rw [hq, ← ha]
    rfl
  have hc : (u.standBehind c x st fr).context c = some { x with
      state := st, stepFrame := some fr, retriesLeft := x.profile.retries, stepDeadline := none } := by
    rw [hq]
    exact u.context_setContext_self c _
  obtain ⟨j, hy⟩ := hj.context_some hc
  exact ⟨_, hy, rfl, rfl, rfl, rfl, hair, hj.air ▸ hv.jobsApart hj⟩

/-- The end of a job of kind with a result, in the stage that issued it: the context acts on the result (R38, R132). -/
theorem State.runs_result {s : State} {e : EngineNo} {k : Key} {j : Job} {c : ContextNo} {x : Context}
    {kind : JobKind} {stage : PassState} (hr : (s.engine e).state = .busy (some k) j) (hj : j.discard = false)
    (hk : j.kind = kind) (ho : j.owner = .context c) (hx : s.context c = some x) (hs : x.state = stage)
    (hd : stage ≠ .done) (hu : kind ≠ .unwrap) (onResult : ContextNo → Context → Block → State → State)
    (onLost : ContextNo → State → State) :
    s.completeJob e kind (fun j out s => s.contextJobEnd j stage out onResult onLost) =
      (onResult c x.apart (chain k j.input) (s.jobDone c x)).afterEnd e :=
  hk ▸ State.completeJob_result ⟨hr, hj⟩ ho hx hs hd (hk ▸ hu) onResult onLost

/-- The end of a job of kind whose result is discarded: the context acts on the loss (R132, R133). -/
theorem State.runs_lost {s : State} {e : EngineNo} {r : Option Key} {j : Job} {c : ContextNo} {x : Context}
    {kind : JobKind} {stage : PassState} (hr : (s.engine e).state = .busy r j) (hj : j.discard = true)
    (hk : j.kind = kind) (ho : j.owner = .context c) (hx : s.context c = some x) (hs : x.state = stage)
    (hd : stage ≠ .done) (onResult : ContextNo → Context → Block → State → State)
    (onLost : ContextNo → State → State) :
    s.completeJob e kind (fun j out s => s.contextJobEnd j stage out onResult onLost) =
      (onLost c (s.jobDone c x)).afterEnd e :=
  hk ▸ State.completeJob_lost hr hj ho hx hs hd onResult onLost

/-- Settles O24: both ends stand behind a step frame. -/
theorem challengeAndWriteAreQueued : Obligations.ChallengeAndWriteAreQueued := by
  rintro i e s k j c x st fr ⟨hr, hj⟩ ho hx h
  obtain ⟨y, hy⟩ := State.standBehind_afterEnd (s.jobDone_ownChange c x) rfl x.apart st fr e
  rcases h with ⟨rfl, hk, hs, rfl, rfl⟩ | ⟨rfl, hk, hs, rfl, rfl⟩
  · exact ⟨_, y, congrArg Host.Outcome.next (State.runs_result hr hj hk ho hx hs (by decide) (by decide) _ _), hy⟩
  · exact ⟨_, y, congrArg Host.Outcome.next (State.runs_result hr hj hk ho hx hs (by decide) (by decide) _ _), hy⟩

/-- Settles O28: either result ends the pass. -/
theorem caCompletion : Obligations.CaCompletion := by
  rintro e s k j c x ca ⟨hr, hj⟩ hk ho hx hs hca hf
  have hend : exec (.caJobCompletion e) s = .next (((s.jobDone c x).endPass c
      (if x.heldCa = some (firstFour (chain k j.input)) then .complete else .commitAuthFail)).afterEnd e) :=
    congrArg Host.Outcome.next (State.runs_result hr hj hk ho hx hs (by decide) (by decide) _ _)
  rw [hend, hca]
  refine ⟨fun h => ?_, fun h => ?_⟩
  · rw [if_pos (by rw [h])]
    have he := State.endPass_afterEnd (s.jobDone_ownChange c x) rfl (s.jobDone_context c x) .complete e
    refine ⟨_, rfl, he.ended, he.frame, he.recent.trans ?_, he.closes⟩
    unfold State.handRecent Context.recentEntry
    rw [show x.apart.profile = x.profile from rfl, if_neg hf]
    rfl
  · rw [if_neg fun hc => h (Option.some.inj hc).symm]
    have he := State.endPass_afterEnd (s.jobDone_ownChange c x) rfl (s.jobDone_context c x) .commitAuthFail e
    exact ⟨_, rfl, he.ended, he.frame, he.recent, he.closes⟩

/-- Settles O27: every outcome settles the record check. -/
theorem recordCodeVerify : Obligations.RecordCodeVerify := by
  rintro e s k j c x record o hr hk ho hx hs hrec h
  have hend : exec (.recordCodeVerifyCompletion e) s = .next (((s.jobDone c x).settleCheck c o).afterEnd e) := by
    have hres : ∀ o', j.discard = false → (if (x.recordRead 1).map recordCode = some (firstFour (chain k j.input))
        then RecordCheck.valid else .recordInvalid) = o' →
        exec (.recordCodeVerifyCompletion e) s = .next (((s.jobDone c x).settleCheck c o').afterEnd e) := by
      rintro _ hj rfl
      exact congrArg Host.Outcome.next (State.runs_result hr hj hk ho hx hs (by decide) (by decide) _ _)
    rw [hrec, Option.map_some] at hres
    rcases h with ⟨hj, hv, rfl⟩ | ⟨hj, hv, rfl⟩ | ⟨hj, rfl⟩
    · exact hres _ hj (if_pos (congrArg some hv))
    · exact hres _ hj (if_neg fun he => hv (Option.some.inj he))
    · exact congrArg Host.Outcome.next (State.runs_lost hr hj hk ho hx hs (by decide) _ _)
  obtain ⟨hp, hsh, hv, hc⟩ := State.settleCheck_afterEnd (s.jobDone_ownChange c x) rfl (s.jobDone_context c x)
    (State.not_idle_of_busy hr e rfl) (o := o) rfl
  exact ⟨_, hend, hp, hsh, hv, fun hx => hc (by rw [hx]; decide)⟩

/-! ### The record code (R31) -/

theorem recordCode_placeCode (r : Block) (code : Auth) : recordCode (placeCode r code) = code := by
  unfold recordCode placeCode
  ext i hi
  simp [hi]
  omega

theorem placeCode_ushiftRight (r : Block) (code : Auth) : placeCode r code >>> 32 = r >>> 32 := by
  unfold placeCode
  ext i hi
  simpa using fun h => BitVec.lt_of_getLsbD h

/-- Settles O26: the code placed under the same write generation, else the end without a write. -/
theorem recordCodeCompute : Obligations.RecordCodeCompute := by
  rintro e s k j c x record g hr hk ho hx hs hrec hg
  have hgen : x.recordGeneration = some g := by
    unfold Context.recordGeneration
    rw [hrec, Option.map_some]
    refine congrArg some (BitVec.eq_of_toNat_eq ?_)
    rw [BitVec.toNat_setWidth, hg, Nat.mod_eq_of_lt g.isLt]
  have hend : j.discard = false → exec (.recordCodeComputeCompletion e) s = .next (State.afterEnd
      (if s.keys.writeGen ≠ none ∧ s.keys.writeGen = x.recordGeneration then
        ((s.jobDone c x).setContext c (some { x.apart with
          tripRecord := some (placeCode (x.tripRecord.getD 0) (firstFour (chain k j.input))) })).issueFor c .wa (.sk c)
          (paddedBlocks (waMessage x.tagNumber x.counter
            (placeCode (x.tripRecord.getD 0) (firstFour (chain k j.input)))))
      else (s.jobDone c x).endNoWrite c) e) := fun hj =>
    congrArg Host.Outcome.next (State.runs_result hr hj hk ho hx hs (by decide) (by decide) _ _)
  rw [hgen, hrec] at hend
  have hown := s.jobDone_ownChange c x
  refine ⟨fun hj hw => ?_, fun h => ?_⟩
  · rw [hend hj, hw, if_pos ⟨by simp, rfl⟩]
    obtain ⟨⟨job, hy⟩, hjob, hap⟩ := State.issueFor_afterEnd (.after (.setContext _ c _) hown) rfl
      ((s.jobDone c x).context_setContext_self c _) (State.not_idle_of_busy hr e rfl) .wa (.sk c) _
    exact ⟨_, _, _, rfl, hy, hs, rfl, recordCode_placeCode _ _, placeCode_ushiftRight _ _, hjob, hap⟩
  · have hno : exec (.recordCodeComputeCompletion e) s = .next (((s.jobDone c x).endNoWrite c).afterEnd e) := by
      cases hj : j.discard with
      | true => exact congrArg Host.Outcome.next (State.runs_lost hr hj hk ho hx hs (by decide) _ _)
      | false =>
        rw [hend hj, if_neg fun hc => ?_]
        exact h.elim (by simp [hj]) (· hc.2)
    obtain ⟨h1, h2, h3, h4, h5⟩ := State.endNoWrite_afterEnd hown rfl (s.jobDone_context c x) e
    refine ⟨_, hno, h1, h2, h3, h4, h5.imp ?_ ?_⟩
    · exact fun ⟨y, hy, hn, ht, _⟩ => ⟨y, hy, hn, ht⟩
    · exact fun ⟨hc, r, hr, hi, ht, hn, hw, _⟩ => ⟨hc, r, hr, hi, ht, hn, hw⟩

/-! ### A TA that has completed (R48, R49) -/

/-- The context with its records read, and none held (R48). -/
def Context.read (x : Context) (recs : List Block) : Context :=
  { x with recordsRead := some recs, held := none }

/-- The part when the records held by context c have been read (R48). -/
def State.readDone (s : State) (c : ContextNo) (x : Context) (recs : List Block) : State :=
  (s.jobDone c x).setContext c (some (x.read recs).apart)

theorem State.readDone_ownChange (s : State) (c : ContextNo) (x : Context) (recs : List Block) :
    OwnChange s (s.readDone c x recs) c :=
  .after (.setContext _ c _) (s.jobDone_ownChange c x)

theorem State.readDone_context (s : State) (c : ContextNo) (x : Context) (recs : List Block) :
    (s.readDone c x recs).context c = some (x.read recs).apart :=
  State.context_setContext_self _ c _

/-- The record check over an ENTRY record that a slot serves (R32). -/
theorem State.recordCheck_issues {s : State} (c : ContextNo) {x : Context} {r : Block} {n : SlotNo}
    (hr : x.recordRead 1 = some r) (hb : blockByte r 9 = 1) (hn : s.checkSlot (blockByte r 8) = some n) :
    s.recordCheck c x =
      s.issueFor c .recordVerify (.slot n) (paddedBlocks (recordCodeMessage x.tagNumber r)) := by
  unfold State.recordCheck
  rw [hr]
  dsimp only
  rw [if_neg (not_not.mpr hb), hn]

/-- The record check settled with no job: no ENTRY record, or no slot to serve it (R32). -/
theorem State.recordCheck_settles {s : State} (c : ContextNo) {x : Context} {o : RecordCheck}
    (h : (o = .noEntryRecord ∧ ∀ r, x.recordRead 1 = some r → blockByte r 9 ≠ 1) ∨
      o = .recordKeyUnavailable ∧ ∃ r, x.recordRead 1 = some r ∧ blockByte r 9 = 1 ∧
        s.checkSlot (blockByte r 8) = none) : s.recordCheck c x = s.settleCheck c o := by
  unfold State.recordCheck
  rcases h with ⟨rfl, hno⟩ | ⟨rfl, r, hr, hb, hn⟩
  · cases hr : x.recordRead 1 with
    | none => rfl
    | some r => exact if_pos (hno r hr)
  · rw [hr]
    dsimp only
    rw [if_neg (not_not.mpr hb), hn]

/-- TA completes in CHECKING (R48). -/
theorem exec_ta {e : EngineNo} {s : State} {k : Key} {j : Job} {c : ContextNo} {x : Context}
    {recs : List Block} {ta : Auth} (hr : s.runs e k j) (hk : j.kind = .ta) (ho : j.owner = .context c)
    (hx : s.context c = some x) (hs : x.state = .checking) (hh : x.held = some (recs, ta)) :
    exec (.taJobCompletion e) s = .next (State.afterEnd (if ta = firstFour (chain k j.input)
      then (if x.checksRecord = true
        then (s.readDone c x recs).recordCheck c (x.read recs).apart
        else (s.readDone c x recs).afterCheck c)
      else ((s.jobDone c x).setContext c (some { x.apart with held := none })).endPass c .tagAuthFail) e) := by
  have h : exec (.taJobCompletion e) s = .next (State.afterEnd
      (if x.held.map Prod.snd = some (firstFour (chain k j.input)) then (s.jobDone c x).taVerified c x.apart
      else ((s.jobDone c x).setContext c (some { x.apart with held := none })).endPass c .tagAuthFail) e) :=
    congrArg Host.Outcome.next (State.runs_result hr.1 hr.2 hk ho hx hs (by decide) (by decide) _ _)
  have hv : (s.jobDone c x).taVerified c x.apart = if x.checksRecord = true
      then (s.readDone c x recs).recordCheck c (x.read recs).apart
      else (s.readDone c x recs).afterCheck c := by
    unfold State.taVerified
    dsimp only
    rw [show x.apart.held = some (recs, ta) from hh]
    rfl
  rw [h, hv, hh, Option.map_some]
  simp only [Option.some.injEq]

/-- An ENTRY or POINT pass makes no record check, nor a VERIFY pass that did not ask for record 1 (R32). -/
theorem Context.checksRecord_eq_false {x : Context} (h : (x.profile.function = .entry ∨ x.profile.function = .point) ∨
    (x.profile.function = .verify ∧ x.requestedSet.getLsbD 1 = false)) : x.checksRecord = false := by
  unfold Context.checksRecord
  rcases h with (h | h) | ⟨h, h1⟩
  · rw [h]; rfl
  · rw [h]; rfl
  · rw [h, h1]; rfl

/-- An EXIT pass makes its record check, and a VERIFY pass that asked for record 1 (R32). -/
theorem Context.checksRecord_eq_true {x : Context}
    (h : x.profile.function = .exit ∨ (x.profile.function = .verify ∧ x.requestedSet.getLsbD 1 = true)) :
    x.checksRecord = true := by
  unfold Context.checksRecord
  rcases h with h | ⟨h, h1⟩
  · rw [h]; rfl
  · rw [h, h1]; rfl

/-- Settles O25: by the result, and then by the zone function. -/
theorem taCompletion : Obligations.TaCompletion := by
  rintro e s k j c x recs ta hr hk ho hx hs hh hread
  have hown := s.readDone_ownChange c x recs
  have hctx := s.readDone_context c x recs
  have hb : (s.engine e).isIdle = false := State.not_idle_of_busy hr.1 e rfl
  rw [exec_ta hr hk ho hx hs hh]
  refine ⟨fun hm => ?_, fun hm hf => ?_, fun hm hf => ?_, fun hm hf h1 => ?_⟩
  · rw [if_neg (Ne.symm hm)]
    have he := State.endPass_afterEnd (.after (.setContext _ c _) (s.jobDone_ownChange c x)) rfl
      (State.context_setContext_self (s.jobDone c x) c (some { x.apart with held := none })) .tagAuthFail e
    exact ⟨_, rfl, he.ended, he.frame, he.recent, he.closes,
      he.shows (fun _ => hread) (congrArg (Option.map _) hread)⟩
  · have hv : x.profile.function ≠ .verify := by
      rcases hf with hf | hf <;> rw [hf] <;> decide
    rw [if_pos hm.symm, if_neg (by rw [Context.checksRecord_eq_false (.inl hf)]; decide), State.afterCheck_writes hctx hv]
    exact ⟨_, rfl, State.compose_composes hown rfl hctx hb⟩
  · rw [if_pos hm.symm, if_pos (Context.checksRecord_eq_true hf)]
    refine ⟨fun r n hrec hbyte hn => ?_, fun o h => ?_⟩
    · rw [State.recordCheck_issues (s := s.readDone c x recs) (x := (x.read recs).apart) c hrec hbyte hn]
      obtain ⟨⟨job, hy⟩, hjob, hap⟩ := State.issueFor_afterEnd hown rfl hctx hb .recordVerify (.slot n) _
      exact ⟨_, _, rfl, hy, hs, rfl, rfl, hjob, hap⟩
    · rw [State.recordCheck_settles (s := s.readDone c x recs) (x := (x.read recs).apart) c h]
      obtain ⟨-, -, hv, hc⟩ := State.settleCheck_afterEnd hown rfl hctx hb (o := o) rfl
      exact ⟨_, rfl, hv, fun hx => hc (hx ▸ by decide)⟩
  · rw [if_pos hm.symm, if_neg (by rw [Context.checksRecord_eq_false (.inr ⟨hf, h1⟩)]; decide),
      State.afterCheck_verifies hctx hf]
    exact ⟨_, rfl, State.complete_verified hown rfl hctx hf e⟩

end Sys2Proof.Machine
end

section
/-! PROOF. The wipe, by the line and by the request (R17, R121 to R124, R166, R174). -/

namespace Sys2Proof.Machine

/-- The alerts a wipe sends (R123, R174). -/
def State.wipeAlerts (s : State) : List Answer :=
  if s.events.flag Event.zeroised.number = false ∧ s.events.selected Event.zeroised.number = true ∧ s.device ≠ .hold ∧
    s.lane.responses.length < 8 then [.alert Event.zeroised.number s.clock.laneTime] else []

/-- The part after a wipe, but for the requests and the responses queued and the response held (R123, R124). -/
def State.wipedWith (s : State) (requests : List Request) (responses : List Answer) (held : Option Response) : State :=
  { s with
    device := if s.device = .hold then .hold else .maintenance
    keys := s.keys.wiped
    mgmt := { Management.cleared with held }
    cipher := Cipher.cleared
    passes := PassTable.cleared
    cache := []
    recent := []
    air := if s.device = .hold then s.air else s.air.wiped
    events := s.events.record Event.zeroised.number
    lane := { s.lane with requests, responses } }

/-- A wipe keeps the requests and the response held, and sends its alerts (R123, R174). -/
theorem State.wipe_eq_wipedWith (s : State) :
    s.wipe = s.wipedWith s.lane.requests (s.lane.responses ++ s.wipeAlerts) s.mgmt.held := by
  have hd : (if s.device = .hold then DeviceState.hold else .maintenance) ≠ .hold ↔ s.device ≠ .hold := by
    split <;> simp_all
  have ha : State.alertsOf { s.wipeBlocks with device := if s.device = .hold then .hold else .maintenance } .zeroised =
      s.wipeAlerts := by
    unfold State.alertsOf State.wipeAlerts
    dsimp only [State.wipeBlocks]
    simp only [hd]
  rw [State.wipe_eq, State.raise_eq, ha]
  rfl

/-- An event recorded leaves some flag set (R166, R168). -/
theorem Events.record_attention (v : Events) (n : EventNo) : ((v.record n).flags != 0) = true := by
  rw [bne_iff_ne]
  intro h
  have hn : (v.record n).flag n = true := by
    rw [Events.flag_record]
    simp
  unfold Events.flag at hn
  rw [h] at hn
  simp at hn

/-- The OK to a ZEROISE request (R124, R166). -/
def Request.zeroised (q : Request) : Response :=
  { tag := q.tag, code := q.code, status := .ok, attention := true, keyChange := true, data := [] }

theorem State.composeResponse_wiped (s : State) (q : Request) (rq : List Request) (rs : List Answer)
    (h : Option Response) : (s.wipedWith rq rs h).composeResponse q.tag q.code .ok [] = q.zeroised := by
  unfold State.composeResponse State.attention
  rw [show (s.wipedWith rq rs h).events = s.events.record Event.zeroised.number from rfl, Events.record_attention]
  rfl

/-- The OK to a ZEROISE request joins the response queue, or is held where that is full (R166). -/
theorem State.respond_wiped (s : State) (q : Request) (rq : List Request) (rs : List Answer) :
    (rs.length < 8 → (s.wipedWith rq rs none).respond q .ok = s.wipedWith rq (rs ++ [.response q.zeroised]) none) ∧
      (8 ≤ rs.length → (s.wipedWith rq rs none).respond q .ok = s.wipedWith rq rs (some q.zeroised)) := by
  refine ⟨fun h => ?_, fun h => ?_⟩ <;> unfold State.respond State.sendResponse <;> rw [State.composeResponse_wiped]
  · exact if_pos h
  · exact if_neg (Nat.not_lt.mpr h)

/-- The line wipes outside held reset (R122). -/
theorem exec_zeroiseLine_wipes {s : State} (h : s.device = .hold ∨ s.lines.reset = false) :
    exec .zeroiseLine s =
      .next (s.wipedWith s.lane.requests (s.lane.responses ++ s.wipeAlerts) s.mgmt.held) := by
  have hr : ¬s.heldInReset = true := by
    unfold State.heldInReset
    rcases h with h | h <;> rw [h] <;> simp
  rw [← State.wipe_eq_wipedWith]
  exact congrArg Host.Outcome.next (if_neg hr)

/-- The request wipes and is answered (R121, R166). -/
theorem exec_zeroise_wipes {s : State} {q : Request} {rest : List Request} (hd : s.device ≠ .init) (ht : s.takes q rest)
    (hc : q.code = 0x1A#8) :
    exec .zeroise s = .next ((s.wipedWith rest (s.lane.responses ++ s.wipeAlerts) none).respond q .ok) := by
  obtain ⟨-, -, hheld, -, -⟩ := id ht
  have hw : (s.left rest).wipe = s.wipedWith rest (s.lane.responses ++ s.wipeAlerts) none := by
    rw [State.wipe_eq_wipedWith, ← hheld]
    rfl
  show Host.Outcome.next (s.take _ _) = _
  rw [State.take_of_takes ht (by rw [hc]; rfl), ← hw]
  exact congrArg Host.Outcome.next (if_neg hd)

/-- What either form of the wipe leaves queued and held (R124, R166, R174). -/
theorem exec_wipes {i : Instr} {s : State} (h : (i = .zeroiseLine ∧ (s.device = .hold ∨ s.lines.reset = false)) ∨
      (i = .zeroise ∧ s.device ≠ .init ∧ ∃ q rest, s.takes q rest ∧ q.code = 0x1A#8)) :
    ∃ rq rs held, exec i s = .next (s.wipedWith rq rs held) ∧
      (i = .zeroiseLine → rq = s.lane.requests ∧ held = s.mgmt.held ∧ rs = s.lane.responses ++ s.wipeAlerts) ∧
      (i = .zeroise → ∀ q rest, s.lane.requests = q :: rest → rq = rest ∧
        ((s.lane.responses ++ s.wipeAlerts).length < 8 →
          rs = s.lane.responses ++ s.wipeAlerts ++ [.response q.zeroised] ∧ held = none) ∧
        (8 ≤ (s.lane.responses ++ s.wipeAlerts).length →
          rs = s.lane.responses ++ s.wipeAlerts ∧ held = some q.zeroised)) := by
  rcases h with ⟨rfl, h⟩ | ⟨rfl, hd, q, rest, ht, hc⟩
  · exact ⟨_, _, _, exec_zeroiseLine_wipes h, fun _ => ⟨rfl, rfl, rfl⟩, nofun⟩
  · obtain ⟨-, -, -, hq, -⟩ := id ht
    obtain ⟨hroom, hfull⟩ := s.respond_wiped q rest (s.lane.responses ++ s.wipeAlerts)
    rw [exec_zeroise_wipes hd ht hc, hq]
    rcases Nat.lt_or_ge (s.lane.responses ++ s.wipeAlerts).length 8 with hl | hl
    · refine ⟨_, _, _, congrArg Host.Outcome.next (hroom hl), nofun, fun _ q' rest' he => ?_⟩
      obtain ⟨rfl, rfl⟩ := List.cons.inj he
      exact ⟨rfl, fun _ => ⟨rfl, rfl⟩, fun h => absurd hl (Nat.not_lt.mpr h)⟩
    · refine ⟨_, _, _, congrArg Host.Outcome.next (hfull hl), nofun, fun _ q' rest' he => ?_⟩
      obtain ⟨rfl, rfl⟩ := List.cons.inj he
      exact ⟨rfl, fun h => absurd h (Nat.not_lt.mpr hl), fun _ => ⟨rfl, rfl⟩⟩

/-- The air port after a wipe outside HOLD (R17). -/
theorem AirPort.wiped_confirm (a : AirPort) :
    (∀ e ∈ a.wiped.confirm, e.owner = none) ∧
      a.wiped.confirm.map ConfirmEntry.handle = a.confirm.map ConfirmEntry.handle := by
  refine ⟨fun e he => ?_, List.map_map⟩
  obtain ⟨_, _, rfl⟩ := List.mem_map.mp he
  rfl

/-- Settles O53: both forms leave `State.wipedWith`, and differ in what is queued and held. -/
theorem wipeRule : Obligations.WipeRule := by
  intro i s h
  obtain ⟨rq, rs, held, hexec, hline, hreq⟩ := exec_wipes h
  refine ⟨_, hexec, fun n => tableGet_replicate _ _, rfl, rfl, rfl, rfl, rfl, rfl, rfl, fun c => tableGet_replicate _ _,
    fun z => tableGet_replicate _ _, rfl, rfl, rfl, rfl, rfl, rfl, rfl, rfl, rfl, rfl, rfl, ?_, ?_, rfl, rfl,
    fun hi => ?_, fun hd => if_pos hd, fun hd => ?_, s.wipeAlerts, rfl, fun hi => ?_, fun hi q rest r hq hr => ?_⟩
  · dsimp only [State.wipedWith]
    split <;> rfl
  · dsimp only [State.wipedWith]
    split <;> rfl
  · obtain ⟨rfl, rfl, -⟩ := hline hi
    exact ⟨rfl, rfl⟩
  · rw [show (s.wipedWith rq rs held).air = s.air.wiped from if_neg hd]
    exact ⟨rfl, rfl, s.air.wiped_confirm⟩
  · obtain ⟨-, -, rfl⟩ := hline hi
    rfl
  · obtain rfl := hr
    exact hreq hi q rest hq

end Sys2Proof.Machine
end

section
/-! SUPPORT. What writes the lane profile: SET-PROFILE, SET-TIMING and the events that bring the defaults back; every
other command leaves it (R18 to R23, R179, R181 to R183). -/

namespace Sys2Proof.Machine

/-! ### Work that leaves the profile: passes and the two ports -/

theorem State.passFrame_profile {s t : State} {c : ContextNo} (h : s.passFrame t c) : t.profile = s.profile := by
  rw [h.1]

theorem State.offerClose_profile (s : State) (z : ZoneNo) (tag : TagNumber) (ok : Bool) :
    (s.offerClose z tag ok).profile = s.profile := State.passFrame_profile (s.offerClose_passFrame z tag ok 0)

theorem State.attemptRelease_profile (s : State) (z : ZoneNo) : (s.attemptRelease z).profile = s.profile :=
  State.passFrame_profile (s.attemptRelease_passFrame z 0)

theorem State.endPass_profile (s : State) (c : ContextNo) (r : PassResult) : (s.endPass c r).profile = s.profile :=
  State.passFrame_profile (s.endPass_passFrame c r)

theorem State.endNoWrite_profile (s : State) (c : ContextNo) : (s.endNoWrite c).profile = s.profile :=
  State.passFrame_profile (s.endNoWrite_passFrame c)

theorem State.settleCheck_profile (s : State) (c : ContextNo) (o : RecordCheck) :
    (s.settleCheck c o).profile = s.profile := State.passFrame_profile (s.settleCheck_passFrame c o)

theorem State.issueFor_profile (s : State) (c : ContextNo) (kind : JobKind) (key : KeyId) (input : List Block) :
    (s.issueFor c kind key input).profile = s.profile := (s.issueFor_jobsOnly c kind key input).profile

theorem State.scrubTest_profile (s : State) : s.scrubTest.profile = s.profile := s.scrubTest_jobsOnly.profile

theorem State.arrive_profile (s : State) (j : Job) : (s.arrive j).profile = s.profile := (s.arrive_jobsOnly j).profile

theorem State.forward_profile (s : State) (kind : Byte) (p : List Byte) : (s.forward kind p).profile = s.profile := by
  unfold State.forward
  split
  · rfl
  · exact s.raise_profile _

theorem State.offerPassthrough_profile (s : State) (p : List Byte) : (s.offerPassthrough p).profile = s.profile := by
  unfold State.offerPassthrough
  split
  · rfl
  · exact s.raise_profile _

theorem State.sendResponse_profile (s : State) (r : Response) : (s.sendResponse r).profile = s.profile := by
  unfold State.sendResponse
  split <;> rfl

@[simp] theorem State.respond_profile (s : State) (q : Request) (st : Status) (data : List Byte) :
    (s.respond q st data).profile = s.profile := s.sendResponse_profile _

@[simp] theorem State.finish_profile (s : State) (st : Status) (data : List Byte) :
    (s.finish st data).profile = s.profile := by
  unfold State.finish
  split
  · rfl
  · exact State.sendResponse_profile _ _

theorem State.portAnswer_profile (s : State) (tag code : Byte) (st : Status) :
    (s.portAnswer tag code st).profile = s.profile := by
  unfold State.portAnswer
  split
  · rfl
  · exact s.raise_profile _

theorem State.laneFrame_profile (s : State) (cls : Byte) (f : PortFrame) : (s.laneFrame cls f).profile = s.profile := by
  unfold State.laneFrame State.arriveRequest
  repeat' split
  all_goals simp [State.offerPassthrough_profile, State.portAnswer_profile]

/-! ### Work that leaves the profile: the key store -/

@[simp] theorem State.discardTwoPart_profile (s : State) : s.discardTwoPart.profile = s.profile := by
  unfold State.discardTwoPart
  split <;> rfl

theorem State.failLoad_profile (s : State) (st : Status) : (s.failLoad st).profile = s.profile :=
  (State.finish_profile _ _ _).trans s.discardTwoPart_profile

@[simp] theorem State.setWriteGen_profile (s : State) (g : Option Generation) : (s.setWriteGen g).profile = s.profile := by
  unfold State.setWriteGen
  split <;> rfl

@[simp] theorem State.clearWriteGenOf_profile (s : State) (x : Slot) : (s.clearWriteGenOf x).profile = s.profile := by
  unfold State.clearWriteGenOf
  split
  · exact s.setWriteGen_profile none
  · rfl

theorem State.dropCacheOf_profile (s : State) (x : Slot) : (s.dropCacheOf x).profile = s.profile := by
  unfold State.dropCacheOf
  split <;> rfl

theorem State.jobRemoved_profile (s : State) (j : Job) : (s.jobRemoved j).profile = s.profile := by
  unfold State.jobRemoved
  split
  · exact State.scrubTest_profile _
  · exact s.failLoad_profile _
  · cases j.kind with
    | recordCompute => exact (State.endNoWrite_profile _ _).trans (State.scrubTest_profile _)
    | recordVerify => exact (State.settleCheck_profile _ _ _).trans (State.scrubTest_profile _)
    | _ => exact State.scrubTest_profile _

theorem State.masterLost_profile (s : State) (n : SlotNo) (c : ContextNo) : (s.masterLost n c).profile = s.profile := by
  unfold State.masterLost
  split
  · split
    · exact s.endPass_profile c _
    · rfl
  · rfl

theorem State.foldl_profile {α : Type} {f : State → α → State} (h : ∀ s a, (f s a).profile = s.profile) (l : List α)
    (s : State) : (l.foldl f s).profile = s.profile := by
  induction l generalizing s with
  | nil => rfl
  | cons a l ih => exact (ih _).trans (h s a)

theorem State.withdrawLoss_profile (s : State) (n : SlotNo) (x : Slot) : (s.withdrawLoss n x).profile = s.profile := by
  have hr : (State.removeJobs (((s.clearWriteGenOf x).dropCacheOf x).tellEngines (Engine.atLoss n)) n).profile = s.profile :=
    (State.dropCacheOf_profile _ x).trans (s.clearWriteGenOf_profile x)
  have hj := (State.foldl_profile State.jobRemoved_profile (s.cipher.queue.filter (Job.names n)) _).trans hr
  unfold State.withdrawLoss
  dsimp only
  split
  · exact (State.foldl_profile (fun t c => t.masterLost_profile n c) _ _).trans hj
  · exact hj

theorem State.faultSlot_profile (s : State) (n : SlotNo) : (s.faultSlot n).profile = s.profile :=
  (State.withdrawLoss_profile _ n _).trans (State.raise_profile _ _)

theorem State.beginErase_profile (s : State) (n : SlotNo) : (s.beginErase n).profile = s.profile :=
  State.withdrawLoss_profile _ n _

theorem State.walk_profile (s : State) (m : Minute) : (s.walk m).profile = s.profile := by
  rw [(s.walk_calendarOnly m).rest]

theorem State.continueInitCheck_profile (s : State) : s.continueInitCheck.profile = s.profile := by
  unfold State.continueInitCheck
  split
  · exact State.scrubTest_profile _
  · exact State.arrive_profile _ _

theorem State.afterScrub_profile (s : State) : s.afterScrub.profile = s.profile := by
  unfold State.afterScrub
  dsimp only
  split
  · exact State.continueInitCheck_profile _
  · exact State.scrubTest_profile _

theorem State.judgeScrub_profile (s : State) (n : SlotNo) (out : Option Block) : (s.judgeScrub n out).profile = s.profile := by
  unfold State.judgeScrub
  dsimp only
  repeat' split
  · rfl
  · rfl
  · exact s.faultSlot_profile n
  · rfl

/-! ### Work that leaves the profile: the ends of jobs -/

/-- The end of a context's job leaves the profile where the actions it may take do (R133). -/
theorem State.contextJobEnd_profile (s : State) (j : Job) (stage : PassState) (out : Option Block)
    {onResult : ContextNo → Context → Block → State → State} {onLost : ContextNo → State → State}
    (hr : ∀ c x r t, (onResult c x r t).profile = t.profile) (hl : ∀ c t, (onLost c t).profile = t.profile) :
    (s.contextJobEnd j stage out onResult onLost).profile = s.profile := by
  unfold State.contextJobEnd
  dsimp only
  repeat' split
  · rfl
  · rfl
  · rfl
  · exact State.attemptRelease_profile _ _
  · exact hr _ _ _ _
  · exact hl _ _
  · rfl

theorem State.issueSession_profile (s : State) (c : ContextNo) : (s.issueSession c).profile = s.profile := by
  unfold State.issueSession
  split
  · rfl
  · exact State.issueFor_profile _ _ _ _ _

theorem State.cacheOffer_profile (s : State) (bound : Option SlotNo) (x : CacheEntry) :
    (s.cacheOffer bound x).profile = s.profile := by
  unfold State.cacheOffer
  repeat' split
  all_goals rfl

theorem State.standBehind_profile (s : State) (c : ContextNo) (x : Context) (st : PassState) (f : StepFrame) :
    (s.standBehind c x st f).profile = s.profile :=
  State.passFrame_profile (State.passFrame_trans (s.setContext_passFrame c _) (State.queueStep_passFrame _ c))

theorem State.taVerified_profile (s : State) (c : ContextNo) (x : Context) : (s.taVerified c x).profile = s.profile :=
  State.passFrame_profile (s.taVerified_passFrame c x)

theorem State.unwrapEnd_profile (s : State) (j : Job) (out : Option Block) : (s.unwrapEnd j out).profile = s.profile := by
  unfold State.unwrapEnd
  split
  · exact State.arrive_profile _ _
  · exact s.failLoad_profile _

theorem State.kcvEnd_profile (s : State) (j : Job) (out : Option Block) : (s.kcvEnd j out).profile = s.profile := by
  unfold State.kcvEnd
  repeat' split
  all_goals simp [State.failLoad_profile, State.scrubTest_profile]

theorem State.combineEnd_profile (s : State) (j : Job) (out : Option Block) : (s.combineEnd j out).profile = s.profile := by
  unfold State.combineEnd
  repeat' split
  all_goals simp [State.scrubTest_profile]

theorem State.scrubEnd_profile (s : State) (j : Job) (out : Option Block) : (s.scrubEnd j out).profile = s.profile := by
  unfold State.scrubEnd
  split
  · exact (State.afterScrub_profile _).trans (s.judgeScrub_profile _ _)
  all_goals exact s.afterScrub_profile

theorem State.deriveEnd_profile (s : State) (j : Job) (out : Option Block) : (s.deriveEnd j out).profile = s.profile :=
  s.contextJobEnd_profile _ _ _
    (fun _ _ _ _ => (State.issueSession_profile _ _).trans (State.cacheOffer_profile _ _ _)) fun _ _ => rfl

theorem State.sessionEnd_profile (s : State) (j : Job) (out : Option Block) : (s.sessionEnd j out).profile = s.profile :=
  s.contextJobEnd_profile _ _ _ (fun _ _ _ _ => State.issueFor_profile _ _ _ _ _) fun _ _ => rfl

theorem State.raEnd_profile (s : State) (j : Job) (out : Option Block) : (s.raEnd j out).profile = s.profile :=
  s.contextJobEnd_profile _ _ _ (fun _ _ _ _ => State.standBehind_profile _ _ _ _ _) fun _ _ => rfl

theorem State.taEnd_profile (s : State) (j : Job) (out : Option Block) : (s.taEnd j out).profile = s.profile := by
  refine s.contextJobEnd_profile _ _ _ (fun _ _ _ _ => ?_) fun _ _ => rfl
  split
  · exact State.taVerified_profile _ _ _
  · exact State.endPass_profile _ _ _

theorem State.waEnd_profile (s : State) (j : Job) (out : Option Block) : (s.waEnd j out).profile = s.profile :=
  s.contextJobEnd_profile _ _ _ (fun _ _ _ _ => State.standBehind_profile _ _ _ _ _) fun _ _ => rfl

theorem State.caEnd_profile (s : State) (j : Job) (out : Option Block) : (s.caEnd j out).profile = s.profile :=
  s.contextJobEnd_profile _ _ _ (fun _ _ _ _ => State.endPass_profile _ _ _) fun _ _ => rfl

theorem State.computeEnd_profile (s : State) (j : Job) (out : Option Block) : (s.computeEnd j out).profile = s.profile := by
  refine s.contextJobEnd_profile _ _ _ (fun _ _ _ _ => ?_) fun _ _ => State.endNoWrite_profile _ _
  split
  · exact State.issueFor_profile _ _ _ _ _
  · exact State.endNoWrite_profile _ _

theorem State.verifyEnd_profile (s : State) (j : Job) (out : Option Block) : (s.verifyEnd j out).profile = s.profile :=
  s.contextJobEnd_profile _ _ _ (fun _ _ _ _ => State.settleCheck_profile _ _ _)
    fun _ _ => State.settleCheck_profile _ _ _

/-- What an owner does with the end of its job leaves the profile (R133). -/
theorem State.deliver_profile (s : State) (j : Job) (out : Option Block) : (s.deliver j out).profile = s.profile := by
  unfold State.deliver
  cases j.kind with
  | derive => exact s.deriveEnd_profile j out
  | session => exact s.sessionEnd_profile j out
  | ra => exact s.raEnd_profile j out
  | ta => exact s.taEnd_profile j out
  | wa => exact s.waEnd_profile j out
  | ca => exact s.caEnd_profile j out
  | recordCompute => exact s.computeEnd_profile j out
  | recordVerify => exact s.verifyEnd_profile j out
  | unwrap => exact s.unwrapEnd_profile j out
  | kcv => exact s.kcvEnd_profile j out
  | combine => exact s.combineEnd_profile j out
  | scrub => exact s.scrubEnd_profile j out

/-- The completion of a job leaves the profile where its owner's action does (R132). -/
theorem State.completeJob_profile (s : State) (e : EngineNo) (kind : JobKind) {act : Job → Option Block → State → State}
    (h : ∀ j out, (act j out s).profile = s.profile) : (s.completeJob e kind act).profile = s.profile := by
  unfold State.completeJob
  split
  · split
    · exact (State.afterEnd_jobsOnly _ e).profile.trans (h _ _)
    · rfl
  all_goals rfl

theorem State.completeOpening_profile (s : State) (e : EngineNo) : (s.completeOpening e).profile = s.profile := by
  unfold State.completeOpening
  dsimp only
  repeat' split
  · exact (State.afterEnd_jobsOnly _ e).profile.trans (s.deliver_profile _ _)
  all_goals rfl

end Sys2Proof.Machine
end

section
/-! PROOF. Every step keeps the ranges of the lane profile, and power-on reset has every law (R18 to R23, R183). -/

namespace Sys2Proof.Machine

/-! ### The changes of the profile (R20 to R23, R179, R181 to R183) -/

/-- All that a step can make of the lane profile l. -/
inductive LaneProfile.Move (l : LaneProfile) : LaneProfile → Prop
  | same : LaneProfile.Move l l
  | defaults : LaneProfile.Move l LaneProfile.defaults
  | zone (z : ZoneNo) (r : SetProfile) (f : ZoneFunction) :
      LaneProfile.Move l { l with zones := tableSet l.zones z ((tableGet l.zones z).update r f) }
  | timing (r : SetTiming) : LaneProfile.Move l (l.update r)

theorem LaneProfile.Move.of_eq {l m : LaneProfile} (h : m = l) : l.Move m := h ▸ .same

theorem clampTo_bounds {lo hi : Nat} (h : lo ≤ hi) (n : Nat) : lo ≤ clampTo lo hi n ∧ clampTo lo hi n ≤ hi := by
  unfold clampTo
  omega

/-- A field that takes either a value in its range or the one it had stays in its range. -/
theorem masked_of {α : Type} {p : α → Prop} {new old : α} (hn : p new) (ho : p old) (named : Bool) :
    p (masked named new old) := by
  cases named
  · exact ho
  · exact hn

theorem recordSet_zero_set (b : RecordSet) : (b ||| 1).getLsbD 0 = true := by
  simp

/-- SET-PROFILE leaves a zone profile in its ranges (R22). -/
theorem ZoneProfile.update_inRange {z : ZoneProfile} (h : z.inRange) (r : SetProfile) (f : ZoneFunction) :
    (z.update r f).inRange := by
  obtain ⟨hset, hlo, hhi, hret⟩ := h
  have hreply := clampTo_bounds (show 5 ≤ 255 by decide) r.replyTimeout.toNat
  exact ⟨masked_of (p := fun b : RecordSet => b.getLsbD 0 = true) (recordSet_zero_set _) hset _,
    masked_of (p := (5 ≤ ·)) hreply.1 hlo _, masked_of (p := (· ≤ 255)) hreply.2 hhi _,
    masked_of (p := (· ≤ 7)) (clampTo_bounds (Nat.zero_le 7) _).2 hret _⟩

theorem LaneProfile.defaults_inRange : LaneProfile.defaults.inRange :=
  ⟨fun z => by
    rw [show tableGet LaneProfile.defaults.zones z = ZoneProfile.default z from tableGet_ofFn _ z]
    exact ⟨by decide +revert, by decide +revert, by decide +revert, by decide +revert⟩, by decide, by decide, by decide⟩

/-- SET-TIMING leaves the timing record in its ranges (R23). -/
theorem LaneProfile.update_inRange {l : LaneProfile} (h : l.inRange) (r : SetTiming) : (l.update r).inRange := by
  obtain ⟨hz, hp, hw, hs⟩ := h
  exact ⟨hz, masked_of (p := fun n => 100 ≤ n ∧ n ≤ 10000) (clampTo_bounds (by decide) _) hp _,
    masked_of (p := fun n => 1 ≤ n ∧ n ≤ 255) (clampTo_bounds (by decide) _) hw _,
    masked_of (p := fun n => 1 ≤ n ∧ n ≤ 255) (clampTo_bounds (by decide) _) hs _⟩

/-- Every change of the profile keeps its ranges (R18, R19). -/
theorem LaneProfile.Move.inRange {l m : LaneProfile} (h : l.Move m) (hl : l.inRange) : m.inRange := by
  cases h with
  | same => exact hl
  | defaults => exact LaneProfile.defaults_inRange
  | timing r => exact LaneProfile.update_inRange hl r
  | zone z r f =>
    obtain ⟨hz, ht⟩ := hl
    refine ⟨fun w => ?_, ht⟩
    rw [tableGet_tableSet]
    split
    · exact ZoneProfile.update_inRange (hz z) r f
    · exact hz w

/-! ### Frames at the two ports -/

theorem State.uplink_profile (s : State) (kind : Byte) (f : PortFrame) {act : State → State}
    (h : (act s).profile = s.profile) : (s.uplink kind f act).profile = s.profile := by
  unfold State.uplink
  repeat' split
  · rfl
  · rfl
  · exact h
  · exact s.raise_profile _

theorem State.offerTagFrame_profile (s : State) (kind : Byte) (p : List Byte) {judge : State → List Byte → State}
    (h : (judge s p).profile = s.profile) : (s.offerTagFrame kind p judge).profile = s.profile := by
  unfold State.offerTagFrame
  split
  · exact s.forward_profile _ _
  · exact h

theorem State.stray_profile (s : State) (kind : Byte) (p : List Byte) (held : Bool) :
    (s.stray kind p held).profile = s.profile := by
  unfold State.stray
  split
  · exact s.forward_profile _ _
  · exact s.raise_profile _

theorem State.openDone_profile (s : State) (c : ContextNo) (h : Hello) (r : PassResult) (flags : PassFlags) :
    (s.openDone c h r flags).profile = s.profile := by
  unfold State.openDone
  refine (State.attemptRelease_profile _ _).trans ?_
  split
  · exact State.raise_profile _ _
  · exact State.offerClose_profile _ _ _ _

theorem State.openKeying_profile (s : State) (c : ContextNo) (h : Hello) (n : SlotNo) (flags : PassFlags) :
    (s.openKeying c h n flags).profile = s.profile := by
  unfold State.openKeying
  dsimp only
  split
  · exact State.issueSession_profile _ _
  · exact State.issueFor_profile _ _ _ _ _

theorem State.joinContext_profile (s : State) (c : ContextNo) (x : Context) (h : Hello) :
    (s.joinContext c x h).profile = s.profile := by
  unfold State.joinContext
  split <;> rfl

theorem State.openFresh_profile (s : State) (c : ContextNo) (h : Hello) (u : Bool) :
    (s.openFresh c h u).profile = s.profile := by
  unfold State.openFresh
  split
  · exact s.openKeying_profile _ _ _ _
  · exact s.openDone_profile _ _ _ _

theorem State.judgeRecent_profile (s : State) (c : ContextNo) (h : Hello) :
    (s.judgeRecent c h).profile = s.profile := by
  unfold State.judgeRecent
  dsimp only
  split
  · rfl
  · exact State.openDone_profile _ _ _ _ _
  · exact State.openFresh_profile _ _ _ _

theorem State.judgeHello_profile (s : State) (p : List Byte) : (s.judgeHello p).profile = s.profile := by
  unfold State.judgeHello
  dsimp only
  split
  · split
    · exact s.joinContext_profile _ _ _
    · rfl
  · split
    · split
      · exact s.judgeRecent_profile _ _
      · exact s.raise_profile _
    · exact s.forward_profile _ _

theorem State.judgeData_profile (s : State) (p : List Byte) : (s.judgeData p).profile = s.profile := by
  unfold State.judgeData State.takeData
  dsimp only
  repeat' split
  · exact State.endPass_profile _ _ _
  · exact State.issueFor_profile _ _ _ _ _
  · exact s.stray_profile _ _ _
  · rfl
  · exact s.stray_profile _ _ _

theorem State.judgeCommit_profile (s : State) (p : List Byte) : (s.judgeCommit p).profile = s.profile := by
  unfold State.judgeCommit State.takeCommit
  dsimp only
  repeat' split
  · exact State.endPass_profile _ _ _
  · exact State.issueFor_profile _ _ _ _ _
  · exact s.stray_profile _ _ _
  · rfl
  · exact s.stray_profile _ _ _

theorem State.reportFailed_profile (s : State) (o : Option ContextNo) : (s.reportFailed o).profile = s.profile := by
  unfold State.reportFailed
  repeat' split
  · rfl
  · exact State.passFrame_profile (s.retryOrEnd_passFrame _)
  · rfl
  · rfl

theorem State.takeSent_profile (s : State) (p : List Byte) : (s.takeSent p).profile = s.profile := by
  unfold State.takeSent
  split
  · rfl
  · rename_i e _
    cases e.owner with
    | none => rfl
    | some c => exact State.passFrame_profile (State.reportSent_passFrame _ c _)

theorem State.takeSendFailed_profile (s : State) (p : List Byte) : (s.takeSendFailed p).profile = s.profile := by
  unfold State.takeSendFailed
  split
  · rfl
  · exact State.reportFailed_profile _ _

theorem execOther_profile (kind : Byte) (f : PortFrame) (s : State) :
    ∃ t, execOther kind f s = .next t ∧ t.profile = s.profile := by
  unfold execOther
  repeat' split
  · exact ⟨_, rfl, s.uplink_profile _ f (s.offerTagFrame_profile _ _ (s.judgeHello_profile _))⟩
  · exact ⟨_, rfl, s.uplink_profile _ f (s.offerTagFrame_profile _ _ (s.judgeData_profile _))⟩
  · exact ⟨_, rfl, s.uplink_profile _ f (s.offerTagFrame_profile _ _ (s.judgeCommit_profile _))⟩
  · exact ⟨_, rfl, s.uplink_profile _ f rfl⟩
  · exact ⟨_, rfl, s.uplink_profile _ f (s.takeSent_profile _)⟩
  · exact ⟨_, rfl, s.uplink_profile _ f (s.takeSendFailed_profile _)⟩
  · exact ⟨_, rfl, s.uplink_profile _ f (s.forward_profile _ _)⟩

theorem State.enterHeld_profile (s : State) : s.enterHeld.profile = s.profile := by
  unfold State.enterHeld
  split <;> rfl

theorem State.releaseStalled_profile (s : State) : s.releaseStalled.profile = s.profile := by
  unfold State.releaseStalled
  split
  · rfl
  · dsimp only
    split
    · exact State.attemptRelease_profile _ _
    · rfl

theorem State.startLaneSend_profile (s : State) : s.startLaneSend.profile = s.profile := by
  unfold State.startLaneSend
  split
  · exact State.enterHeld_profile _
  · exact State.releaseStalled_profile _
  · rfl

/-! ### Requests (R165) -/

/-- A request row moves the profile as its judgement does. -/
theorem State.take_move (s : State) (fits : Byte → Bool) {judge : Request → State → State}
    (h : ∀ q (t : State), t.profile.Move (judge q t).profile) : s.profile.Move (s.take fits judge).profile := by
  unfold State.take
  split
  · exact h _ s.popRequest
  · exact .same

theorem underOrder_move {judge : Request → State → State} (h : ∀ q (t : State), t.profile.Move (judge q t).profile) (q : Request)
    (s : State) : s.profile.Move (underOrder judge q s).profile := by
  unfold underOrder
  split
  · exact h q s
  · exact .of_eq (by simp)

theorem outsideInit_move {judge : Request → State → State} (h : ∀ q (t : State), t.profile.Move (judge q t).profile) (q : Request)
    (s : State) : s.profile.Move (outsideInit judge q s).profile := by
  unfold outsideInit
  split
  · exact .of_eq (by simp)
  · exact h q s

theorem State.takeRequest_move (s : State) (code : Byte) {judge : Request → State → State}
    (h : ∀ q (t : State), t.profile.Move (judge q t).profile) : s.profile.Move (s.takeRequest code judge).profile :=
  s.take_move _ (underOrder_move (outsideInit_move h))

/-- The same for a judgement that leaves the profile. -/
theorem State.takeRequest_same (s : State) (code : Byte) {judge : Request → State → State}
    (h : ∀ q t, (judge q t).profile = t.profile) : s.profile.Move (s.takeRequest code judge).profile :=
  s.takeRequest_move code fun q t => .of_eq (h q t)

theorem judgeSetProfile_move (q : Request) (s : State) : s.profile.Move (judgeSetProfile q s).profile := by
  unfold judgeSetProfile
  dsimp only
  repeat' split
  · exact .of_eq (by simp)
  · exact .of_eq (by simp)
  · rw [State.respond_profile]
    exact .zone _ _ _

theorem State.timingChanged_profile (s : State) (old : LaneProfile) : (s.timingChanged old).profile = s.profile := by
  unfold State.timingChanged
  dsimp only
  repeat' split
  · exact s.noteOverdue_jobsOnly.profile
  · rfl
  · exact (State.noteOverdue_jobsOnly _).profile
  · rfl

theorem judgeSetTiming_move (q : Request) (s : State) : s.profile.Move (judgeSetTiming q s).profile := by
  unfold judgeSetTiming
  dsimp only
  rw [State.respond_profile, State.timingChanged_profile]
  exact .timing _

theorem judgeHold_move (q : Request) (s : State) : s.profile.Move (judgeHold q s).profile := by
  unfold judgeHold
  rw [State.respond_profile]
  exact .defaults

theorem judgeSetService_profile (q : Request) (s : State) : (judgeSetService q s).profile = s.profile := by
  unfold judgeSetService judgeServiceOff judgeServiceOn State.enterMaintenance
  dsimp only
  repeat' split
  all_goals simp [State.scrubTest_profile]

theorem judgeRootPart1_profile (q : Request) (s : State) : (judgeRootPart1 q s).profile = s.profile := by
  unfold judgeRootPart1
  repeat' split
  all_goals simp

theorem startCombine_profile (b : Block) (q : Request) (s : State) : (startCombine b q s).profile = s.profile :=
  State.arrive_profile _ _

theorem judgeRootPart2_move (q : Request) (s : State) : s.profile.Move (judgeRootPart2 q s).profile := by
  unfold judgeRootPart2
  split
  · exact outsideInit_move (fun q t => .of_eq (startCombine_profile _ q t)) q s
  all_goals exact .of_eq (by simp)

theorem judgeLockRoot_profile (q : Request) (s : State) : (judgeLockRoot q s).profile = s.profile := by
  unfold judgeLockRoot
  split <;> simp

theorem judgeKeyLoadA_profile (q : Request) (s : State) : (judgeKeyLoadA q s).profile = s.profile := by
  unfold judgeKeyLoadA
  dsimp only
  repeat' split
  all_goals simp

theorem startUnwrap_profile (f : LoadFields) (q : Request) (s : State) : (startUnwrap f q s).profile = s.profile := by
  unfold startUnwrap
  split
  · exact State.arrive_profile _ _
  · simp

theorem judgeKeyLoadB_move (q : Request) (s : State) : s.profile.Move (judgeKeyLoadB q s).profile := by
  unfold judgeKeyLoadB
  repeat' split
  · exact outsideInit_move (fun q t => .of_eq (startUnwrap_profile _ q t)) q s
  all_goals exact .of_eq (by simp)

theorem judgeActivate_profile (q : Request) (s : State) : (judgeActivate q s).profile = s.profile := by
  unfold judgeActivate
  repeat' split
  all_goals simp

theorem judgeRetire_profile (q : Request) (s : State) : (judgeRetire q s).profile = s.profile := by
  unfold judgeRetire
  dsimp only
  repeat' split
  all_goals simp

theorem judgeErase_profile (q : Request) (s : State) : (judgeErase q s).profile = s.profile := by
  unfold judgeErase
  dsimp only
  repeat' split
  all_goals simp [State.beginErase_profile]

theorem judgeSelectWriteGen_profile (q : Request) (s : State) : (judgeSelectWriteGen q s).profile = s.profile := by
  unfold judgeSelectWriteGen
  dsimp only
  repeat' split
  all_goals simp

theorem judgeReadSlot_profile (q : Request) (s : State) : (judgeReadSlot q s).profile = s.profile := by
  unfold judgeReadSlot
  split <;> simp

theorem judgeClearEvents_profile (q : Request) (s : State) : (judgeClearEvents q s).profile = s.profile := by
  unfold judgeClearEvents
  split <;> simp

theorem judgeSetAlertMask_profile (q : Request) (s : State) : (judgeSetAlertMask q s).profile = s.profile := by
  unfold judgeSetAlertMask
  split <;> simp

theorem judgeSetCalendar_profile (q : Request) (s : State) : (judgeSetCalendar q s).profile = s.profile :=
  (State.respond_profile _ _ _ _).trans (State.walk_profile _ _)

/-! ### Wipes, resets and lines -/

theorem State.wipe_profile (s : State) : s.wipe.profile = s.profile := by
  rw [State.wipe_eq, State.raise_profile]
  rfl

theorem State.wipes_profile (k : Nat) (s : State) : (s.wipes k).profile = s.profile := by
  induction k generalizing s with
  | zero => rfl
  | succ k ih => exact (ih _).trans s.wipe_profile

theorem State.enterInit_profile (s : State) : s.enterInit.profile = s.profile :=
  (State.wipes_profile _ _).trans (State.continueInitCheck_profile _)

theorem State.exitHold_profile (s : State) : s.exitHold.profile = LaneProfile.defaults := by
  unfold State.exitHold
  dsimp only
  split
  · rfl
  · exact State.enterInit_profile _

theorem State.leaveHold_move (s : State) : s.profile.Move s.leaveHold.profile := by
  unfold State.leaveHold
  split
  · rw [State.exitHold_profile]
    exact .defaults
  · exact .same

theorem State.powerOn_profile (s : State) : s.powerOn.profile = LaneProfile.defaults := by
  unfold State.powerOn
  dsimp only
  repeat' split
  · rfl
  · rfl
  · exact State.enterInit_profile _

theorem State.assertZeroise_profile (s : State) : s.assertZeroise.profile = s.profile := by
  unfold State.assertZeroise
  split
  · rfl
  · exact s.wipe_profile

theorem State.assertSupplyFail_move (s : State) : s.profile.Move s.assertSupplyFail.profile := by
  unfold State.assertSupplyFail
  dsimp only
  repeat' split
  · exact .same
  · exact .same
  · exact .defaults

theorem State.deassertSupplyFail_move (s : State) : s.profile.Move s.deassertSupplyFail.profile := by
  unfold State.deassertSupplyFail
  split
  · exact State.leaveHold_move (s.setLines _)
  · exact .same

theorem State.assertWake_move (s : State) : s.profile.Move s.assertWake.profile := by
  unfold State.assertWake
  split
  · exact .same
  · exact State.leaveHold_move (s.setLines _)

theorem State.assertReset_move (s : State) : s.profile.Move s.assertReset.profile := by
  unfold State.assertReset
  dsimp only
  repeat' split
  · exact .same
  · exact .same
  · exact .defaults

theorem State.deassertReset_profile (s : State) : s.deassertReset.profile = s.profile := by
  unfold State.deassertReset
  dsimp only
  repeat' split
  · rfl
  · exact State.enterInit_profile _
  · rfl

/-! ### Every command, and every step -/

theorem State.expireLifetime_profile (s : State) (c : ContextNo) : (s.expireLifetime c).profile = s.profile := by
  unfold State.expireLifetime
  repeat' split
  · exact s.endPass_profile c _
  · rfl
  · rfl

theorem State.advanceCalendar_profile (s : State) : s.advanceCalendar.profile = s.profile := by
  unfold State.advanceCalendar
  dsimp only
  split
  · rfl
  · exact State.walk_profile _ _

theorem execConfirmationDeadline_profile (h : Byte) (s : State) :
    ∃ t, execConfirmationDeadline h s = .next t ∧ t.profile = s.profile := by
  refine ⟨_, rfl, ?_⟩
  repeat' split
  · exact State.reportFailed_profile _ _
  · rfl
  · rfl

theorem execEraseCompletion_profile (s : State) : ∃ t, execEraseCompletion s = .next t ∧ t.profile = s.profile := by
  refine ⟨_, rfl, ?_⟩
  split
  · simp
  · rfl

/-- A meaning that acts where its condition holds leaves the profile where its action does (log 1). -/
theorem State.ite_profile {s t : State} {p : Prop} [Decidable p] (h : t.profile = s.profile) :
    (if p then t else s).profile = s.profile := by
  split
  · exact h
  · rfl

/-- Every command answers a state whose profile is one of the changes of `LaneProfile.Move`. -/
theorem exec_profile (i : Instr) (s : State) : ∃ t, exec i s = .next t ∧ s.profile.Move t.profile := by
  have same : ∀ {o : Host.Outcome State Fault Refusal}, (∃ t, o = .next t ∧ t.profile = s.profile) →
      ∃ t, o = .next t ∧ s.profile.Move t.profile := fun ⟨t, ht, h⟩ => ⟨t, ht, .of_eq h⟩
  cases i with
  | hello f => exact same ⟨_, rfl, s.uplink_profile _ f (s.offerTagFrame_profile _ _ (s.judgeHello_profile _))⟩
  | data f => exact same ⟨_, rfl, s.uplink_profile _ f (s.offerTagFrame_profile _ _ (s.judgeData_profile _))⟩
  | commit f => exact same ⟨_, rfl, s.uplink_profile _ f (s.offerTagFrame_profile _ _ (s.judgeCommit_profile _))⟩
  | other kind f => exact same (execOther_profile kind f s)
  | credit f => exact same ⟨_, rfl, s.uplink_profile _ f rfl⟩
  | sent f => exact same ⟨_, rfl, s.uplink_profile _ f (s.takeSent_profile _)⟩
  | sendFailed f => exact same ⟨_, rfl, s.uplink_profile _ f (s.takeSendFailed_profile _)⟩
  | downlinkSendStart => exact same ⟨_, rfl, State.ite_profile rfl⟩
  | downlinkFrameOut => exact ⟨_, rfl, .same⟩
  | confirmationDeadline h => exact same (execConfirmationDeadline_profile h s)
  | downPassthrough f => exact same ⟨_, rfl, s.laneFrame_profile _ f⟩
  | openCompletion e => exact same ⟨_, rfl, s.completeOpening_profile e⟩
  | deriveJobCompletion e => exact same ⟨_, rfl, s.completeJob_profile e _ s.deriveEnd_profile⟩
  | sessionJobCompletion e => exact same ⟨_, rfl, s.completeJob_profile e _ s.sessionEnd_profile⟩
  | raJobCompletion e => exact same ⟨_, rfl, s.completeJob_profile e _ s.raEnd_profile⟩
  | taJobCompletion e => exact same ⟨_, rfl, s.completeJob_profile e _ s.taEnd_profile⟩
  | recordCodeComputeCompletion e => exact same ⟨_, rfl, s.completeJob_profile e _ s.computeEnd_profile⟩
  | recordCodeVerifyCompletion e => exact same ⟨_, rfl, s.completeJob_profile e _ s.verifyEnd_profile⟩
  | waJobCompletion e => exact same ⟨_, rfl, s.completeJob_profile e _ s.waEnd_profile⟩
  | caJobCompletion e => exact same ⟨_, rfl, s.completeJob_profile e _ s.caEnd_profile⟩
  | unwrapJobCompletion e => exact same ⟨_, rfl, s.completeJob_profile e _ s.unwrapEnd_profile⟩
  | kcvJobCompletion e => exact same ⟨_, rfl, s.completeJob_profile e _ s.kcvEnd_profile⟩
  | combineJobCompletion e => exact same ⟨_, rfl, s.completeJob_profile e _ s.combineEnd_profile⟩
  | scrubJobCompletion e => exact same ⟨_, rfl, s.completeJob_profile e _ s.scrubEnd_profile⟩
  | stepDeadlineExpiry c => exact same ⟨_, rfl, State.passFrame_profile (s.expireStep_passFrame c)⟩
  | lifetimeDeadlineExpiry c => exact same ⟨_, rfl, s.expireLifetime_profile c⟩
  | recentPassAgeing => exact ⟨_, rfl, .same⟩
  | slotOverdue n => exact same ⟨_, rfl, State.ite_profile s.noteOverdue_jobsOnly.profile⟩
  | eraseCompletion => exact same (execEraseCompletion_profile s)
  | calendarAdvance => exact same ⟨_, rfl, State.ite_profile s.advanceCalendar_profile⟩
  | request f => exact same ⟨_, rfl, s.laneFrame_profile _ f⟩
  | unknownRequestCode => exact ⟨_, rfl, s.take_move _ (underOrder_move fun _ _ => .of_eq (by simp))⟩
  | readStatus => exact ⟨_, rfl, s.take_move _ (underOrder_move fun _ t => .of_eq (t.respond_profile _ _ _))⟩
  | readCounters => exact ⟨_, rfl, s.takeRequest_same _ fun _ t => t.respond_profile _ _ _⟩
  | clearEvents => exact ⟨_, rfl, s.takeRequest_same _ judgeClearEvents_profile⟩
  | setAlertMask => exact ⟨_, rfl, s.takeRequest_same _ judgeSetAlertMask_profile⟩
  | setProfile => exact ⟨_, rfl, s.takeRequest_move _ judgeSetProfile_move⟩
  | setTiming => exact ⟨_, rfl, s.takeRequest_move _ judgeSetTiming_move⟩
  | setService => exact ⟨_, rfl, s.takeRequest_same _ judgeSetService_profile⟩
  | setCalendar => exact ⟨_, rfl, s.takeRequest_same _ judgeSetCalendar_profile⟩
  | hold => exact ⟨_, rfl, s.takeRequest_move _ judgeHold_move⟩
  | rootPart1 => exact ⟨_, rfl, s.takeRequest_same _ judgeRootPart1_profile⟩
  | rootPart2 => exact ⟨_, rfl, s.take_move _ judgeRootPart2_move⟩
  | lockRoot => exact ⟨_, rfl, s.takeRequest_same _ judgeLockRoot_profile⟩
  | keyLoadA => exact ⟨_, rfl, s.takeRequest_same _ judgeKeyLoadA_profile⟩
  | keyLoadB => exact ⟨_, rfl, s.take_move _ judgeKeyLoadB_move⟩
  | activate => exact ⟨_, rfl, s.takeRequest_same _ judgeActivate_profile⟩
  | retire => exact ⟨_, rfl, s.takeRequest_same _ judgeRetire_profile⟩
  | erase => exact ⟨_, rfl, s.takeRequest_same _ judgeErase_profile⟩
  | selectWriteGen => exact ⟨_, rfl, s.takeRequest_same _ judgeSelectWriteGen_profile⟩
  | readSlot => exact ⟨_, rfl, s.takeRequest_same _ judgeReadSlot_profile⟩
  | zeroise =>
    exact ⟨_, rfl, s.take_move _ (outsideInit_move fun _ t => .of_eq ((State.respond_profile _ _ _ _).trans t.wipe_profile))⟩
  | zeroiseLine => exact same ⟨_, rfl, s.assertZeroise_profile⟩
  | laneSendStart => exact same ⟨_, rfl, State.ite_profile s.startLaneSend_profile⟩
  | laneFrameOut => exact ⟨_, rfl, .same⟩
  | lrdyAsserted => exact ⟨_, rfl, .same⟩
  | supplyFail => exact ⟨_, rfl, s.assertSupplyFail_move⟩
  | wake => exact ⟨_, rfl, s.assertWake_move⟩
  | supplyFailDeasserted => exact ⟨_, rfl, s.deassertSupplyFail_move⟩
  | laneReset => exact ⟨_, rfl, s.assertReset_move⟩
  | resetDeasserted => exact same ⟨_, rfl, s.deassertReset_profile⟩
  | powerOnReset => exact ⟨_, rfl, s.powerOn_profile ▸ .defaults⟩
  | lrdyDeasserted => exact ⟨_, rfl, .same⟩
  | wakeDeasserted => exact ⟨_, rfl, .same⟩
  | laneFrameOfOutgoingClass cls f => exact same ⟨_, rfl, s.laneFrame_profile cls f⟩

theorem exec_move {i : Instr} {s t : State} (h : exec i s = .next t) : s.profile.Move t.profile := by
  obtain ⟨u, hu, hm⟩ := exec_profile i s
  rw [h] at hu
  exact Host.Outcome.next.inj hu ▸ hm

theorem step_move {s t : State} (h : step s = .next t) : s.profile.Move t.profile := by
  unfold step at h
  split at h
  · rename_i rest _
    exact exec_move (s := { s with pending := rest }) h
  · split at h
    · exact exec_move h
    · exact Host.Outcome.next.inj h ▸ .same

/-- Settles O4: a step leaves the profile or makes one of four changes (`step_move`), and each keeps the ranges. -/
theorem stepKeepsProfileRanges : Obligations.StepKeepsProfileRanges :=
  fun _ _ hs h => (step_move h).inRange hs

/-! ### Power-on reset (R183) -/

theorem Slot.lawful_empty (n : SlotNo) : Slot.empty.lawful n :=
  ⟨fun _ => rfl, rfl, fun h => absurd rfl h, fun _ => rfl, nofun⟩

theorem KeyStore.lawful_powerOn : KeyStore.powerOn.lawful := by
  have hslot : ∀ n, tableGet KeyStore.powerOn.slots n = Slot.empty := fun n => tableGet_replicate _ n
  refine ⟨fun n => ?_, fun n m _ => ?_, fun _ => rfl, nofun⟩
  · rw [hslot n]
    exact Slot.lawful_empty n
  · rw [hslot n]
    exact fun h => absurd rfl h

/-- Settles O3, block by block: each law holds of the values of Machine/Defaults.lean. -/
theorem resetIsLawful : Obligations.ResetIsLawful := by
  refine ⟨LaneProfile.defaults_inRange, fun n => ?_, LanePort.bounded_cleared none, AirPort.bounded_cleared,
    ⟨by decide, by decide, by decide⟩, ⟨KeyStore.lawful_powerOn, nofun, nofun⟩,
    ⟨fun _ => rfl, List.nodup_nil, nofun, nofun, fun h => absurd h (by decide)⟩,
    State.passesLawful_discarded rfl rfl⟩
  rw [show tableGet State.reset.events.counters n = 0 from tableGet_replicate _ n]
  simp [State.reset, Events.cleared, Events.flag]

end Sys2Proof.Machine
end

section
/-! PROOF. A HELLO at the pass context table: it joins its context, is turned away, or opens a context into KEYING (R25,
R26, R36, R37, R39, R40, R42, R145). -/

namespace Sys2Proof.Machine

/-! ### A HELLO is judged (R1, R3, R39, R40) -/

theorem exec_hello_offered {f : PortFrame} {s : State} (hl : s.live = true) (hd : s.device ≠ .init)
    (hg : airFrameGood 0x01#8 f = true) (hi : (helloOf f.payload).issuer ≠ 0xFFFF#16) :
    exec (.hello f) s = .next (s.judgeHello f.payload) := by
  show Host.Outcome.next (s.uplink _ f _) = _
  rw [State.uplink_judged hl hd hg hi]

/-- The HELLO of a tag that a context holds joins it (R39 test 1, R40). -/
theorem State.judgeHello_held {s : State} {p : List Byte} {c : ContextNo} {x : Context}
    (hc : s.contextOf (helloOf p).issuer (helloOf p).tagNumber = some c) (hx : s.context c = some x) :
    s.judgeHello p = s.joinContext c x (helloOf p) := by
  simp [State.judgeHello, hc, hx]

/-- The HELLO of another tag in MAINTENANCE, or from a CLOSED zone, is forwarded (R25, R40). -/
theorem State.judgeHello_forwarded {s : State} {p : List Byte}
    (hc : s.contextOf (helloOf p).issuer (helloOf p).tagNumber = none)
    (h : s.device = .maintenance ∨ (s.zone (helloOf p).zone).function = .closed) :
    s.judgeHello p = s.forward 0x01#8 p := by
  have hn : ¬(s.device = .service ∧ (s.zone (helloOf p).zone).function ≠ .closed) := by
    rintro ⟨hs, hz⟩
    rcases h with h | h
    · exact absurd (hs.symm.trans h) (by decide)
    · exact hz h
  unfold State.judgeHello
  dsimp only
  rw [hc]
  exact if_neg hn

/-- The HELLO of another tag in SERVICE is judged for the lowest FREE context, or dropped with OVERRUN (R39). -/
theorem State.judgeHello_service {s : State} {p : List Byte}
    (hc : s.contextOf (helloOf p).issuer (helloOf p).tagNumber = none) (hd : s.device = .service)
    (hz : (s.zone (helloOf p).zone).function ≠ .closed) :
    s.judgeHello p = match s.freeContext with
      | some c => s.judgeRecent c (helloOf p)
      | none => s.raise .overrun := by
  unfold State.judgeHello
  dsimp only
  rw [hc]
  exact if_pos ⟨hd, hz⟩

theorem State.freeContext_eq_none {s : State} : s.freeContext = none ↔ ∀ c, s.context c ≠ none := by
  simp [State.freeContext, allContexts, Option.isNone_iff_eq_none]

/-- A HELLO judged a repeat leaves the aged table alone (R39 test 3, R152). -/
theorem State.judgeRecent_repeated {s : State} {h : Hello} (c : ContextNo)
    (hv : verdictOf (s.ageRecent.recent.find? (RecentEntry.isFor h.issuer h.tagNumber)) h.counter = .repeated) :
    s.judgeRecent c h = s.ageRecent := by
  simp [State.judgeRecent, hv]

/-! ### The zone list (R37) -/

/-- A zone not heard yet joins the tail of the list. -/
theorem hearZone_new {l : List ZoneHeard} {z : ZoneNo} (h : ∀ y ∈ l, y.zone ≠ z) (rssi : Byte) :
    hearZone l z rssi = l ++ [{ zone := z, rssi }] := by
  have hn : l.any (fun y => y.zone == z) = false := by simpa using h
  simp [hearZone, hn]

/-- A zone heard before keeps its better RSSI. -/
theorem hearZone_again {l : List ZoneHeard} {z : ZoneNo} (h : ∃ y ∈ l, y.zone = z) (rssi : Byte) :
    hearZone l z rssi =
      l.map fun y => if y.zone = z then { y with rssi := if y.rssi < rssi then rssi else y.rssi } else y := by
  have ha : l.any (fun y => y.zone == z) = true := by simpa using h
  rw [hearZone, if_pos ha]
  refine List.map_congr_left fun y _ => ?_
  by_cases hz : y.zone = z
  · subst hz
    by_cases hr : y.rssi < rssi <;> simp [hr]
  · simp [hz]

/-- Settles O18, branch by branch of `State.judgeHello`. -/
theorem helloJoinsOrIsTurnedAway : Obligations.HelloJoinsOrIsTurnedAway := by
  rintro f s h rfl hl hd hg hi
  rw [exec_hello_offered hl hd hg hi]
  refine ⟨fun c x hc hx => ?_, fun hc => ⟨fun h => ?_, fun hs hz hf => ?_, fun hs hz hf hv => ?_⟩⟩
  · rw [State.judgeHello_held hc hx]
    refine ⟨fun hdone => congrArg _ (if_pos hdone), fun hdone => ⟨hearZone x.zoneList (helloOf f.payload).zone
      (helloOf f.payload).rssi, congrArg _ (if_neg hdone), fun hz => hearZone_new hz _, fun hz => hearZone_again hz _⟩⟩
  · rw [State.judgeHello_forwarded hc h]
  · rw [State.judgeHello_service hc hs hz, State.freeContext_eq_none.mpr hf]
  · rw [State.judgeHello_service hc hs hz]
    cases hfree : s.freeContext with
    | none =>
      obtain ⟨c, hfc⟩ := hf
      exact absurd hfc (State.freeContext_eq_none.mp hfree c)
    | some c => exact congrArg _ (State.judgeRecent_repeated c hv)

/-! ### An open into KEYING (R26, R36, R42) -/

/-- The requested record set: record 0, and those the zone asks for, record 1 at an EXIT, of the records available (R26). -/
theorem requestedSet_getLsbD (p : ZoneProfile) (available : Nat) {r : Nat} (hr : r < 4) :
    (requestedSet p available).getLsbD r = true ↔
      r = 0 ∨ (r < available ∧ (p.recordSet.getLsbD r = true ∨ (p.function = .exit ∧ r = 1))) := by
  have hone : (1#4).getLsbD r = decide (r = 0) := by interval_cases r <;> rfl
  have htwo : (2#4).getLsbD r = decide (r = 1) := by interval_cases r <;> rfl
  have hall : (BitVec.ofNat 4 (2 ^ available - 1)).getLsbD r = decide (r < available) := by
    rw [BitVec.getLsbD_ofNat, Nat.testBit_two_pow_sub_one, decide_eq_true hr, Bool.true_and]
  by_cases he : p.function = .exit
  · simp only [requestedSet, he, if_true, BitVec.getLsbD_or, BitVec.getLsbD_and, hone, htwo, hall,
      Bool.or_eq_true, Bool.and_eq_true, decide_eq_true_eq, true_and]
    tauto
  · simp only [requestedSet, he, if_false, BitVec.getLsbD_or, BitVec.getLsbD_and, hone, hall,
      Bool.or_eq_true, Bool.and_eq_true, decide_eq_true_eq, false_and, or_false]
    tauto

/-- The context that a HELLO opens into KEYING under slot n, with the tag key a cache hit gives it (R36, R42). -/
def State.keyingContext (s : State) (h : Hello) (n : SlotNo) (flags : PassFlags) (tagKey : Option Key) : Context :=
  { s.opened h .keying flags with
    boundSlot := some n, requestedSet := requestedSet (s.zone h.zone) h.available
    readerNonce := some (Config.freeNonce s.randomDraws), tagKey }

/-- The part with that context opened and its nonce drawn, the cache as the question left it (R42, R145). -/
def State.keyingOpened (s : State) (c : ContextNo) (x : Context) (cache : List CacheEntry) : State :=
  ({ s with randomDraws := s.randomDraws + 1, cache } : State).openContext c x

/-- On a hit the SESSION job is issued (R42, R145). -/
theorem State.openKeying_hit {s : State} {h : Hello} {k : CacheEntry} (c : ContextNo) (n : SlotNo) (flags : PassFlags)
    (hk : s.cache.find? (CacheEntry.isFor h.issuer h.generation h.tagNumber) = some k) :
    s.openKeying c h n flags =
      (s.keyingOpened c (s.keyingContext h n flags (some k.tagKey))
        (k :: s.cache.filter fun y => !CacheEntry.isFor h.issuer h.generation h.tagNumber y)).issueFor c .session (.tk c)
        [nonceBlock h.tagNonce (Config.freeNonce s.randomDraws)] := by
  obtain ⟨⟨hi, hg⟩, ht⟩ : (k.issuer = h.issuer ∧ k.generation = h.generation) ∧ k.tagNumber = h.tagNumber := by
    simpa [CacheEntry.isFor] using List.find?_some hk
  have hcache : ({ s with randomDraws := s.randomDraws + 1 } : State).cacheHit k =
      { s with
        randomDraws := s.randomDraws + 1
        cache := k :: s.cache.filter fun y => !CacheEntry.isFor h.issuer h.generation h.tagNumber y } := by
    rw [State.cacheHit, hi, hg, ht]
  have hx : ∀ x, (s.keyingOpened c x
      (k :: s.cache.filter fun y => !CacheEntry.isFor h.issuer h.generation h.tagNumber y)).context c = some x :=
    fun x => State.context_setContext_self _ _ _
  unfold State.openKeying
  dsimp only
  rw [hk]
  dsimp only
  rw [hcache]
  show (s.keyingOpened c (s.keyingContext h n flags (some k.tagKey)) _).issueSession c = _
  rw [State.issueSession, hx]
  rfl

/-- On a miss the DERIVE job is issued (R42, R145). -/
theorem State.openKeying_miss {s : State} {h : Hello} (c : ContextNo) (n : SlotNo) (flags : PassFlags)
    (hk : s.cache.find? (CacheEntry.isFor h.issuer h.generation h.tagNumber) = none) :
    s.openKeying c h n flags =
      (s.keyingOpened c (s.keyingContext h n flags none) s.cache).issueFor c .derive (.slot n)
        [derivationBlock h.tagNumber h.issuer h.generation] := by
  unfold State.openKeying
  dsimp only
  rw [hk]
  rfl

/-- What the open and the issue of its first job leave, whichever job it is (R36, R38). -/
theorem State.keyingOpened_issues (s : State) (c : ContextNo) (x : Context) (cache : List CacheEntry) (kind : JobKind)
    (key : KeyId) (input : List Block) {t : State} (ht : t = (s.keyingOpened c x cache).issueFor c kind key input) :
    (∃ j, t.context c = some { x with currentJob := j }) ∧ t.hasJob kind (.context c) key input [] ∧
      t.randomDraws = s.randomDraws + 1 ∧ t.cache = cache ∧
      (∀ z, t.openList z = if z = x.homeZone then s.openList z ++ [c] else s.openList z) ∧
      (∀ d, d ≠ c → t.context d = s.context d) ∧
      { s with
        randomDraws := t.randomDraws
        cache := t.cache
        passes := { s.passes with openLists := t.passes.openLists } }.jobsApart t (some c) := by
  have hj := (s.keyingOpened c x cache).issueFor_jobsOnly c kind key input
  have hne : ∀ d, d ≠ c → (s.keyingOpened c x cache).context d = s.context d :=
    fun d hd => tableGet_tableSet_ne _ _ hd
  have hlist : ∀ z, (s.keyingOpened c x cache).openList z =
      if z = x.homeZone then s.openList z ++ [c] else s.openList z := by
    intro z
    refine (State.openList_setOpenList _ _ _ _).trans ?_
    split
    · subst_vars; rfl
    · rfl
  rw [← ht] at hj
  refine ⟨hj.context_some (State.context_setContext_self _ _ _), ht ▸ State.hasJob_issueFor _ c kind key input,
    hj.randomDraws, hj.cache, fun z => ?_, fun d hd => ?_, hj.jobsApart_after ?_ hne⟩
  · unfold State.openList
    rw [hj.openLists]
    exact hlist z
  · rw [ht, State.issueFor_context_ne _ hd, hne d hd]
  · rw [hj.randomDraws, hj.cache, hj.openLists]
    rfl

/-- A FRESH verdict with a usable master slot opens into KEYING (R39, R42). -/
theorem State.judgeRecent_fresh {s : State} {h : Hello} {n : SlotNo} {u : Bool} (c : ContextNo)
    (hv : verdictOf (s.ageRecent.recent.find? (RecentEntry.isFor h.issuer h.tagNumber)) h.counter = .fresh u)
    (hn : s.findSlot .tagMaster h.issuer h.generation = some n) (hu : s.usable n = true) :
    s.judgeRecent c h = s.ageRecent.openKeying c h n
      { oldGeneration := decide ((s.slot n).state = .retiring), followsUncertain := u } := by
  have hf : (s.ageRecent.findSlot .tagMaster h.issuer h.generation).filter s.ageRecent.usable = some n := by
    rw [show s.ageRecent.findSlot .tagMaster h.issuer h.generation = some n from hn, Option.filter_some,
      show s.ageRecent.usable n = true from hu]
    rfl
  unfold State.judgeRecent
  dsimp only
  rw [hv]
  dsimp only
  rw [State.openFresh, hf]
  rfl

/-- Settles O17: hit and miss differ in the tag key, the cache and the first job. -/
theorem helloOpensKeying : Obligations.HelloOpensKeying := by
  rintro f s h c n u rfl hl hd hg hi ht hz hc hv hn hu
  rw [exec_hello_judged hl hd hg hi ht hz hc, State.judgeRecent_fresh c hv hn hu]
  have hset := fun r hr => requestedSet_getLsbD (s.zone (helloOf f.payload).zone) (helloOf f.payload).available (r := r) hr
  cases hk : s.cache.find? (CacheEntry.isFor (helloOf f.payload).issuer (helloOf f.payload).generation
      (helloOf f.payload).tagNumber) with
  | some k =>
    obtain ⟨⟨j, hx⟩, hjob, hdraw, hcache, hlist, hother, hapart⟩ := State.keyingOpened_issues _ _ _ _ _ _ _
      (State.openKeying_hit (s := s.ageRecent) c n _ hk)
    exact ⟨_, _, rfl, hx, rfl, rfl, rfl, rfl, rfl, rfl, rfl, rfl, rfl, rfl, rfl, rfl, rfl, hset, rfl, hdraw, rfl,
      fun k' hk' => by cases hk'; exact ⟨rfl, hcache, hjob⟩, nofun, (hlist _).trans (if_pos rfl),
      fun z hne => (hlist z).trans (if_neg hne), hother, hapart⟩
  | none =>
    obtain ⟨⟨j, hx⟩, hjob, hdraw, hcache, hlist, hother, hapart⟩ := State.keyingOpened_issues _ _ _ _ _ _ _
      (State.openKeying_miss (s := s.ageRecent) c n _ hk)
    exact ⟨_, _, rfl, hx, rfl, rfl, rfl, rfl, rfl, rfl, rfl, rfl, rfl, rfl, rfl, rfl, rfl, hset, rfl, hdraw, rfl,
      nofun, fun _ => ⟨rfl, hcache, hjob⟩, (hlist _).trans (if_pos rfl), fun z hne => (hlist z).trans (if_neg hne),
      hother, hapart⟩

end Sys2Proof.Machine
end

section
/-! PROOF. SET-PROFILE and SET-TIMING: the fields they write, the clamp masks, and what a new repeat window or scrub
period brings about at once (R21 to R23, R98, R152). -/

namespace Sys2Proof.Machine

/-! ### Bytes, clamps and codes -/

/-- One bit of a byte, at a place inside it. -/
theorem bitByte_getLsbD {n : Nat} (hn : n < 8) (v : Bool) (b : Nat) :
    (bitByte n v).getLsbD b = true ↔ b = n ∧ v = true := by
  cases v
  · simp [bitByte]
  · simp [bitByte, BitVec.getLsbD_one]
    omega

theorem toBytes_one (v : Nat) : toBytes 1 v = [BitVec.ofNat 8 v] := by
  simp [toBytes]

/-- The clamp status in the words of the claims (R22, R23). -/
theorem clampStatus_carriesData (clamps : Byte) : (clampStatus clamps).carriesData = true := by
  unfold clampStatus
  split <;> rfl

theorem clampStatus_eq_clamped (clamps : Byte) : clampStatus clamps = .clamped ↔ clamps ≠ 0 := by
  unfold clampStatus
  split <;> simp_all

theorem clampStatus_eq_ok (clamps : Byte) : clampStatus clamps = .ok ↔ clamps = 0 := by
  unfold clampStatus
  split <;> simp_all

theorem masked_eq {α : Type} (named : Bool) (new old : α) : masked named new old = if named then new else old := rfl

/-- The codes above 4 name no function, and every other names the one of that code (section 11.2). -/
theorem functionOf_eq_none {b : Byte} : functionOf b = none ↔ 4 < b.toNat := by
  revert b
  decide

theorem functionOf_byte {b : Byte} {f : ZoneFunction} (h : functionOf b = some f) : f.byte = b := by
  unfold functionOf at h
  repeat' split at h
  all_goals simp_all [ZoneFunction.byte]
  all_goals subst h; rfl

/-! ### SET-PROFILE (R21, R22) -/

/-- The clamp mask names the fields written out of range (R22). -/
theorem SetProfile.clamps_getLsbD (r : SetProfile) (b : Nat) : r.clamps.getLsbD b = true ↔
    (b = 2 ∧ r.mask.getLsbD 2 = true ∧ 15 < r.lane.toNat) ∨
    (b = 3 ∧ r.mask.getLsbD 3 = true ∧ r.recordSet.getLsbD 0 = false) ∨
    (b = 4 ∧ r.mask.getLsbD 4 = true ∧ r.replyTimeout.toNat < 5) ∨
    (b = 5 ∧ r.mask.getLsbD 5 = true ∧ 7 < r.retries.toNat) := by
  simp only [SetProfile.clamps, BitVec.getLsbD_or, Bool.or_eq_true, bitByte_getLsbD (show 2 < 8 by decide),
    bitByte_getLsbD (show 3 < 8 by decide), bitByte_getLsbD (show 4 < 8 by decide), bitByte_getLsbD (show 5 < 8 by decide),
    Bool.and_eq_true, decide_eq_true_eq, Bool.not_eq_true', or_assoc]

/-- The function a SET-PROFILE writes, where its code is good: the one named, or the one that stands (R21). -/
theorem SetProfile.newFunction_good {r : SetProfile} (old : ZoneFunction)
    (h : r.mask.getLsbD 0 = true → r.function.toNat ≤ 4) :
    ∃ f, r.newFunction old = some f ∧ if r.mask.getLsbD 0 then f.byte = r.function else f = old := by
  unfold SetProfile.newFunction
  by_cases hm : r.mask.getLsbD 0 = true
  · cases hf : functionOf r.function with
    | none => exact absurd (functionOf_eq_none.mp hf) (Nat.not_lt.mpr (h hm))
    | some f => exact ⟨f, by rw [if_pos hm], by rw [if_pos hm]; exact functionOf_byte hf⟩
  · exact ⟨old, by rw [if_neg hm], by rw [if_neg hm]⟩

/-- A good SET-PROFILE writes its zone and answers with it (R22). -/
theorem judgeSetProfile_good {q : Request} {s : State} {z : ZoneNo} {f : ZoneFunction}
    (hz : (setProfileOf q.params).zone.toNat = z.val)
    (hf : (setProfileOf q.params).newFunction (s.zone z).function = some f) :
    judgeSetProfile q s =
      ({ s with profile := { s.profile with
          zones := tableSet s.profile.zones z ((s.zone z).update (setProfileOf q.params) f) } } : State).respond q
        (clampStatus (setProfileOf q.params).clamps)
        ([(setProfileOf q.params).zone] ++ ((s.zone z).update (setProfileOf q.params) f).bytes ++
          [(setProfileOf q.params).clamps]) := by
  have hzone : zoneOf (setProfileOf q.params).zone = z := Fin.ext (by
    show (setProfileOf q.params).zone.toNat % 8 = z.val
    rw [hz, Nat.mod_eq_of_lt z.isLt])
  unfold judgeSetProfile
  dsimp only
  rw [if_neg (Nat.not_lt.mpr (hz ▸ Nat.le_of_lt_succ z.isLt)), hzone, hf]

/-- A SET-PROFILE of no zone, or of no function, is refused whole (R21). -/
theorem judgeSetProfile_bad {q : Request} {s : State}
    (h : 7 < (setProfileOf q.params).zone.toNat ∨
      ((setProfileOf q.params).mask.getLsbD 0 = true ∧ 4 < (setProfileOf q.params).function.toNat)) :
    judgeSetProfile q s = s.respond q .badField := by
  unfold judgeSetProfile
  dsimp only
  split
  · rfl
  · rename_i hz
    obtain ⟨hm, hf⟩ := h.resolve_left hz
    rw [SetProfile.newFunction, if_pos hm, functionOf_eq_none.mpr hf]

/-- The fields of a profile as the claims spell them (section 11.4). -/
theorem ZoneProfile.bytes_eq (p : ZoneProfile) : p.bytes = [p.function.byte] ++ toBytes 2 p.station.toNat ++
    [BitVec.ofNat 8 p.lane.toNat, BitVec.ofNat 8 p.recordSet.toNat, BitVec.ofNat 8 p.replyTimeout,
      BitVec.ofNat 8 p.retries] := by
  simp [ZoneProfile.bytes, toBytes_one]

/-- Settles O42: the refusals by `judgeSetProfile_bad`, the write by `judgeSetProfile_good`. -/
theorem setProfileWritesNamedFields : Obligations.SetProfileWritesNamedFields := by
  rintro s q rest r ht hi hc rfl
  obtain ⟨-, -, -, -, hroom⟩ := id ht
  refine ⟨fun hd => ?_, fun hd hbad => ?_, fun z hd hz hfun => ?_⟩
  · exact congrArg Host.Outcome.next ((State.takeRequest_in_init ht hc hi hd _).trans
      (State.respond_of_room (s := s.left rest) hroom _ _ _))
  · exact congrArg Host.Outcome.next ((State.takeRequest_of_takes ht hc hi hd _).trans
      ((judgeSetProfile_bad hbad).trans (State.respond_of_room (s := s.left rest) hroom _ _ _)))
  · obtain ⟨f, hf, hfb⟩ := SetProfile.newFunction_good (s.zone z).function hfun
    refine ⟨(s.zone z).update (setProfileOf q.params) f, clampStatus (setProfileOf q.params).clamps,
      (setProfileOf q.params).clamps, congrArg Host.Outcome.next ?_, ?_, rfl, ?_, rfl, ?_, ?_, SetProfile.clamps_getLsbD _,
      clampStatus_eq_clamped _, clampStatus_eq_ok _⟩
    · refine (State.takeRequest_of_takes ht hc hi hd _).trans ((judgeSetProfile_good (s := s.left rest) hz hf).trans ?_)
      rw [State.respond_of_room (by exact hroom), if_pos (clampStatus_carriesData _), ZoneProfile.bytes_eq]
      simp only [List.append_assoc, List.cons_append, List.nil_append]
      rfl
    · show if _ then (masked _ f _).byte = _ else masked _ f _ = _
      split at hfb
      · rw [if_pos ‹_›, masked_eq, if_pos ‹_›]
        exact hfb
      · rw [if_neg ‹_›, masked_eq, if_neg ‹_›]
    · show (masked _ (BitVec.ofNat 4 (clampTo 0 15 _)) _).toNat = _
      rw [masked_eq]
      split
      · rw [BitVec.toNat_ofNat, clampTo]
        omega
      · rfl
    · show masked _ (clampTo 5 255 _) _ = _
      rw [masked_eq, clampTo, Nat.min_eq_right (by omega)]
    · show masked _ (clampTo 0 7 _) _ = _
      rw [masked_eq, clampTo, Nat.zero_max]

/-! ### SET-TIMING (R23) -/

/-- The clamp mask names the fields written out of range (R23). -/
theorem SetTiming.clamps_getLsbD (r : SetTiming) (b : Nat) : r.clamps.getLsbD b = true ↔
    (b = 0 ∧ r.mask.getLsbD 0 = true ∧ (r.passLimit < 100 ∨ 10000 < r.passLimit)) ∨
    (b = 1 ∧ r.mask.getLsbD 1 = true ∧ r.repeatWindow = 0) ∨
    (b = 2 ∧ r.mask.getLsbD 2 = true ∧ r.scrubPeriod = 0) := by
  simp only [SetTiming.clamps, BitVec.getLsbD_or, Bool.or_eq_true, bitByte_getLsbD (show 0 < 8 by decide),
    bitByte_getLsbD (show 1 < 8 by decide), bitByte_getLsbD (show 2 < 8 by decide), Bool.and_eq_true, decide_eq_true_eq,
    beq_iff_eq, or_assoc]

/-- The part with a new timing record, its recent-pass table aged under a window that changed (R23, R152). -/
def State.retimed (s : State) (r : SetTiming) : State :=
  let u : State := { s with profile := s.profile.update r }
  if u.profile.repeatWindow = s.profile.repeatWindow then u else u.ageRecent

/-- A scrub period shortened has the overdue slots noted (R98). -/
def State.rescrubbed (s u : State) : State :=
  if u.profile.scrubPeriod < s.profile.scrubPeriod then u.noteOverdue else u

theorem State.retimed_profile (s : State) (r : SetTiming) : (s.retimed r).profile = s.profile.update r := by
  unfold State.retimed
  dsimp only
  split <;> rfl

theorem State.retimed_rest (s : State) (r : SetTiming) :
    s.retimed r = { s with profile := (s.retimed r).profile, recent := (s.retimed r).recent } := by
  unfold State.retimed
  dsimp only
  split <;> rfl

theorem State.rescrubbed_jobsOnly (s u : State) : JobsOnly u (s.rescrubbed u) := by
  unfold State.rescrubbed
  split
  · exact u.noteOverdue_jobsOnly
  · exact .refl u

/-- A window left as it was ages nothing (log 26). -/
theorem State.retimed_recent_same {s : State} {r : SetTiming}
    (h : (s.retimed r).profile.repeatWindow = s.profile.repeatWindow) : (s.retimed r).recent = s.recent := by
  rw [State.retimed_profile] at h
  unfold State.retimed
  dsimp only
  rw [if_pos h]

/-- A window that changed takes the aged entries off the head of the table, up to the first young one (R152). -/
theorem State.retimed_recent_aged {s : State} {r : SetTiming}
    (h : (s.retimed r).profile.repeatWindow ≠ s.profile.repeatWindow) :
    ∃ l, s.recent = l ++ (s.retimed r).recent ∧
      (∀ x ∈ l, (s.retimed r).profile.repeatWindow * 10000 ≤ (s.clock.laneTime - x.tick).toNat) ∧
      ∀ x, (s.retimed r).recent.head? = some x →
        (s.clock.laneTime - x.tick).toNat < (s.retimed r).profile.repeatWindow * 10000 := by
  rw [State.retimed_profile] at h ⊢
  have he : (s.retimed r).recent =
      s.recent.dropWhile ({ s with profile := s.profile.update r } : State).agedEntry := by
    unfold State.retimed
    dsimp only
    rw [if_neg h]
    rfl
  have aged : ∀ x, ({ s with profile := s.profile.update r } : State).agedEntry x = true ↔
      (s.profile.update r).repeatWindow * 10000 ≤ (s.clock.laneTime - x.tick).toNat := fun x => decide_eq_true_iff
  rw [he]
  refine ⟨s.recent.takeWhile _, List.takeWhile_append_dropWhile.symm, fun x hx => (aged x).mp (List.mem_takeWhile_imp hx),
    fun x hx => ?_⟩
  have hy := List.head?_dropWhile_not ({ s with profile := s.profile.update r } : State).agedEntry s.recent
  rw [hx] at hy
  exact Nat.lt_of_not_le fun hle => Bool.false_ne_true (hy.symm.trans ((aged x).mpr hle))

/-- With no slot overdue nothing is noted (R98). -/
theorem State.noteOverdue_none {s : State} (h : ∀ n, s.overdue n = false) : s.noteOverdue = s := by
  unfold State.noteOverdue
  rw [if_neg (by simp [h])]

/-- A part that takes a request outside INIT is in MAINTENANCE or SERVICE (R165, R175). -/
theorem State.working_of_live {s : State} (hl : s.live = true) (hd : s.device ≠ .init) : s.working = true := by
  unfold State.working
  unfold State.live at hl ⊢
  cases hdev : s.device <;> simp_all

/-- SET-TIMING is judged: the record, the tests, the answer (R23). -/
theorem judgeSetTiming_eq (q : Request) (s : State) :
    judgeSetTiming q s = (s.rescrubbed (s.retimed (setTimingOf q.params))).respond q
      (clampStatus (setTimingOf q.params).clamps)
      (toBytes 2 (s.profile.update (setTimingOf q.params)).passLimit ++
        [BitVec.ofNat 8 (s.profile.update (setTimingOf q.params)).repeatWindow,
          BitVec.ofNat 8 (s.profile.update (setTimingOf q.params)).scrubPeriod, (setTimingOf q.params).clamps]) := by
  have hp : (s.rescrubbed (s.retimed (setTimingOf q.params))).profile = s.profile.update (setTimingOf q.params) :=
    (s.rescrubbed_jobsOnly _).profile.trans (s.retimed_profile _)
  show (s.rescrubbed (s.retimed (setTimingOf q.params))).respond q _
    ((s.rescrubbed (s.retimed (setTimingOf q.params))).profile.timingBytes ++ _) = _
  rw [hp]
  simp [LaneProfile.timingBytes, toBytes_one]

/-- Settles O43: the timing record and the table by `State.retimed`, the overdue slots by `State.rescrubbed`. -/
theorem setTimingWritesNamedFields : Obligations.SetTimingWritesNamedFields := by
  rintro s q rest r ht hi hc rfl
  obtain ⟨hl, -, -, -, hroom⟩ := id ht
  refine ⟨fun hd => ?_, fun hd => ?_⟩
  · exact congrArg Host.Outcome.next ((State.takeRequest_in_init ht hc hi hd _).trans
      (State.respond_of_room (s := s.left rest) hroom _ _ _))
  · have hprof := (s.left rest).retimed_profile (setTimingOf q.params)
    have hrest := (s.left rest).retimed_rest (setTimingOf q.params)
    have hjobs := (s.left rest).rescrubbed_jobsOnly ((s.left rest).retimed (setTimingOf q.params))
    refine ⟨(s.left rest).retimed (setTimingOf q.params),
      (s.left rest).rescrubbed ((s.left rest).retimed (setTimingOf q.params)), (setTimingOf q.params).clamps,
      hrest, by rw [hprof]; rfl, by rw [hprof]; rfl, by rw [hprof]; rfl, by rw [hprof]; rfl, State.retimed_recent_same,
      State.retimed_recent_aged, fun hs ⟨n, hn⟩ => ?_, fun h => ?_, congrArg Host.Outcome.next ?_, SetTiming.clamps_getLsbD _⟩
    · rw [State.rescrubbed, State.left_profile, if_pos hs]
      refine State.noteOverdue_noted ?_ hn
      rw [hrest]
      exact State.working_of_live (s := s.left rest) hl hd
    · rw [State.rescrubbed, State.left_profile]
      split
      · exact State.noteOverdue_none (h.resolve_left (Nat.not_le.mpr ‹_›))
      · rfl
    · refine (State.takeRequest_of_takes ht hc hi hd _).trans ((judgeSetTiming_eq q _).trans ?_)
      rw [State.respond_of_room (by rw [hjobs.lane, hrest]; exact hroom), if_pos (clampStatus_carriesData _), hprof]
      rfl

end Sys2Proof.Machine
end

section
/-! SUPPORT. What work under way leaves of the engines and the queue: an engine that holds a job goes on, and the jobs that
are new are those that the work may issue (R38, R127, R130, R135, R139). -/

namespace Sys2Proof.Machine

/-! ### Engines go on (R127, R130, R135) -/

/-- Engine x has gone on to y, each job given to it since being one of P: a job in hand stays in hand with its marks, a
CLOSED-IDLE engine stays so or opens the key of a new job. -/
structure Engine.GoesOn (P : Job → Prop) (x y : Engine) : Prop where
  held : x.isIdle = false → y.state = x.state ∧ y.loss = x.loss ∧ (x.closeAtEnd = true → y.closeAtEnd = true)
  closed : x.state = .closedIdle → y.state = .closedIdle ∨ ∃ r j, y.state = .opening r j ∧ P j
  jobs : ∀ k, y.job? = some k → x.job? = some k ∨ P k

/-- Every engine has gone on, the last-use order stands, and each job that has joined the queue is one of P. -/
structure JobsGoOn (P : Job → Prop) (s t : State) : Prop where
  lastUse : t.cipher.lastUse = s.cipher.lastUse
  engines : ∀ d, (s.engine d).GoesOn P (t.engine d)
  queue : ∀ k ∈ t.cipher.queue, k ∈ s.cipher.queue ∨ P k

variable {P : Job → Prop}

theorem Engine.GoesOn.refl (x : Engine) : x.GoesOn P x := ⟨fun _ => ⟨rfl, rfl, id⟩, .inl, fun _ => .inl⟩

theorem Engine.isIdle_of_state {x y : Engine} (h : y.state = x.state) : y.isIdle = x.isIdle := by
  unfold Engine.isIdle
  rw [h]

theorem Engine.GoesOn.trans {x y z : Engine} (h : x.GoesOn P y) (k : y.GoesOn P z) : x.GoesOn P z where
  held hx := by
    obtain ⟨h1, h2, h3⟩ := h.held hx
    obtain ⟨k1, k2, k3⟩ := k.held (by rwa [Engine.isIdle_of_state h1])
    exact ⟨k1.trans h1, k2.trans h2, fun hc => k3 (h3 hc)⟩
  closed hx := by
    rcases h.closed hx with hy | ⟨r, j, hy, hj⟩
    · exact k.closed hy
    · exact .inr ⟨r, j, (k.held (by simp [Engine.isIdle, hy])).1.trans hy, hj⟩
  jobs j hj := (k.jobs j hj).elim (h.jobs j) .inr

/-- An idle engine that takes a job of P goes on. -/
theorem Engine.GoesOn.of_idle {x y : Engine} (hx : x.isIdle = true)
    (hc : x.state = .closedIdle → y.state = .closedIdle ∨ ∃ r j, y.state = .opening r j ∧ P j)
    (hj : ∀ k, y.job? = some k → P k) : x.GoesOn P y :=
  ⟨fun h => absurd (hx.symm.trans h) (by decide), hc, fun k hk => .inr (hj k hk)⟩

namespace JobsGoOn

theorem trans {s t u : State} (h : JobsGoOn P s t) (k : JobsGoOn P t u) : JobsGoOn P s u :=
  ⟨k.lastUse.trans h.lastUse, fun d => (h.engines d).trans (k.engines d), fun j hj => (k.queue j hj).elim (h.queue j) .inr⟩

theorem of_cipher {s t : State} (h : t.cipher = s.cipher) : JobsGoOn P s t :=
  ⟨by rw [h], fun d => by unfold State.engine; rw [h]; exact .refl _, fun k hk => .inl (h ▸ hk)⟩

theorem refl (s : State) : JobsGoOn P s s := of_cipher rfl

/-- The work, after an update that leaves engines and queue. -/
theorem after {s t u : State} (k : JobsGoOn P t u) (h : t.cipher = s.cipher) : JobsGoOn P s u := (of_cipher h).trans k

end JobsGoOn

theorem State.setJobs_goesOn {s : State} {q : List Job} (h : ∀ k ∈ q, k ∈ s.cipher.queue ∨ P k) :
    JobsGoOn P s (s.setJobs q) := ⟨rfl, fun _ => .refl _, h⟩

theorem State.jobStarted_engine (s : State) (j : Job) (d : EngineNo) : (s.jobStarted j).engine d = s.engine d := by
  unfold State.engine
  rw [State.jobStarted_cipher]

/-- A CLOSED-IDLE engine given a job opens its key (R130). -/
theorem State.dispatch_closed {s : State} {e : EngineNo} (h : (s.engine e).state = .closedIdle) (j : Job) :
    ((s.dispatch e j).engine e).state = .opening (s.material j) j := by
  unfold State.dispatch
  rw [State.jobStarted_engine, State.engine_setEngine_self, h]

theorem State.dispatch_goesOn {s : State} {e : EngineNo} (hi : (s.engine e).isIdle = true) {j : Job} (hj : P j) :
    JobsGoOn P s (s.dispatch e j) where
  lastUse := by
    obtain ⟨x, -, -, -, -, hx⟩ := s.dispatch_cipher e j
    rw [hx]
    rfl
  engines d := by
    by_cases hd : d = e
    · subst hd
      refine .of_idle hi (fun hc => .inr ⟨_, j, s.dispatch_closed hc j, hj⟩) fun k hk => ?_
      rw [State.dispatch_job] at hk
      exact Option.some.inj hk ▸ hj
    · rw [State.dispatch_engine_ne _ hd]
      exact .refl _
  queue k hk := .inl (by rwa [State.dispatch_queue] at hk)

theorem State.arrive_goesOn (s : State) {j : Job} (hj : P j) : JobsGoOn P s (s.arrive j) := by
  unfold State.arrive
  split
  · exact State.dispatch_goesOn (State.idleEngineFor_isIdle ‹_›) hj
  · refine State.setJobs_goesOn fun k hk => (List.mem_append.mp hk).imp_right fun h => ?_
    exact List.mem_singleton.mp h ▸ hj

/-- The scrubs that the key store may issue are jobs of P (R97, R99). -/
def State.allowsScrubs (s : State) (P : Job → Prop) : Prop :=
  ∀ m forced, (s.slot m).holdsMaterial = true → P (scrubJob m forced)

/-- The record-code jobs that a composition may issue are jobs of P (R29). -/
def State.allowsCodes (s : State) (P : Job → Prop) : Prop :=
  ∀ g n c input, s.keys.writeGen = some g → s.findSlot .record 0 g = some n →
    P (freshJob .recordCompute (.context c) (.slot n) input)

theorem State.allowsScrubs_of_slots {s t : State} (hs : s.allowsScrubs P) (h : t.keys.slots = s.keys.slots) :
    t.allowsScrubs P := fun m forced hm => hs m forced (by unfold State.slot at hm ⊢; rwa [h] at hm)

theorem State.passFrame_slots {s t : State} {c : ContextNo} (h : s.passFrame t c) : t.keys.slots = s.keys.slots := by
  rw [h.1]

theorem State.passFrame_writeGen {s t : State} {c : ContextNo} (h : s.passFrame t c) :
    t.keys.writeGen = s.keys.writeGen := by
  rw [h.1]

theorem State.findSlot_of_slots {s t : State} (h : t.keys.slots = s.keys.slots) (role : Role) (issuer : Issuer)
    (g : Generation) : t.findSlot role issuer g = s.findSlot role issuer g := by
  unfold State.findSlot State.slot
  rw [h]

theorem State.allowsCodes_of_passFrame {s t : State} {c : ContextNo} (hs : s.allowsCodes P) (h : s.passFrame t c) :
    t.allowsCodes P := fun g n d input hg hn =>
  hs g n d input (State.passFrame_writeGen h ▸ hg) (State.findSlot_of_slots (State.passFrame_slots h) _ _ _ ▸ hn)

/-- An overdue slot holds material (R98). -/
theorem State.holdsMaterial_of_overdue {s : State} {n : SlotNo} (h : s.overdue n = true) :
    (s.slot n).holdsMaterial = true := ((Bool.and_eq_true _ _).mp h).1

theorem State.issueScrub_goesOn (s : State) {n : SlotNo} {forced : Bool} (h : P (scrubJob n forced)) :
    JobsGoOn P s (s.issueScrub n forced) :=
  .after (State.arrive_goesOn (s.setOutstanding _) h) rfl

theorem State.scrubTest_goesOn {s : State} (hs : s.allowsScrubs P) : JobsGoOn P s s.scrubTest := by
  unfold State.scrubTest
  split
  · split
    · rename_i n hn
      exact s.issueScrub_goesOn (hs n true (State.holdsMaterial_of_overdue ((s.mostOverdue_cases.2 n hn).1)))
    · split
      · exact .refl s
      · split
        · rename_i n hn
          have hm : (s.slot n).holdsMaterial = true := List.find?_some (p := fun n => (s.slot n).holdsMaterial) hn
          exact .after (State.issueScrub_goesOn _ (hs n false hm)) rfl
        · exact .refl s
  · exact .refl s

theorem State.issueFor_goesOn {s : State} (hs : s.allowsScrubs P) (c : ContextNo) (kind : JobKind) (key : KeyId)
    (input : List Block) (hj : P (freshJob kind (.context c) key input)) :
    JobsGoOn P s (s.issueFor c kind key input) := by
  refine .trans (t := s.modContext c fun x => { x with currentJob := .queued kind }) (.of_cipher rfl) ?_
  show JobsGoOn P _ (match State.idleEngineFor _ _ with | some e => _ | none => _)
  split
  · refine (State.dispatch_goesOn (State.idleEngineFor_isIdle ‹_›) hj).trans (State.scrubTest_goesOn ?_)
    exact State.allowsScrubs_of_slots hs (State.dispatch_jobsOnly _ _ _).slots
  · refine State.setJobs_goesOn fun k hk => (List.mem_append.mp hk).imp_right fun h => ?_
    exact List.mem_singleton.mp h ▸ hj

theorem State.dropQueuedJob_goesOn {s : State} (hs : s.allowsScrubs P) (c : ContextNo) :
    JobsGoOn P s (s.dropQueuedJob c) :=
  .trans (State.setJobs_goesOn fun _ hk => .inl (List.mem_of_mem_filter hk))
    (.after (State.scrubTest_goesOn (State.allowsScrubs_of_slots hs rfl)) rfl)

/-- A notice to every engine under which each goes on. -/
theorem State.tellEngines_goesOn (s : State) {f : Engine → Engine} (h : ∀ x : Engine, x.GoesOn P (f x)) :
    JobsGoOn P s (s.tellEngines f) :=
  ⟨rfl, fun d => by
    rw [show (s.tellEngines f).engine d = f (s.engine d) from State.engine_tellEngines s f d]
    exact h _, fun _ => .inl⟩

/-- The release of a context closes its idle keys and marks its others, and does no more (R139). -/
theorem Engine.atRelease_goesOn (c : ContextNo) (x : Engine) : x.GoesOn P (x.atRelease c) := by
  unfold Engine.atRelease
  split
  · split
    · refine .of_idle ?_ (fun _ => .inl rfl) nofun
      simp [Engine.isIdle, *]
    · exact .refl x
  · split
    · exact ⟨fun _ => ⟨rfl, rfl, fun _ => rfl⟩, .inl, fun _ => .inl⟩
    · exact .refl x
  · split
    · exact ⟨fun _ => ⟨rfl, rfl, fun _ => rfl⟩, .inl, fun _ => .inl⟩
    · exact .refl x
  · exact .refl x

theorem State.stall_cipher (s : State) (c : ContextNo) : (s.stall c).cipher = s.cipher := by
  unfold State.stall
  split
  · rfl
  · rw [State.raise_cipher]

theorem State.releaseHeads_goesOn (k : Nat) (z : ZoneNo) (s : State) : JobsGoOn P s (s.releaseHeads k z) := by
  induction k generalizing s with
  | zero => exact .refl s
  | succ k ih =>
    unfold State.releaseHeads
    split
    · exact .refl s
    · split
      · exact .refl s
      · split
        · split
          · refine .trans ?_ (ih _)
            exact .trans (.trans (.of_cipher rfl) (State.tellEngines_goesOn _ (Engine.atRelease_goesOn _))) (.of_cipher rfl)
          · exact .of_cipher (s.stall_cipher _)
        · exact .refl s

theorem State.offerClose_cipher (s : State) (z : ZoneNo) (tag : TagNumber) (ok : Bool) :
    (s.offerClose z tag ok).cipher = s.cipher := (s.offerClose_rest z tag ok).2.2.2

theorem State.handRecent_cipher (s : State) (x : Context) (r : PassResult) : (s.handRecent x r).cipher = s.cipher := by
  unfold State.handRecent
  split <;> rfl

theorem State.concludes_goesOn {s : State} (hs : s.allowsScrubs P) (c : ContextNo) (x : Context) (r : PassResult) :
    JobsGoOn P s (s.concludes c x r) := by
  unfold State.concludes
  dsimp only
  split
  · have hu : ((s.setContext c (some (x.concluded r s.clock.laneTime))).withdrawFrames c).allowsScrubs P := hs
    exact .after (State.dropQueuedJob_goesOn hu c) rfl
  · exact .of_cipher rfl

/-- The end of a pass issues scrubs alone (R53). -/
theorem State.endPass_goesOn {s : State} (hs : s.allowsScrubs P) (c : ContextNo) (r : PassResult) :
    JobsGoOn P s (s.endPass c r) := by
  cases hx : s.context c with
  | none =>
    unfold State.endPass
    rw [hx]
    exact .refl s
  | some x =>
    rw [State.endPass_eq hx]
    refine .trans (.trans (s.concludes_goesOn hs c x r) (.of_cipher ?_)) (State.releaseHeads_goesOn _ _ _)
    exact (State.handRecent_cipher _ _ _).trans (State.offerClose_cipher _ _ _ _)

theorem State.endNoWrite_goesOn {s : State} (hs : s.allowsScrubs P) (c : ContextNo) : JobsGoOn P s (s.endNoWrite c) :=
  .after (State.endPass_goesOn (s := s.modContext c _) hs c _) rfl

/-- A composition issues scrubs and a record-code job alone (R29, R30). -/
theorem State.compose_goesOn {s : State} (hs : s.allowsScrubs P) (hc : s.allowsCodes P) (c : ContextNo) :
    JobsGoOn P s (s.compose c) := by
  unfold State.compose
  split
  · exact .refl s
  · split
    · exact State.endNoWrite_goesOn hs c
    · split
      · exact State.endNoWrite_goesOn hs c
      · rename_i _ g hg _ n hn
        exact .after (State.issueFor_goesOn (s := s.setContext c _) hs c _ _ _ (hc g n c _ hg hn)) rfl

theorem State.afterCheck_goesOn {s : State} (hs : s.allowsScrubs P) (hc : s.allowsCodes P) (c : ContextNo) :
    JobsGoOn P s (s.afterCheck c) := by
  unfold State.afterCheck
  split
  · exact .refl s
  · split
    · exact State.endPass_goesOn hs c _
    · exact State.compose_goesOn hs hc c

theorem State.settleCheck_goesOn {s : State} (hs : s.allowsScrubs P) (hc : s.allowsCodes P) (c : ContextNo)
    (o : RecordCheck) : JobsGoOn P s (s.settleCheck c o) :=
  .after (State.afterCheck_goesOn (s := s.modContext c _) hs
    (State.allowsCodes_of_passFrame hc (s.modContext_passFrame c _)) c) rfl

end Sys2Proof.Machine
end

section
/-! PROOF. The completion of an opening: the job begins, or, its key lost meanwhile, ends without running (R31, R33, R97,
R103, R114, R131 to R133). -/

namespace Sys2Proof.Machine

/-! ### A job that ends without running (R131, R133) -/

/-- What the owner of job j makes of its end without running, by owner and kind. -/
inductive State.LostEnd (s : State) (j : Job) : State → Prop
  | nothing : s.LostEnd j s
  | goesOn {c : ContextNo} {x : Context} (hx : s.context c = some x) : s.LostEnd j (s.jobDone c x)
  | released {c : ContextNo} {x : Context} (hx : s.context c = some x) :
      s.LostEnd j ((s.jobDone c x).attemptRelease x.homeZone)
  | noWrite {c : ContextNo} {x : Context} (hx : s.context c = some x) : s.LostEnd j ((s.jobDone c x).endNoWrite c)
  | unchecked {c : ContextNo} {x : Context} (hx : s.context c = some x) (hk : j.kind = .recordVerify) :
      s.LostEnd j ((s.jobDone c x).settleCheck c .recordKeyUnavailable)
  | loadLost : s.LostEnd j (s.failLoad .noRoot)
  | combineLost : s.LostEnd j (s.clearTwoPart.finish .kcvMismatch)
  | scrubLost : s.LostEnd j s.afterScrub

/-- The end without running of a context's job, case by case (R38, R133). -/
theorem State.contextJobEnd_none {s : State} {j : Job} {c : ContextNo} {x : Context} (ho : j.owner = .context c)
    (hx : s.context c = some x) (stage : PassState) (onResult : ContextNo → Context → Block → State → State)
    (onLost : ContextNo → State → State) :
    s.contextJobEnd j stage none onResult onLost =
      if x.state = .done then (s.jobDone c x).attemptRelease x.homeZone
      else if x.state = stage then onLost c (s.jobDone c x) else s.jobDone c x := by
  unfold State.contextJobEnd
  rw [ho]
  dsimp only
  rw [hx]
  rfl

theorem State.contextJobEnd_lostEnd {s : State} {j : Job} (stage : PassState)
    (onResult : ContextNo → Context → Block → State → State) {onLost : ContextNo → State → State}
    (h : ∀ c x, s.context c = some x → s.LostEnd j (onLost c (s.jobDone c x))) :
    s.LostEnd j (s.contextJobEnd j stage none onResult onLost) := by
  cases ho : j.owner with
  | context c =>
    cases hx : s.context c with
    | none =>
      have he : s.contextJobEnd j stage none onResult onLost = s := by simp [State.contextJobEnd, ho, hx]
      rw [he]
      exact .nothing
    | some x =>
      rw [State.contextJobEnd_none ho hx]
      split
      · exact .released hx
      · split
        · exact h c x hx
        · exact .goesOn hx
  | _ =>
    have he : s.contextJobEnd j stage none onResult onLost = s := by simp [State.contextJobEnd, ho]
    rw [he]
    exact .nothing

/-- The owner of a job that ends without running does one of eight things (R133). -/
theorem State.deliver_none (s : State) (j : Job) : s.LostEnd j (s.deliver j none) := by
  unfold State.deliver
  cases hk : j.kind with
  | recordCompute => exact State.contextJobEnd_lostEnd _ _ fun _ _ hx => .noWrite hx
  | recordVerify => exact State.contextJobEnd_lostEnd _ _ fun _ _ hx => .unchecked hx hk
  | unwrap => exact .loadLost
  | kcv => exact .loadLost
  | combine => exact .combineLost
  | scrub =>
    dsimp only
    unfold State.scrubEnd
    split
    all_goals exact .scrubLost
  | _ => exact State.contextJobEnd_lostEnd _ _ fun _ _ hx => .goesOn hx

/-! ### Engines and slots at a lost end -/

variable {P : Job → Prop}

theorem State.sendResponse_cipher (s : State) (r : Response) : (s.sendResponse r).cipher = s.cipher := by
  unfold State.sendResponse
  split <;> rfl

theorem State.finish_cipher (s : State) (st : Status) (data : List Byte) : (s.finish st data).cipher = s.cipher := by
  unfold State.finish
  split
  · rfl
  · exact State.sendResponse_cipher _ _

theorem State.discardTwoPart_cipher (s : State) : s.discardTwoPart.cipher = s.cipher := by
  unfold State.discardTwoPart
  split <;> rfl

theorem State.sendResponse_keys (s : State) (r : Response) : (s.sendResponse r).keys = s.keys := by
  unfold State.sendResponse
  split <;> rfl

theorem State.finish_keys (s : State) (st : Status) (data : List Byte) : (s.finish st data).keys = s.keys := by
  unfold State.finish
  split
  · rfl
  · exact State.sendResponse_keys _ _

/-- In INIT and out of it, the end of a scrub is work on jobs alone but for the device state and the check list. -/
theorem State.afterScrub_frame (s : State) :
    ∃ d l, JobsOnly { s with device := d, keys := { s.keys with initCheck := l, outstanding := none } } s.afterScrub := by
  unfold State.afterScrub
  dsimp only
  split
  · unfold State.continueInitCheck
    split
    · exact ⟨.maintenance, s.keys.initCheck.drop 1, State.scrubTest_jobsOnly _⟩
    · exact ⟨s.device, s.keys.initCheck.drop 1, State.issueScrub_jobsOnly _ _ _⟩
  · exact ⟨s.device, s.keys.initCheck, State.scrubTest_jobsOnly _⟩

theorem State.afterScrub_goesOn {s : State} (hs : s.allowsScrubs P)
    (hi : ∀ m ∈ s.keys.initCheck, P (scrubJob m true)) : JobsGoOn P s s.afterScrub := by
  unfold State.afterScrub
  dsimp only
  split
  · unfold State.continueInitCheck
    split
    · exact .after (State.scrubTest_goesOn (s := { s with device := _, keys := _ }) hs) rfl
    · rename_i n l hl
      have hn : n ∈ s.keys.initCheck.drop 1 := (show s.keys.initCheck.drop 1 = n :: l from hl) ▸ List.mem_cons_self
      exact .after (State.issueScrub_goesOn _ (hi n (List.mem_of_mem_drop hn))) rfl
  · exact .after (State.scrubTest_goesOn (s := s.setOutstanding none) hs) rfl

/-- A job that ends without running adds to engines and queue only what the key store and a composition issue. -/
theorem State.LostEnd.jobsGoOn {s u : State} {j : Job} (h : s.LostEnd j u) (hs : s.allowsScrubs P)
    (hc : j.kind = .recordVerify → s.allowsCodes P) (hi : ∀ m ∈ s.keys.initCheck, P (scrubJob m true)) :
    JobsGoOn P s u := by
  cases h with
  | nothing => exact .refl s
  | goesOn => exact .of_cipher rfl
  | released => exact .after (State.releaseHeads_goesOn _ _ _) rfl
  | noWrite => exact .after (State.endNoWrite_goesOn (s := s.jobDone _ _) hs _) rfl
  | @unchecked c x _ hk =>
    exact .after (State.settleCheck_goesOn (s := s.jobDone c x) hs
      (State.allowsCodes_of_passFrame (hc hk) (s.jobDone_ownChange c x).passFrame) _ _) rfl
  | loadLost => exact .of_cipher ((State.finish_cipher _ _ _).trans s.discardTwoPart_cipher)
  | combineLost => exact .of_cipher (State.finish_cipher _ _ _)
  | scrubLost => exact State.afterScrub_goesOn hs hi

/-- The loss of a load empties its slot and no other (R106, R114). -/
theorem State.discardTwoPart_slot (s : State) (m : SlotNo) :
    s.discardTwoPart.slot m = s.slot m ∨ s.discardTwoPart.slot m = Slot.empty := by
  unfold State.discardTwoPart
  split
  · exact .inl rfl
  · exact .inl rfl
  · rename_i f _
    rw [show ((s.changeSlot f.slot Slot.empty).clearTwoPart).slot m = (s.changeSlot f.slot Slot.empty).slot m from rfl,
      State.slot_changeSlot]
    split
    · exact .inr rfl
    · exact .inl rfl

/-- No slot gains material at an end without running. -/
theorem State.LostEnd.slot {s u : State} {j : Job} (h : s.LostEnd j u) (m : SlotNo) :
    u.slot m = s.slot m ∨ u.slot m = Slot.empty := by
  have frame : ∀ {c : ContextNo} {t : State}, s.passFrame t c → t.slot m = s.slot m := fun ht => by
    unfold State.slot
    rw [State.passFrame_slots ht]
  cases h with
  | nothing => exact .inl rfl
  | goesOn => exact .inl rfl
  | @released c x _ =>
    exact .inl (frame (State.passFrame_trans (s.jobDone_ownChange c x).passFrame (State.attemptRelease_passFrame _ _ _)))
  | @noWrite c x _ =>
    exact .inl (frame (State.passFrame_trans (s.jobDone_ownChange c x).passFrame (State.endNoWrite_passFrame _ _)))
  | @unchecked c x _ _ =>
    exact .inl (frame (State.passFrame_trans (s.jobDone_ownChange c x).passFrame (State.settleCheck_passFrame _ _ _)))
  | loadLost =>
    unfold State.failLoad State.slot
    rw [State.finish_keys]
    exact s.discardTwoPart_slot m
  | combineLost =>
    unfold State.slot
    rw [State.finish_keys]
    exact .inl rfl
  | scrubLost =>
    obtain ⟨d, l, hj⟩ := s.afterScrub_frame
    exact .inl (hj.slot m)

theorem State.LostEnd.allowsScrubs {s u : State} {j : Job} (h : s.LostEnd j u) (hs : s.allowsScrubs P) :
    u.allowsScrubs P := fun m forced hm => by
  rcases h.slot m with he | he
  · exact hs m forced (he ▸ hm)
  · rw [he] at hm
    cases hm

/-! ### The engine and the arbiter at a lost end (R131, R134) -/

theorem State.arrive_engine_held {s : State} {e : EngineNo} (h : (s.engine e).isIdle = false) (j : Job) :
    (s.arrive j).engine e = s.engine e := by
  unfold State.arrive
  split
  · rename_i d hd
    refine State.dispatch_engine_ne _ ?_ j
    rintro rfl
    exact absurd (h.symm.trans (State.idleEngineFor_isIdle hd)) (by decide)
  · rfl

theorem State.issueScrub_engine_held {s : State} {e : EngineNo} (h : (s.engine e).isIdle = false) (n : SlotNo)
    (forced : Bool) : (s.issueScrub n forced).engine e = s.engine e :=
  State.arrive_engine_held (s := s.setOutstanding (some { slot := n, forced, running := false })) h _

theorem State.scrubTest_engine_held {s : State} {e : EngineNo} (h : (s.engine e).isIdle = false) :
    s.scrubTest.engine e = s.engine e := by
  unfold State.scrubTest
  split
  · split
    · exact State.issueScrub_engine_held h _ _
    · split
      · rfl
      · split
        · rename_i n _
          exact State.issueScrub_engine_held (s := { s with keys := { s.keys with scrubPointer := n + 1 } }) h _ _
        · rfl
  · rfl

theorem State.afterLeaving_engine_held {s : State} {e : EngineNo} (h : (s.engine e).isIdle = false) (j : Job) :
    (s.afterLeaving j).engine e = s.engine e := by
  unfold State.afterLeaving
  split
  · exact State.scrubTest_engine_held h
  · rfl

theorem State.afterLeaving_goesOn {s : State} (hs : s.allowsScrubs P) (j : Job) : JobsGoOn P s (s.afterLeaving j) := by
  unfold State.afterLeaving
  split
  · exact State.scrubTest_goesOn hs
  · exact .refl s

/-- The arbiter finds no job for engine e, or gives it one from the queue (R134). -/
theorem State.arbitrate_cases (s : State) (e : EngineNo) :
    s.arbitrate e = s ∨ ∃ q j, j ∈ s.cipher.queue ∧ s.arbitrate e = ((s.setJobs q).dispatch e j).afterLeaving j := by
  unfold State.arbitrate
  split
  · exact .inl rfl
  · split
    · exact .inl rfl
    · exact .inr ⟨_, _, List.mem_of_getElem? ‹_›, rfl⟩

theorem State.setJobs_engine (s : State) (q : List Job) (d : EngineNo) : (s.setJobs q).engine d = s.engine d := rfl

/-- A closed engine takes no job, or one from the queue; the others go on (R131, R134). -/
theorem State.arbitrate_closed {s : State} {e : EngineNo} (h : s.engine e = Engine.closed) (hs : s.allowsScrubs P) :
    (s.arbitrate e).cipher.lastUse = s.cipher.lastUse ∧
    ((s.arbitrate e).engine e).loss = false ∧ ((s.arbitrate e).engine e).closeAtEnd = false ∧
    (((s.arbitrate e).engine e).state = .closedIdle ∨
      ∃ m j, ((s.arbitrate e).engine e).state = .opening m j ∧ j ∈ s.cipher.queue) ∧
    ∀ d, d ≠ e → (s.engine d).GoesOn P ((s.arbitrate e).engine d) := by
  rcases s.arbitrate_cases e with ha | ⟨q, j, hj, ha⟩
  · rw [ha, h]
    exact ⟨rfl, rfl, rfl, .inl rfl, fun d _ => .refl _⟩
  · have hopen : ((s.setJobs q).dispatch e j).engine e =
        { state := .opening ((s.setJobs q).material j) j, closeAtEnd := false, loss := false } := by
      unfold State.dispatch
      rw [State.jobStarted_engine, State.engine_setEngine_self, State.setJobs_engine, h]
      rfl
    have hheld := State.afterLeaving_engine_held (s := (s.setJobs q).dispatch e j) (e := e) (by rw [hopen]; rfl) j
    have hgo : JobsGoOn P ((s.setJobs q).dispatch e j) (s.arbitrate e) := by
      rw [ha]
      exact State.afterLeaving_goesOn
        (State.allowsScrubs_of_slots hs (((s.setJobs_jobsOnly q).trans (State.dispatch_jobsOnly _ e j)).slots)) j
    obtain ⟨y, -, -, -, -, hy⟩ := (s.setJobs q).dispatch_cipher e j
    have heng : (s.arbitrate e).engine e = _ := (congrArg (fun t => State.engine t e) ha).trans (hheld.trans hopen)
    refine ⟨hgo.lastUse.trans (by rw [hy]; rfl), by rw [heng], by rw [heng], .inr ⟨_, j, by rw [heng], hj⟩, fun d hd => ?_⟩
    have := hgo.engines d
    rwa [State.dispatch_engine_ne _ hd] at this

/-- All that the engine's end and the arbiter do after the end of a job that did not run (R131, R132). -/
theorem State.afterEnd_lost {u : State} {e : EngineNo} {m : Option Key} {j : Job}
    (h : (u.engine e).state = .opening m j) (hs : u.allowsScrubs P) :
    (u.afterEnd e).cipher.lastUse = u.cipher.lastUse.filter (fun d => decide (d ≠ e)) ++ [e] ∧
    ((u.afterEnd e).engine e).loss = false ∧ ((u.afterEnd e).engine e).closeAtEnd = false ∧
    (((u.afterEnd e).engine e).state = .closedIdle ∨
      ∃ m' j', ((u.afterEnd e).engine e).state = .opening m' j' ∧ j' ∈ u.cipher.queue) ∧
    ∀ d, d ≠ e → (u.engine d).GoesOn P ((u.afterEnd e).engine d) := by
  have hclosed : (u.engineEnd e).engine e = Engine.closed := by
    refine (State.engine_setEngine_self u e _).trans ?_
    rw [h]
    rfl
  have hlast : (u.engineEnd e).cipher.lastUse = u.cipher.lastUse.filter (fun d => decide (d ≠ e)) ++ [e] := by
    show u.cipher.lastUse.filter (· != e) ++ [e] = _
    congr 2
    funext d
    exact Bool.eq_iff_iff.mpr (by simp)
  obtain ⟨h1, h2, h3, h4, h5⟩ := State.arbitrate_closed hclosed
    (State.allowsScrubs_of_slots hs (u.engineEnd_jobsOnly e).slots)
  refine ⟨h1.trans hlast, h2, h3, h4, fun d hd => ?_⟩
  have := h5 d hd
  rwa [show (u.engineEnd e).engine d = u.engine d from tableGet_tableSet_ne _ _ hd] at this

/-! ### The owner of a job that ends without running (R31, R33, R133) -/

/-- A job that starts tells its owner alone (R130). -/
theorem State.jobStarted_context_ne {s : State} {j : Job} {c : ContextNo} (h : j.owner ≠ .context c) :
    (s.jobStarted j).context c = s.context c := by
  unfold State.jobStarted
  split
  · rename_i d hd
    rw [State.context_modContext, if_neg fun he => h (hd.trans (congrArg JobOwner.context he.symm))]
  · rfl
  · rfl

/-- A job that starts leaves the outstanding scrub, running if the job is its own (R97, R130). -/
theorem State.jobStarted_outstanding (s : State) (j : Job) :
    (s.jobStarted j).keys.outstanding = s.keys.outstanding ∨
      (s.jobStarted j).keys.outstanding = s.keys.outstanding.map fun o => { o with running := true } := by
  unfold State.jobStarted
  split
  · exact .inl rfl
  · exact .inr rfl
  · exact .inl rfl

/-- No dispatch of the arbiter tells a context none of whose jobs is queued. -/
theorem State.arbitrate_context {s : State} {c : ContextNo} (h : ∀ k ∈ s.cipher.queue, k.owner ≠ .context c)
    (e : EngineNo) : (s.arbitrate e).context c = s.context c := by
  rcases s.arbitrate_cases e with ha | ⟨q, j, hj, ha⟩
  · rw [ha]
  · have hleft : ∀ t : State, (t.afterLeaving j).context c = t.context c := fun t => by
      unfold State.afterLeaving
      split
      · exact t.scrubTest_context c
      · rfl
    rw [ha, hleft]
    exact State.jobStarted_context_ne (h j hj)

theorem State.afterEnd_context {s : State} {c : ContextNo} (h : ∀ k ∈ s.cipher.queue, k.owner ≠ .context c)
    (e : EngineNo) : (s.afterEnd e).context c = s.context c :=
  State.arbitrate_context (s := s.engineEnd e) h e

/-- The end of a job of a context in DONE: a release is attempted (R38, R133). -/
theorem State.deliver_none_done {s : State} {j : Job} {c : ContextNo} {x : Context} (ho : j.owner = .context c)
    (hx : s.context c = some x) (hk : j.kind.ofPass = true) (hd : x.state = .done) :
    s.deliver j none = (s.jobDone c x).attemptRelease x.homeZone := by
  unfold State.deliver
  cases hj : j.kind with
  | unwrap | kcv | combine | scrub => rw [hj] at hk; cases hk
  | _ => exact (State.contextJobEnd_none ho hx _ _ _).trans (if_pos hd)

theorem State.deliver_none_compute {s : State} {j : Job} {c : ContextNo} {x : Context} (ho : j.owner = .context c)
    (hx : s.context c = some x) (hk : j.kind = .recordCompute) (hs : x.state = .checking) :
    s.deliver j none = (s.jobDone c x).endNoWrite c := by
  unfold State.deliver
  rw [hk]
  exact (State.contextJobEnd_none ho hx _ _ _).trans ((if_neg (by rw [hs]; decide)).trans (if_pos hs))

theorem State.deliver_none_verify {s : State} {j : Job} {c : ContextNo} {x : Context} (ho : j.owner = .context c)
    (hx : s.context c = some x) (hk : j.kind = .recordVerify) (hs : x.state = .checking) :
    s.deliver j none = (s.jobDone c x).settleCheck c .recordKeyUnavailable := by
  unfold State.deliver
  rw [hk]
  exact (State.contextJobEnd_none ho hx _ _ _).trans ((if_neg (by rw [hs]; decide)).trans (if_pos hs))

/-- Any other pass goes on, its current job none (R133). -/
theorem State.deliver_none_other {s : State} {j : Job} {c : ContextNo} {x : Context} (ho : j.owner = .context c)
    (hx : s.context c = some x) (hk : j.kind.ofPass = true) (hd : x.state ≠ .done)
    (hn : ¬(x.state = .checking ∧ (j.kind = .recordCompute ∨ j.kind = .recordVerify))) :
    s.deliver j none = s.jobDone c x := by
  have other : ∀ stage onResult onLost, (∀ t, onLost c t = t) ∨ x.state ≠ stage →
      s.contextJobEnd j stage none onResult onLost = s.jobDone c x := by
    intro stage onResult onLost h
    rw [State.contextJobEnd_none ho hx, if_neg hd]
    split
    · exact (h.resolve_right fun hne => hne ‹_›) _
    · rfl
  unfold State.deliver
  cases hj : j.kind with
  | recordCompute => exact other _ _ _ (.inr fun hc => hn ⟨hc, .inl hj⟩)
  | recordVerify => exact other _ _ _ (.inr fun hc => hn ⟨hc, .inr hj⟩)
  | unwrap | kcv | combine | scrub => rw [hj] at hk; cases hk
  | _ => exact other _ _ _ (.inl fun _ => rfl)

/-- What a job's end without running leaves of its pass (R31, R33, R38, R133). -/
theorem State.lost_told {s : State} {e : EngineNo} {j : Job} {c : ContextNo} {x : Context}
    (hb : (s.engine e).isIdle = false) (ho : j.owner = .context c) (hx : s.context c = some x)
    (hk : j.kind.ofPass = true) {t : State} (ht : t = (s.deliver j none).afterEnd e) :
    (x.state = .done → (∀ k ∈ s.cipher.queue, k.owner ≠ .context c) →
      s.passFrame t c ∧ t.recent = s.recent ∧ ∀ y, t.context c = some y → y = { x with currentJob := .idle }) ∧
    (x.state = .checking → j.kind = .recordCompute →
      t.ended c x .completeNoWrite s.clock.laneTime ∧ s.passFrame t c ∧ t.recent = s.recentWith x x.counter false) ∧
    (x.state = .checking → j.kind = .recordVerify → s.passFrame t c ∧
      s.shows t c x (fun y => y.recordCheck = some .recordKeyUnavailable)
        (fun r => r.recordCheck = some .recordKeyUnavailable)) ∧
    (x.state ≠ .done → ¬(x.state = .checking ∧ (j.kind = .recordCompute ∨ j.kind = .recordVerify)) →
      s.jobsApart t none) := by
  subst ht
  have hown := s.jobDone_ownChange c x
  have hctx := s.jobDone_context c x
  refine ⟨fun hd hq => ?_, fun hs hj => ?_, fun hs hj => ?_, fun hd hn => ?_⟩
  · rw [State.deliver_none_done ho hx hk hd]
    have hrel := (s.jobDone c x).attemptRelease_passFrame x.homeZone c
    have hend := State.afterEnd_jobsOnly ((s.jobDone c x).attemptRelease x.homeZone) e
    obtain ⟨-, hqueue, -⟩ := State.releaseHeads_jobs ((s.jobDone c x).openList x.homeZone).length x.homeZone (s.jobDone c x)
    refine ⟨State.passFrame_trans (State.passFrame_trans hown.passFrame hrel) (hend.passFrame c),
      hend.recent.trans ((State.releaseHeads_recent _ _ _).trans rfl), fun y hy => ?_⟩
    have hcc := State.afterEnd_context (s := (s.jobDone c x).attemptRelease x.homeZone) (c := c)
      (fun k hk => hq k (hqueue ▸ hk)) e
    rw [hcc] at hy
    rcases State.releaseHeads_context ((s.jobDone c x).openList x.homeZone).length x.homeZone (s.jobDone c x) c with h | h
    · rw [State.attemptRelease, h, hctx] at hy
      exact (Option.some.inj hy).symm
    · rw [State.attemptRelease, h] at hy
      cases hy
  · rw [State.deliver_none_compute ho hx hj hs]
    obtain ⟨h1, h2, h3, -⟩ := State.endNoWrite_afterEnd hown rfl hctx e
    exact ⟨h1, h2, h3⟩
  · rw [State.deliver_none_verify ho hx hj hs]
    obtain ⟨h1, h2, -⟩ := State.settleCheck_afterEnd hown rfl hctx hb (o := .recordKeyUnavailable) rfl
    exact ⟨h1, h2⟩
  · rw [State.deliver_none_other ho hx hk hd hn]
    refine (JobsOnly.trans (t := s.jobDone c x) ⟨rfl, rfl, fun d => ?_, rfl⟩ (State.afterEnd_jobsOnly _ e)).jobsApart none
    by_cases hdc : d = c
    · subst hdc
      rw [hctx, hx]
      rfl
    · rw [hown.contexts d hdc]

/-! ### The end of a scrub (R97, R100, R103) -/

/-- The outstanding scrub has its job, in the queue or on an engine other than `off` (R97). -/
def State.scrubStands (s : State) (off : Option EngineNo) : Prop :=
  ∀ o, s.keys.outstanding = some o →
    s.someJob off fun j => j.kind = .scrub ∧ j.owner = .scrub ∧ j.key = .slot o.slot ∧ j.input = [0] ∧ j.extra = []

theorem State.issueScrub_stands {s : State} {off : Option EngineNo}
    (ho : ∀ e, off = some e → (s.engine e).isIdle = false) (n : SlotNo) (forced : Bool) :
    (s.issueScrub n forced).scrubStands off := by
  intro o h
  obtain ⟨r, hr⟩ := s.issueScrub_outstanding n forced
  obtain rfl := Option.some.inj (h.symm.trans hr)
  exact State.someJob_arrive (s := s.setOutstanding _) _ ho (.inr ⟨rfl, rfl, rfl, rfl, rfl⟩)

theorem State.scrubTest_stands {s : State} {off : Option EngineNo}
    (ho : ∀ e, off = some e → (s.engine e).isIdle = false) (h : s.scrubStands off) : s.scrubTest.scrubStands off := by
  unfold State.scrubTest
  split
  · split
    · exact State.issueScrub_stands ho _ _
    · split
      · exact h
      · split
        · rename_i n _
          exact State.issueScrub_stands (s := { s with keys := { s.keys with scrubPointer := n + 1 } }) ho _ _
        · exact h
  · exact h

theorem State.afterScrub_stands {s : State} {off : Option EngineNo}
    (ho : ∀ e, off = some e → (s.engine e).isIdle = false) : s.afterScrub.scrubStands off := by
  unfold State.afterScrub
  dsimp only
  split
  · unfold State.continueInitCheck
    split
    · exact State.scrubTest_stands (s := { s.setOutstanding none with device := _, keys := _ }) ho nofun
    · exact State.issueScrub_stands (by exact ho) _ _
  · exact State.scrubTest_stands (s := s.setOutstanding none) ho nofun

/-- The arbiter leaves the outstanding scrub, running once its job is dispatched, and issues one only where there is none
(R97, R130). -/
theorem State.arbitrate_outstanding {s : State} {o : Scrub} (h : s.keys.outstanding = some o) (e : EngineNo) :
    ∃ r, (s.arbitrate e).keys.outstanding = some { o with running := r } := by
  rcases s.arbitrate_cases e with ha | ⟨q, j, hj, ha⟩
  · exact ⟨o.running, by rw [ha]; exact h⟩
  · have hstart : ∃ r, ((s.setJobs q).dispatch e j).keys.outstanding = some { o with running := r } := by
      rcases State.jobStarted_outstanding ((s.setJobs q).setEngine e _) j with hk | hk
      · exact ⟨o.running, hk.trans h⟩
      · exact ⟨true, hk.trans (congrArg (Option.map fun o : Scrub => { o with running := true }) h)⟩
    obtain ⟨r, hr⟩ := hstart
    have hidle : ∀ t : State, t.keys.outstanding.isSome = true → t.scrubTest = t := fun t ht => by
      unfold State.scrubTest
      rw [if_neg (by cases hc : t.keys.outstanding <;> simp_all)]
    refine ⟨r, ?_⟩
    rw [ha]
    unfold State.afterLeaving
    split
    · rw [hidle _ (by rw [hr]; rfl), hr]
    · exact hr

theorem State.arbitrate_stands {s : State} {e : EngineNo} (h : s.scrubStands (some e)) :
    (s.arbitrate e).scrubStands none := by
  cases hs : s.keys.outstanding with
  | some o =>
    obtain ⟨r, hr⟩ := State.arbitrate_outstanding hs e
    intro o' ho'
    obtain rfl := Option.some.inj (ho'.symm.trans hr)
    exact State.someJob_arbitrate e (fun _ _ hj => hj) (h o hs)
  | none =>
    rcases s.arbitrate_cases e with ha | ⟨q, j, hj, ha⟩
    · rw [ha]
      exact fun o ho => absurd (hs.symm.trans ho) nofun
    · have hnone : ((s.setJobs q).dispatch e j).scrubStands none := by
        intro o ho
        have hk : ((s.setJobs q).dispatch e j).keys.outstanding = none := by
          rcases State.jobStarted_outstanding ((s.setJobs q).setEngine e _) j with hk | hk
          · exact hk.trans hs
          · exact hk.trans (congrArg (Option.map fun o : Scrub => { o with running := true }) hs)
        cases hk.symm.trans ho
      rw [ha]
      unfold State.afterLeaving
      split
      · exact State.scrubTest_stands nofun hnone
      · exact hnone

/-- After the end of a scrub on engine e the INIT check goes on, or the key store's own scrubs do (R97, R100, R103). -/
theorem State.afterScrub_checkGoesOn {s : State} {e : EngineNo} (hb : (s.engine e).isIdle = false) :
    s.checkGoesOn (s.afterScrub.afterEnd e) := by
  have hend := State.afterEnd_jobsOnly s.afterScrub e
  refine ⟨fun m l hd hl => ?_, fun h => ?_, fun o ho => ?_⟩
  · obtain ⟨h1, h2, h3⟩ := State.afterScrub_init hd hl
    refine ⟨hend.initCheck.trans h1, fun hn => hend.device.trans (h2 hn), fun k more hk => ?_⟩
    obtain ⟨hi, r, hr⟩ := h3 k more hk
    obtain ⟨r', hr'⟩ := State.arbitrate_outstanding (s := s.afterScrub.engineEnd e) hr e
    exact ⟨hend.device.trans hi, r', hr'⟩
  · have hj := (State.afterScrub_jobsOnly h).trans hend
    exact ⟨hj.device, hj.initCheck⟩
  · have hstands : (s.afterScrub.engineEnd e).scrubStands (some e) := fun o ho =>
      State.someJob_engineEnd e (State.afterScrub_stands (fun d hd => Option.some.inj hd ▸ hb) o ho)
    exact (State.hasJob_iff _ _ _ _ _ _).mpr (State.arbitrate_stands hstands o ho)

theorem State.deliver_scrub_none {s : State} {j : Job} (h : j.kind = .scrub) : s.deliver j none = s.afterScrub := by
  unfold State.deliver
  rw [h]
  dsimp only
  unfold State.scrubEnd
  split <;> rfl

/-- The scrub that ended without running judges no slot (R100, R133). -/
theorem State.afterScrub_jobsApart (s : State) (e : EngineNo) :
    { s with
      device := (s.afterScrub.afterEnd e).device
      keys := { s.keys with initCheck := (s.afterScrub.afterEnd e).keys.initCheck } }.jobsApart
      (s.afterScrub.afterEnd e) none := by
  obtain ⟨d, l, hj⟩ := s.afterScrub_frame
  have hall := hj.trans (State.afterEnd_jobsOnly s.afterScrub e)
  rw [show (s.afterScrub.afterEnd e).device = d from hall.device,
    show (s.afterScrub.afterEnd e).keys.initCheck = l from hall.initCheck]
  exact hall.jobsApart none

/-! ### The end of a load that lost its root (R114) -/

/-- The loss of the root ends a KEY-LOAD-B with NO-ROOT (R106, R114). -/
theorem State.failLoad_lost {s : State} {f : LoadFields} {w : Block} {q : Request} (hp : s.mgmt.twoPart = .load f)
    (hi : s.mgmt.inHand = some { tag := q.tag, code := q.code, work := .keyLoadB w })
    (hr : s.lane.responses.length < 8) {t : State} (ht : JobsOnly (s.failLoad .noRoot) t) : s.loadLost t f q := by
  have he : s.failLoad .noRoot = { s with
      mgmt := { s.mgmt with twoPart := .idle, candidate := none, inHand := none }
      keys := { s.keys with slots := tableSet s.keys.slots f.slot Slot.empty, keyChange := true }
      lane := { s.lane with responses := s.lane.responses ++ [.response
        { tag := q.tag, code := q.code, status := .noRoot, attention := s.events.flags != 0, keyChange := true,
          data := [] }] } } := by
    unfold State.failLoad
    rw [State.discardTwoPart_load hp, State.finish_of_room (by exact hi) (by exact hr)]
    rfl
  rw [he] at ht
  have hslot : ∀ m, t.slot m = if m = f.slot then Slot.empty else s.slot m := fun m =>
    (ht.slot m).trans (tableGet_tableSet _ _ _ _)
  refine ⟨?_, (hslot _).trans (if_pos rfl), fun n hn => (hslot n).trans (if_neg hn), by rw [ht.keys], by rw [ht.mgmt],
    by rw [ht.mgmt], by rw [ht.mgmt], ht.events, by rw [ht.lane]⟩
  have hkeys : t.keys.keyChange = true := by rw [ht.keys]
  unfold State.loadFrame
  rw [ht.mgmt, ht.events, ht.lane, ht.slots, hkeys]
  exact ht.jobsApart none

/-- The part when an opening completes (R131). -/
theorem exec_openCompletion {e : EngineNo} {s : State} {m : Option Key} {j : Job} (h : (s.engine e).state = .opening m j) :
    exec (.openCompletion e) s = .next (if (s.engine e).loss then (s.deliver j none).afterEnd e
      else s.setEngine e { s.engine e with state := .busy m j }) := by
  show Host.Outcome.next (s.completeOpening e) = _
  unfold State.completeOpening
  dsimp only
  rw [h]
  rfl

/-- The lost job is none that the part issues by itself: its slot, if it names one, has no material, and what follows a
verify job computes. -/
theorem State.lost_job_gone {s : State} {e : EngineNo} {m : Option Key} {j : Job} (h : (s.engine e).state = .opening m j)
    (hon : ∀ d, d ≠ e → (s.engine d).job? ≠ some j) (hq : j ∉ s.cipher.queue)
    (hm : ∀ n, j.key = .slot n → (s.slot n).holdsMaterial = false)
    (hi : ∀ m ∈ s.keys.initCheck, (s.slot m).holdsMaterial = true) (d : EngineNo) :
    (((s.deliver j none).afterEnd e).engine d).job? ≠ some j := by
  have hscrub : ∀ n forced, (s.slot n).holdsMaterial = true → scrubJob n forced ≠ j := by
    rintro n forced hn rfl
    exact Bool.false_ne_true ((hm n rfl).symm.trans hn)
  have hend := s.deliver_none j
  have hgo := hend.jobsGoOn (P := (· ≠ j)) hscrub (fun hk _ _ _ _ _ _ he => by rw [← he] at hk; cases hk)
    fun n hn => hscrub n true (hi n hn)
  have hopen := (hgo.engines e).held (by simp [Engine.isIdle, h])
  obtain ⟨-, -, -, hstate, hother⟩ := State.afterEnd_lost (hopen.1.trans h) (hend.allowsScrubs (P := (· ≠ j)) hscrub)
  by_cases hd : d = e
  · subst hd
    rcases hstate with hs | ⟨m', j', hs, hj'⟩
    · simp [Engine.job?, hs]
    · have hne : j' ≠ j := (hgo.queue j' hj').elim (fun hmem he => hq (he ▸ hmem)) id
      simpa [Engine.job?, hs] using hne
  · intro hj
    rcases (hother d hd).jobs j hj with hj | hne
    · exact ((hgo.engines d).jobs j hj).elim (hon d hd) (· rfl)
    · exact hne rfl

/-- Settles O31: the job begins, or its owner is told of its end without running and the engine goes on. -/
theorem openingCompletes : Obligations.OpeningCompletes := by
  intro e s m j h
  have hb : (s.engine e).isIdle = false := by simp [Engine.isIdle, h]
  rw [exec_openCompletion h]
  refine ⟨fun hl => ?_, fun hl => ?_⟩
  · rw [hl]
    rfl
  rw [if_pos hl]
  have hgo : JobsGoOn (fun _ => True) s (s.deliver j none) :=
    (s.deliver_none j).jobsGoOn (fun _ _ _ => trivial) (fun _ _ _ _ _ _ _ => trivial) fun _ _ => trivial
  have hopen := ((hgo.engines e).held hb).1.trans h
  obtain ⟨hlast, hloss, hclose, hstate, -⟩ :=
    State.afterEnd_lost (P := fun _ => True) hopen fun _ _ _ => trivial
  refine ⟨_, rfl, by rw [hlast, hgo.lastUse], hloss, hclose, hstate, fun hon hq hm hi d => State.lost_job_gone h hon hq hm hi d,
    fun c x ho hx hk => State.lost_told hb ho hx hk rfl, fun n hk hn => ?_, fun f w q hk hp _ hi hr => ?_⟩
  · rw [State.deliver_scrub_none hk]
    exact ⟨s.afterScrub_jobsApart e, State.afterScrub_checkGoesOn hb⟩
  · have hd : s.deliver j none = s.failLoad .noRoot := by
      unfold State.deliver
      rw [hk]
      rfl
    rw [hd]
    exact State.failLoad_lost hp hi hr (State.afterEnd_jobsOnly _ e)

end Sys2Proof.Machine
end

section
/-! SUPPORT. What the work of one pass leaves of every pass but its own: each stands, or has ended already and is released
with its report, and the two events that the end of a pass may raise take their alerts from a fixed room (R53, R57, R58,
R174). -/

namespace Sys2Proof.Machine

/-! ### Passes go on -/

/-- The pass of context d stands but for its current job, or it had ended, and has been released with its report (R57). -/
def State.standsOn (s t : State) (d : ContextNo) : Prop :=
  (t.context d).map Context.apart = (s.context d).map Context.apart ∨
    ∃ y, s.context d = some y ∧ y.state = .done ∧ t.context d = none ∧
      ReportItem.report (y.report (y.result.getD .abandoned)) ∈ t.lane.reports.drop s.lane.reports.length

/-- The responses queued, and one for each of CLOSE-DROP and REPORT-STALL that may still be alerted (R174). -/
def State.alertRoom (s : State) : Nat :=
  s.lane.responses.length + (if s.events.flag Event.closeDrop.number then 0 else 1) +
    (if s.events.flag Event.reportStall.number then 0 else 1)

/-- Work of the passes own between s and t leaves every other pass as it stands (R53, R57). -/
structure PassesGoOn (own : ContextNo → Prop) (s t : State) : Prop where
  rest : t = { s with
    passes := t.passes, cipher := t.cipher, air := t.air, recent := t.recent, events := t.events
    lane := { s.lane with responses := t.lane.responses, reports := t.lane.reports }
    keys := { s.keys with outstanding := t.keys.outstanding, scrubPointer := t.keys.scrubPointer } }
  reports : s.lane.reports <+: t.lane.reports
  stands : ∀ d, ¬own d → s.standsOn t d
  free : ∀ d, s.context d = none → t.context d = none
  alerts : t.alertRoom ≤ s.alertRoom

/-- A report of context x is the same whatever its current job. -/
theorem Context.report_of_apart {x y : Context} (h : x.apart = y.apart) (r : PassResult) : x.report r = y.report r := by
  show x.apart.report r = y.apart.report r
  rw [h]

theorem Context.state_of_apart {x y : Context} (h : x.apart = y.apart) : x.state = y.state := by
  show x.apart.state = y.apart.state
  rw [h]

theorem Context.result_of_apart {x y : Context} (h : x.apart = y.apart) : x.result = y.result := by
  show x.apart.result = y.apart.result
  rw [h]

/-- A context in use, but for its current job, among contexts that are the same but for theirs. -/
theorem State.some_of_apart {t : State} {d : ContextNo} {y : Context}
    (h : (t.context d).map Context.apart = some y.apart) : ∃ z, t.context d = some z ∧ z.apart = y.apart :=
  Option.map_eq_some_iff.mp h

/-- What has joined the report queue since t has joined it since s. -/
theorem mem_drop_of_prefix {α : Type} {l m n : List α} (h : l <+: m) {a : α} (ha : a ∈ n.drop m.length) :
    a ∈ n.drop l.length :=
  (List.drop_sublist_drop_left n h.length_le).mem ha

/-- What had joined the report queue stays there. -/
theorem mem_drop_of_grown {α : Type} {m n : List α} (h : m <+: n) {k : Nat} {a : α} (ha : a ∈ m.drop k) :
    a ∈ n.drop k := by
  obtain ⟨l, rfl⟩ := h
  rw [List.drop_append]
  exact List.mem_append_left _ ha

theorem State.standsOn_trans {own : ContextNo → Prop} {s t u : State} {d : ContextNo} (h : s.standsOn t d)
    (hr : s.lane.reports <+: t.lane.reports) (k : PassesGoOn own t u) (hd : ¬own d) : s.standsOn u d := by
  rcases h with h | ⟨y, hy, hdone, hn, hp⟩
  · rcases k.stands d hd with k' | ⟨z, hz, hdone, hn, hp⟩
    · exact .inl (k'.trans h)
    · rw [hz] at h
      obtain ⟨y, hy, hyz⟩ := Option.map_eq_some_iff.mp h.symm
      refine .inr ⟨y, hy, (Context.state_of_apart hyz).trans hdone, hn, ?_⟩
      rw [Context.result_of_apart hyz, Context.report_of_apart hyz]
      exact mem_drop_of_prefix hr hp
  · exact .inr ⟨y, hy, hdone, k.free d hn, mem_drop_of_grown k.reports hp⟩

namespace PassesGoOn

variable {own : ContextNo → Prop} {s t u : State}

theorem refl (s : State) : PassesGoOn own s s :=
  ⟨rfl, List.prefix_refl _, fun _ _ => .inl rfl, fun _ h => h, le_rfl⟩

theorem trans (h : PassesGoOn own s t) (k : PassesGoOn own t u) : PassesGoOn own s u :=
  ⟨by rw [k.rest, h.rest], h.reports.trans k.reports, fun d hd => State.standsOn_trans (h.stands d hd) h.reports k hd,
    fun d hd => k.free d (h.free d hd), k.alerts.trans h.alerts⟩

theorem mono {own' : ContextNo → Prop} (h : PassesGoOn own s t) (ho : ∀ d, own d → own' d) : PassesGoOn own' s t :=
  ⟨h.rest, h.reports, fun d hd => h.stands d fun hn => hd (ho d hn), h.free, h.alerts⟩

theorem clock (h : PassesGoOn own s t) : t.clock = s.clock := by rw [h.rest]
theorem mgmt (h : PassesGoOn own s t) : t.mgmt = s.mgmt := by rw [h.rest]
theorem cache (h : PassesGoOn own s t) : t.cache = s.cache := by rw [h.rest]
theorem slots (h : PassesGoOn own s t) : t.keys.slots = s.keys.slots := by rw [h.rest]
theorem writeGen (h : PassesGoOn own s t) : t.keys.writeGen = s.keys.writeGen := by rw [h.rest]

theorem slot (h : PassesGoOn own s t) (n : SlotNo) : t.slot n = s.slot n := by
  unfold State.slot
  rw [h.slots]

theorem alertRoom_of {s t : State} (hl : t.lane.responses = s.lane.responses) (he : t.events = s.events) :
    t.alertRoom = s.alertRoom := by
  unfold State.alertRoom
  rw [hl, he]

/-- Work on jobs alone ends no pass. -/
theorem of_jobsOnly (h : JobsOnly s t) : PassesGoOn own s t :=
  ⟨(h.passFrame 0).1, by rw [h.lane], fun d _ => .inl (h.contexts d), fun _ hd => h.context_none hd,
    (alertRoom_of (by rw [h.lane]) h.events).le⟩

/-- Work on one pass in use, and on nothing that others see. -/
theorem of_own {c : ContextNo} (h : s.passFrame t c) (hc : ∀ d, d ≠ c → t.context d = s.context d)
    (hs : s.context c = none → t.context c = none) (hl : t.lane = s.lane) (he : t.events = s.events) :
    PassesGoOn (· = c) s t := by
  refine ⟨h.1, by rw [hl], fun d hd => .inl (congrArg _ (hc d hd)), fun d hd => ?_, (alertRoom_of (by rw [hl]) he).le⟩
  by_cases hdc : d = c
  · exact hdc ▸ hs (hdc ▸ hd)
  · rw [hc d hdc, hd]

theorem modContext (s : State) (c : ContextNo) (f : Context → Context) : PassesGoOn (· = c) s (s.modContext c f) :=
  of_own (s.modContext_passFrame c f) (OwnChange.modContext s c f).contexts
    (fun h => by rw [State.context_modContext, if_pos rfl, h]; rfl) rfl rfl

theorem setContext {c : ContextNo} {x : Context} (hs : s.context c = some x) (y : Context) :
    PassesGoOn (· = c) s (s.setContext c (some y)) :=
  of_own (s.setContext_passFrame c _) (OwnChange.setContext s c _).contexts (fun h => absurd (hs.symm.trans h) nofun)
    rfl rfl

end PassesGoOn

/-! ### The room for the alerts of the passes (R174) -/

/-- A raise queues at most one alert, and none of an event whose flag is set (R174). -/
theorem State.alertsOf_length_le (s : State) (v : Event) :
    (s.alertsOf v).length ≤ if s.events.flag v.number then 0 else 1 := by
  unfold State.alertsOf
  split
  · rename_i h
    simp [h.1]
  · exact Nat.zero_le _

/-- The alert of CLOSE-DROP or of REPORT-STALL has its room. -/
theorem State.raise_alertRoom (s : State) {v : Event} (h : v = .closeDrop ∨ v = .reportStall) :
    (s.raise v).alertRoom ≤ s.alertRoom := by
  have hlen := s.alertsOf_length_le v
  unfold State.alertRoom
  rw [State.raise_responses, State.raise_events, List.length_append, Events.flag_record, Events.flag_record]
  rcases h with rfl | rfl
  · rw [decide_eq_true rfl, decide_eq_false (by decide), Bool.true_or, Bool.false_or, if_pos rfl]
    omega
  · rw [decide_eq_true rfl, decide_eq_false (by decide), Bool.true_or, Bool.false_or, if_pos rfl]
    omega

theorem State.responses_le_alertRoom (s : State) : s.lane.responses.length ≤ s.alertRoom :=
  (Nat.le_add_right _ _).trans (Nat.le_add_right _ _)

theorem State.alertRoom_le (s : State) : s.alertRoom ≤ s.lane.responses.length + 2 := by
  unfold State.alertRoom
  split <;> split <;> omega

/-- A raise of either shows at no pass. -/
theorem State.raise_passesGoOn (s : State) {v : Event} (h : v = .closeDrop ∨ v = .reportStall) {own : ContextNo → Prop} :
    PassesGoOn own s (s.raise v) := by
  have hc : ∀ d, (s.raise v).context d = s.context d := fun d => by
    unfold State.context
    rw [State.raise_passes]
  exact ⟨(s.raise_passFrame v 0).1, by rw [State.raise_reports], fun d _ => .inl (by rw [hc]), fun d hd => (hc d).trans hd,
    s.raise_alertRoom h⟩

/-! ### Releases and the end of a pass (R53, R57, R58) -/

variable {own : ContextNo → Prop}

theorem State.release_passesGoOn {s : State} {c : ContextNo} {x : Context} (hs : s.context c = some x)
    (hx : x.state = .done) : PassesGoOn own s (s.release c x) := by
  have hc : (s.release c x).context c = none := State.context_setContext_self _ _ _
  refine ⟨(State.release_passFrame hs hx c).1, List.prefix_append _ _, fun d _ => ?_, fun d hd => ?_, le_rfl⟩
  · by_cases hd : d = c
    · subst hd
      refine .inr ⟨x, hs, hx, hc, ?_⟩
      show _ ∈ (s.lane.reports ++ [_]).drop s.lane.reports.length
      rw [List.drop_left]
      exact List.mem_singleton_self _
    · exact .inl (by rw [State.release_context_ne s hd])
  · by_cases hdc : d = c
    · exact hdc ▸ hc
    · rw [State.release_context_ne s hdc, hd]

theorem State.stall_passesGoOn (s : State) (c : ContextNo) : PassesGoOn own s (s.stall c) := by
  unfold State.stall
  split
  · exact .refl s
  · exact .trans (t := { s with passes := { s.passes with stalled := s.passes.stalled ++ [c] } })
      ⟨rfl, List.prefix_refl _, fun _ _ => .inl rfl, fun _ hd => hd, le_rfl⟩ (State.raise_passesGoOn _ (.inr rfl))

/-- Releases free only passes that have ended, each with its report (R57). -/
theorem State.releaseHeads_passesGoOn (k : Nat) (z : ZoneNo) (s : State) : PassesGoOn own s (s.releaseHeads k z) := by
  induction k generalizing s with
  | zero => exact .refl s
  | succ k ih =>
    unfold State.releaseHeads
    split
    · exact .refl s
    · split
      · exact .refl s
      · split
        · rename_i x hs hd
          split
          · exact (State.release_passesGoOn hs hd.1).trans (ih _)
          · exact s.stall_passesGoOn _
        · exact .refl s

theorem State.offerClose_passesGoOn (s : State) (z : ZoneNo) (tag : TagNumber) (ok : Bool) :
    PassesGoOn own s (s.offerClose z tag ok) := by
  unfold State.offerClose
  split
  · exact ⟨rfl, List.prefix_refl _, fun _ _ => .inl rfl, fun _ hd => hd, le_rfl⟩
  · exact s.raise_passesGoOn (.inl rfl)

theorem State.handRecent_passesGoOn (s : State) (x : Context) (r : PassResult) :
    PassesGoOn own s (s.handRecent x r) := by
  unfold State.handRecent
  split
  · exact ⟨rfl, List.prefix_refl _, fun _ _ => .inl rfl, fun _ hd => hd, le_rfl⟩
  · exact .refl s

theorem State.endPass_of_free {s : State} {c : ContextNo} (h : s.context c = none) (r : PassResult) :
    s.endPass c r = s := by
  unfold State.endPass
  rw [h]

/-- The end of a pass is work of that pass (R53). -/
theorem State.endPass_passesGoOn (s : State) (c : ContextNo) (r : PassResult) :
    PassesGoOn (· = c) s (s.endPass c r) := by
  cases hx : s.context c with
  | none =>
    rw [State.endPass_of_free hx]
    exact .refl s
  | some x =>
    rw [State.endPass_eq hx]
    have hown : PassesGoOn (· = c) s ((s.setContext c (some (x.concluded r s.clock.laneTime))).withdrawFrames c) :=
      .of_own (State.passFrame_trans (s.setContext_passFrame c _) (State.withdrawFrames_passFrame _ _ _))
        ((OwnChange.setContext s c _).trans (OwnChange.withdrawFrames _ c)).contexts
        (fun h => absurd (hx.symm.trans h) nofun) rfl rfl
    exact (hown.trans (.of_jobsOnly (s.concludes_jobsOnly c x r))).trans <|
      (State.offerClose_passesGoOn _ _ _ _).trans <| (State.handRecent_passesGoOn _ x r).trans <|
      (PassesGoOn.modContext _ c _).trans (State.releaseHeads_passesGoOn _ _ _)

theorem State.endNoWrite_passesGoOn (s : State) (c : ContextNo) : PassesGoOn (· = c) s (s.endNoWrite c) :=
  (PassesGoOn.modContext s c _).trans (State.endPass_passesGoOn _ c _)

theorem State.compose_passesGoOn (s : State) (c : ContextNo) : PassesGoOn (· = c) s (s.compose c) := by
  unfold State.compose
  split
  · exact .refl s
  · rename_i x hx
    split
    · exact s.endNoWrite_passesGoOn c
    · split
      · exact s.endNoWrite_passesGoOn c
      · exact (PassesGoOn.setContext hx _).trans (.of_jobsOnly (State.issueFor_jobsOnly _ _ _ _ _))

theorem State.afterCheck_passesGoOn (s : State) (c : ContextNo) : PassesGoOn (· = c) s (s.afterCheck c) := by
  unfold State.afterCheck
  split
  · exact .refl s
  · split
    · exact s.endPass_passesGoOn c _
    · exact s.compose_passesGoOn c

theorem State.settleCheck_passesGoOn (s : State) (c : ContextNo) (o : RecordCheck) :
    PassesGoOn (· = c) s (s.settleCheck c o) :=
  (PassesGoOn.modContext s c _).trans (State.afterCheck_passesGoOn _ c)

/-! ### What a pass shows, it goes on to show (R53, R57, R59) -/

/-- The pass of context c, whose tag is x's, shows p in its context or q in a report since s: what `shows` says, the tag
named in both cases. -/
def State.showsTag (s t : State) (c : ContextNo) (x : Context) (p : Context → Prop) (q : PassReport → Prop) : Prop :=
  (∃ y, t.context c = some y ∧ y.issuer = x.issuer ∧ y.tagNumber = x.tagNumber ∧ p y) ∨
  (t.context c = none ∧ ∃ r, ReportItem.report r ∈ t.lane.reports.drop s.lane.reports.length ∧
    r.issuer = x.issuer ∧ r.tagNumber = x.tagNumber ∧ q r)

/-- What a context shows as p whatever its current job, its report shows as q. -/
structure Lasting (p : Context → Prop) (q : PassReport → Prop) : Prop where
  apart : ∀ {y z : Context}, y.apart = z.apart → p y → p z
  report : ∀ y : Context, p y → q (y.report (y.result.getD .abandoned))

variable {p : Context → Prop} {q : PassReport → Prop} {s t u : State} {c : ContextNo} {x y : Context}

theorem State.showsTag.shows (h : s.showsTag t c x p q) : s.shows t c x p q :=
  h.imp (fun ⟨y, hy, _, _, hp⟩ => ⟨y, hy, hp⟩) id

/-- From an earlier state on, and by another record of the same tag. -/
theorem State.showsTag.since (h : t.showsTag u c y p q) (hr : s.lane.reports <+: t.lane.reports)
    (hi : y.issuer = x.issuer) (ht : y.tagNumber = x.tagNumber) : s.showsTag u c x p q :=
  h.imp (fun ⟨z, hz, h1, h2, hp⟩ => ⟨z, hz, h1.trans hi, h2.trans ht, hp⟩)
    fun ⟨hn, r, hm, h1, h2, hq⟩ => ⟨hn, r, mem_drop_of_prefix hr hm, h1.trans hi, h2.trans ht, hq⟩

theorem Context.tag_of_apart {x y : Context} (h : x.apart = y.apart) :
    x.issuer = y.issuer ∧ x.tagNumber = y.tagNumber := by
  constructor
  · show x.apart.issuer = y.apart.issuer
    rw [h]
  · show x.apart.tagNumber = y.apart.tagNumber
    rw [h]

theorem State.showsTag.goesOn (h : s.showsTag t c x p q) (hpq : Lasting p q) (hs : s.lane.reports <+: t.lane.reports)
    (k : PassesGoOn own t u) (hc : ¬own c) : s.showsTag u c x p q := by
  rcases h with ⟨y, hy, h1, h2, hp⟩ | ⟨hn, r, hr, h⟩
  · rcases k.stands c hc with hk | ⟨z, hz, -, hn, hr⟩
    · rw [hy] at hk
      obtain ⟨z, hz, hzy⟩ := State.some_of_apart hk
      obtain ⟨hi, ht⟩ := Context.tag_of_apart hzy
      exact .inl ⟨z, hz, hi.trans h1, ht.trans h2, hpq.apart hzy.symm hp⟩
    · obtain rfl := Option.some.inj (hy.symm.trans hz)
      exact .inr ⟨hn, _, mem_drop_of_prefix hs hr, h1, h2, hpq.report y hp⟩
  · exact .inr ⟨k.free c hn, r, mem_drop_of_grown k.reports hr, h⟩

/-- What the end of a pass shows (R53). -/
theorem State.endPass_showsTag (hs : s.context c = some x) {r : PassResult} (hpq : Lasting p q)
    (hp : p (x.finished r s.clock.laneTime)) : s.showsTag (s.endPass c r) c x p q := by
  rcases State.endPass_leaves hs r with ⟨j, hj⟩ | ⟨hn, hr⟩
  · exact .inl ⟨_, hj, rfl, rfl, hpq.apart (y := x.finished r s.clock.laneTime) rfl hp⟩
  · exact .inr ⟨hn, _, hr, rfl, rfl, hpq.report _ hp⟩

/-- The context is in DONE with a result at a tick (R53). -/
def Context.endedWith (r : PassResult) (tick : Tick) (y : Context) : Prop :=
  y.state = .done ∧ y.result = some r ∧ y.doneTick = some tick

/-- The report is that of a pass that ended with a result at a tick (R59). -/
def PassReport.endedWith (r : PassResult) (tick : Tick) (p : PassReport) : Prop :=
  p.result = r ∧ p.doneTick = tick

/-- An end shows in the context and in its report (R59). -/
theorem lasting_ended (r : PassResult) (tick : Tick) : Lasting (Context.endedWith r tick) (PassReport.endedWith r tick) where
  apart {y z} h hy := by
    rw [show z = { z.apart with currentJob := z.currentJob } from rfl, ← h]
    exact hy
  report y hy := by
    obtain ⟨-, hr, ht⟩ := hy
    refine ⟨?_, ?_⟩
    · show y.result.getD _ = r
      rw [hr]
      rfl
    · show y.doneTick.getD 0 = tick
      rw [ht]
      rfl

theorem State.showsTag.ended {r : PassResult} {tick : Tick}
    (h : s.showsTag t c x (Context.endedWith r tick) (PassReport.endedWith r tick)) : t.ended c x r tick :=
  h.imp (fun ⟨y, hy, h1, h2, hd, hr, ht⟩ => ⟨y, hy, hd, hr, ht, h1, h2⟩)
    fun ⟨hn, p, hp, h1, h2, hr, ht⟩ => ⟨hn, p, List.mem_of_mem_drop hp, hr, ht, h1, h2⟩

/-- A settled record check shows in the context and in its report (R59). -/
theorem lasting_recordCheck (o : RecordCheck) :
    Lasting (fun y => y.recordCheck = some o) (fun r => r.recordCheck = some o) where
  apart {y z} h hy := by
    rw [show z = { z.apart with currentJob := z.currentJob } from rfl, ← h]
    exact hy
  report _ hy := hy

end Sys2Proof.Machine
end

section
/-! PROOF. ERASE: the withdrawal of a slot by loss, what it tells the passes, the queue, the cache and the engines, and
the completion of the erase (R31, R33, R55, R93 to R96, R118, R119, R138). -/

namespace Sys2Proof.Machine

variable {s t : State} {n : SlotNo} {c : ContextNo} {x : Context} {j : Job}

/-! ### The owner of a removed job is told (R95, R128) -/

/-- No first part is pending and no request is in hand. -/
def State.noLoad (s : State) : Prop := s.mgmt.twoPart = .idle ∧ s.mgmt.inHand = none

/-- The removal of the job takes its context c on, under R31 or R33. -/
def Job.tells (j : Job) (c : ContextNo) : Prop :=
  j.owner = .context c ∧ (j.kind = .recordCompute ∨ j.kind = .recordVerify)

theorem State.noLoad_of_mgmt (h : s.noLoad) (ht : t.mgmt = s.mgmt) : t.noLoad := by
  unfold State.noLoad
  rw [ht]
  exact h

/-- With nothing pending there is no load to lose. -/
theorem State.failLoad_of_noLoad (h : s.noLoad) (status : Status) : s.failLoad status = s := by
  unfold State.failLoad
  rw [State.discardTwoPart_idle h.1]
  simp [State.finish, h.2]

/-- The part after context c has lost its queued job, before it goes on (R38, R99). -/
def State.jobLeft (s : State) (c : ContextNo) : State :=
  (s.modContext c fun x => { x with currentJob := .idle }).scrubTest

theorem State.jobLeft_jobsOnly (s : State) (c : ContextNo) : JobsOnly s (s.jobLeft c) :=
  (s.setCurrentJob_jobsOnly c _).trans (State.scrubTest_jobsOnly _)

theorem State.jobRemoved_compute (ho : j.owner = .context c) (hk : j.kind = .recordCompute) :
    s.jobRemoved j = (s.jobLeft c).endNoWrite c := by
  unfold State.jobRemoved State.jobLeft
  rw [ho, hk]

theorem State.jobRemoved_verify (ho : j.owner = .context c) (hk : j.kind = .recordVerify) :
    s.jobRemoved j = (s.jobLeft c).settleCheck c .recordKeyUnavailable := by
  unfold State.jobRemoved State.jobLeft
  rw [ho, hk]

/-- Any other removal is work on jobs alone. -/
theorem State.jobRemoved_jobsOnly (hm : s.noLoad) (h : ∀ c, ¬j.tells c) : JobsOnly s (s.jobRemoved j) := by
  unfold State.jobRemoved
  split
  · exact (s.setOutstanding_jobsOnly _).trans (State.scrubTest_jobsOnly _)
  · rw [State.failLoad_of_noLoad hm]
    exact .refl s
  · rename_i c ho
    dsimp only
    split
    · exact absurd ⟨ho, .inl ‹_›⟩ (h c)
    · exact absurd ⟨ho, .inr ‹_›⟩ (h c)
    all_goals exact s.jobLeft_jobsOnly c

/-- The three things that the removal of a job can bring about. -/
theorem State.jobRemoved_cases (hm : s.noLoad) (j : Job) :
    (∃ c, j.tells c ∧ s.jobRemoved j = (s.jobLeft c).endNoWrite c) ∨
    (∃ c, j.tells c ∧ s.jobRemoved j = (s.jobLeft c).settleCheck c .recordKeyUnavailable) ∨
    ((∀ c, ¬j.tells c) ∧ JobsOnly s (s.jobRemoved j)) := by
  by_cases h : ∃ c, j.tells c
  · obtain ⟨c, ho, hk⟩ := h
    rcases hk with hk | hk
    · exact .inl ⟨c, ⟨ho, .inl hk⟩, State.jobRemoved_compute ho hk⟩
    · exact .inr (.inl ⟨c, ⟨ho, .inr hk⟩, State.jobRemoved_verify ho hk⟩)
  · exact .inr (.inr ⟨not_exists.mp h, State.jobRemoved_jobsOnly hm (not_exists.mp h)⟩)

/-- The removal of a job is work of the pass it tells. -/
theorem State.jobRemoved_passesGoOn (hm : s.noLoad) (j : Job) : PassesGoOn j.tells s (s.jobRemoved j) := by
  rcases State.jobRemoved_cases hm j with ⟨c, hj, he⟩ | ⟨c, hj, he⟩ | ⟨-, h⟩
  · rw [he]
    exact (PassesGoOn.of_jobsOnly (s.jobLeft_jobsOnly c)).trans
      ((State.endNoWrite_passesGoOn _ c).mono fun d hd => hd ▸ hj)
  · rw [he]
    exact (PassesGoOn.of_jobsOnly (s.jobLeft_jobsOnly c)).trans
      ((State.settleCheck_passesGoOn _ c _).mono fun d hd => hd ▸ hj)
  · exact .of_jobsOnly h

/-- A FREE context makes nothing of the removal of its job. -/
theorem State.jobRemoved_of_free (hm : s.noLoad) (ho : j.owner = .context c) (hc : s.context c = none) :
    JobsOnly s (s.jobRemoved j) := by
  have hleft : (s.jobLeft c).context c = none := (s.jobLeft_jobsOnly c).context_none hc
  have same : ∀ {d}, j.tells d → d = c := fun ⟨hd, _⟩ => (JobOwner.context.inj (ho.symm.trans hd)).symm
  rcases State.jobRemoved_cases hm j with ⟨d, hj, he⟩ | ⟨d, hj, he⟩ | ⟨-, h⟩
  · rw [he, same hj, State.endNoWrite, State.modContext_of_free hleft, State.endPass_of_free hleft]
    exact s.jobLeft_jobsOnly c
  · rw [he, same hj, State.settleCheck, State.modContext_of_free hleft, State.afterCheck, hleft]
    exact s.jobLeft_jobsOnly c
  · exact h

/-! ### What a context told of a removal shows (R31, R33) -/

/-- The end of a pass without a write, as any later state shows it (R31). -/
theorem State.endNoWrite_showsTag {p : Context → Prop} {q : PassReport → Prop} (hs : s.context c = some x)
    (hpq : Lasting p q)
    (hp : p ({ x with flags := { x.flags with noWriteKey := true }, tripRecord := none }.finished .completeNoWrite
      s.clock.laneTime)) : s.showsTag (s.endNoWrite c) c x p q := by
  have hx : (s.modContext c fun x => { x with flags := { x.flags with noWriteKey := true }, tripRecord := none }).context c =
      some { x with flags := { x.flags with noWriteKey := true }, tripRecord := none } := by
    rw [State.context_modContext, if_pos rfl, hs]
    rfl
  exact (State.endPass_showsTag hx hpq hp).since (List.prefix_refl _) rfl rfl

theorem State.jobRemoved_compute_ends (ho : j.owner = .context c) (hk : j.kind = .recordCompute)
    (hs : s.context c = some x) :
    s.showsTag (s.jobRemoved j) c x
      (Context.endedWith .completeNoWrite s.clock.laneTime) (PassReport.endedWith .completeNoWrite s.clock.laneTime) := by
  have hj := s.jobLeft_jobsOnly c
  obtain ⟨k, hx⟩ := hj.context_some hs
  rw [State.jobRemoved_compute ho hk]
  refine (State.endNoWrite_showsTag hx (lasting_ended .completeNoWrite s.clock.laneTime) ⟨rfl, rfl, ?_⟩).since
    (by rw [hj.lane]) rfl rfl
  show some (s.jobLeft c).clock.laneTime = _
  rw [hj.clock]

/-- A record check that is settled stays so at the composition that follows (R33, R49). -/
theorem State.afterCheck_showsTag {o : RecordCheck} (hs : s.context c = some x) (ho : x.recordCheck = some o) :
    s.showsTag (s.afterCheck c) c x (fun y => y.recordCheck = some o) (fun r => r.recordCheck = some o) := by
  have hpq := lasting_recordCheck o
  unfold State.afterCheck State.compose
  rw [hs]
  dsimp only
  split
  · exact State.endPass_showsTag hs hpq ho
  · split
    · exact State.endNoWrite_showsTag hs hpq ho
    · split
      · exact State.endNoWrite_showsTag hs hpq ho
      · rename_i g _ _ m _
        obtain ⟨k, hk⟩ := (State.issueFor_jobsOnly (s.setContext c _) c .recordCompute (.slot m) _).context_some
          (State.context_setContext_self s c _)
        exact .inl ⟨_, hk, rfl, rfl, ho⟩

theorem State.jobRemoved_verify_settles (ho : j.owner = .context c) (hk : j.kind = .recordVerify)
    (hs : s.context c = some x) :
    s.showsTag (s.jobRemoved j) c x (fun y => y.recordCheck = some .recordKeyUnavailable)
      (fun r => r.recordCheck = some .recordKeyUnavailable) := by
  have hj := s.jobLeft_jobsOnly c
  obtain ⟨k, hx⟩ := hj.context_some hs
  rw [State.jobRemoved_verify ho hk, State.settleCheck, State.modContext_of_some hx]
  exact (State.afterCheck_showsTag (State.context_setContext_self _ _ _) rfl).since (by rw [← hj.lane]; exact List.prefix_refl _)
    rfl rfl

/-! ### All removed jobs (R95) -/

theorem State.foldl_jobRemoved_passesGoOn (l : List Job) (hm : s.noLoad) :
    PassesGoOn (fun c => ∃ j ∈ l, j.tells c) s (l.foldl State.jobRemoved s) := by
  induction l generalizing s with
  | nil => exact .refl s
  | cons j l ih =>
    have hj := State.jobRemoved_passesGoOn hm j
    exact (hj.mono fun c hc => ⟨j, List.mem_cons_self, hc⟩).trans
      ((ih (State.noLoad_of_mgmt hm hj.mgmt)).mono fun c ⟨k, hk, hc⟩ => ⟨k, List.mem_cons_of_mem j hk, hc⟩)

theorem State.foldl_jobRemoved_jobsOnly {l : List Job} (hm : s.noLoad) (h : ∀ j ∈ l, ∀ c, ¬j.tells c) :
    JobsOnly s (l.foldl State.jobRemoved s) := by
  induction l generalizing s with
  | nil => exact .refl s
  | cons j l ih =>
    have hj := State.jobRemoved_jobsOnly hm (h j List.mem_cons_self)
    exact hj.trans (ih (State.noLoad_of_mgmt hm hj.mgmt) fun k hk => h k (List.mem_cons_of_mem j hk))

/-- A context in use whose jobs leave the queue shows at the end what the removal of each of them has it show. -/
theorem State.foldl_jobRemoved_showsTag {p : Context → Prop} {q : PassReport → Prop} (hpq : Lasting p q) {l : List Job}
    (htells : ∀ (u : State) (j : Job) (z : Context), j ∈ l → j.owner = .context c → u.clock = s.clock →
      u.context c = some z → u.showsTag (u.jobRemoved j) c z p q)
    {u : State} (hm : u.noLoad) (hclock : u.clock = s.clock) (hr : s.lane.reports <+: u.lane.reports)
    (h : s.showsTag u c x p q ∨ (∃ z, u.context c = some z ∧ z.apart = x.apart ∧ z.state ≠ .done) ∧
      ∃ j ∈ l, j.owner = .context c) : s.showsTag (l.foldl State.jobRemoved u) c x p q := by
  induction l generalizing u with
  | nil => exact h.resolve_right fun ⟨_, j, hj, _⟩ => absurd hj List.not_mem_nil
  | cons j l ih =>
    have hgo := State.jobRemoved_passesGoOn hm j
    refine ih (fun v k z hk => htells v k z (List.mem_cons_of_mem j hk)) (State.noLoad_of_mgmt hm hgo.mgmt)
      (hgo.clock.trans hclock) (hr.trans hgo.reports) ?_
    by_cases ho : j.owner = .context c
    · refine .inl ?_
      cases hu : u.context c with
      | none =>
        have hshow := h.resolve_right fun ⟨⟨z, hz, _⟩, _⟩ => absurd (hu.symm.trans hz) nofun
        exact hshow.goesOn (own := fun _ => False) hpq hr (.of_jobsOnly (State.jobRemoved_of_free hm ho hu)) id
      | some z =>
        have htag : z.issuer = x.issuer ∧ z.tagNumber = x.tagNumber := by
          rcases h with (⟨y, hy, hi, ht, -⟩ | ⟨hn, -⟩) | ⟨⟨y, hy, ha, -⟩, -⟩
          · obtain rfl := Option.some.inj (hu.symm.trans hy)
            exact ⟨hi, ht⟩
          · cases hu.symm.trans hn
          · obtain rfl := Option.some.inj (hu.symm.trans hy)
            exact Context.tag_of_apart ha
        exact (htells u j z List.mem_cons_self ho hclock hu).since hr htag.1 htag.2
    · have hown : ¬j.tells c := fun hc => ho hc.1
      rcases h with h | ⟨⟨z, hz, ha, hd⟩, k, hk, hkc⟩
      · exact .inl (h.goesOn hpq hr hgo hown)
      · refine .inr ⟨?_, k, (List.mem_cons.mp hk).resolve_left fun he => ho (he ▸ hkc), hkc⟩
        rcases hgo.stands c hown with hs | ⟨y, hy, hdone, -⟩
        · rw [hz] at hs
          obtain ⟨w, hw, hwz⟩ := State.some_of_apart hs
          exact ⟨w, hw, hwz.trans ha, fun hw => hd ((Context.state_of_apart hwz).symm.trans hw)⟩
        · exact absurd (Option.some.inj (hy.symm.trans hz) ▸ hdone) hd

/-! ### The contexts bound to a lost TAG-MASTER slot (R55, R96) -/

/-- The pass of context d ends with the loss of master slot n. -/
def State.masterHit (s : State) (n : SlotNo) (d : ContextNo) : Prop :=
  ∃ x, s.context d = some x ∧ x.boundSlot = some n ∧ x.state.needsMaster = true

theorem State.masterLost_of_hit (hs : s.context c = some x) (hb : x.boundSlot = some n)
    (hx : x.state.needsMaster = true) : s.masterLost n c = s.endPass c .keyWithdrawn := by
  unfold State.masterLost
  rw [hs]
  exact if_pos ⟨hb, hx⟩

theorem State.masterLost_of_not_hit (h : ¬s.masterHit n c) : s.masterLost n c = s := by
  unfold State.masterLost
  split
  · rename_i x hx
    exact if_neg fun ⟨hb, hn⟩ => h ⟨x, hx, hb, hn⟩
  · rfl

theorem State.masterLost_passesGoOn (s : State) (n : SlotNo) (c : ContextNo) :
    PassesGoOn (fun d => d = c ∧ s.masterHit n d) s (s.masterLost n c) := by
  by_cases h : s.masterHit n c
  · obtain ⟨x, hs, hb, hx⟩ := id h
    rw [State.masterLost_of_hit hs hb hx]
    exact (s.endPass_passesGoOn c _).mono fun d hd => ⟨hd, hd ▸ h⟩
  · rw [State.masterLost_of_not_hit h]
    exact .refl s

/-- A pass that stands is not newly hit. -/
theorem State.masterHit_of_stands {d : ContextNo} (h : s.standsOn t d) (ht : t.masterHit n d) : s.masterHit n d := by
  obtain ⟨y, hy, hb, hn⟩ := ht
  rcases h with h | ⟨-, -, -, hnone, -⟩
  · rw [hy] at h
    obtain ⟨x, hx, hxy⟩ := Option.map_eq_some_iff.mp h.symm
    have hbound : x.apart.boundSlot = y.apart.boundSlot := by rw [hxy]
    exact ⟨x, hx, hbound.trans hb, by rw [Context.state_of_apart hxy]; exact hn⟩
  · cases hy.symm.trans hnone

theorem State.masterLost_hit {d : ContextNo} (h : (s.masterLost n c).masterHit n d) : s.masterHit n d ∧ d ≠ c := by
  have hne : d ≠ c := by
    rintro rfl
    by_cases hd : s.masterHit n d
    · obtain ⟨x, hs, hb, hx⟩ := hd
      rw [State.masterLost_of_hit hs hb hx] at h
      obtain ⟨y, hy, -, hn⟩ := h
      rcases State.endPass_ended hs .keyWithdrawn with ⟨z, hz, hdone, -⟩ | ⟨hnone, -⟩
      · obtain rfl := Option.some.inj (hy.symm.trans hz)
        rw [hdone] at hn
        cases hn
      · cases hy.symm.trans hnone
    · exact hd (by rwa [State.masterLost_of_not_hit hd] at h)
  exact ⟨State.masterHit_of_stands ((s.masterLost_passesGoOn n c).stands d fun hd => hne hd.1) h, hne⟩

theorem State.foldl_masterLost_hit {d : ContextNo} {l : List ContextNo}
    (h : (l.foldl (fun s c => s.masterLost n c) s).masterHit n d) : s.masterHit n d ∧ d ∉ l := by
  induction l generalizing s with
  | nil => exact ⟨h, List.not_mem_nil⟩
  | cons c l ih =>
    obtain ⟨h1, h2⟩ := ih h
    obtain ⟨h3, h4⟩ := State.masterLost_hit h1
    exact ⟨h3, fun hd => (List.mem_cons.mp hd).elim h4 h2⟩

theorem State.foldl_masterLost_passesGoOn (s : State) (n : SlotNo) (l : List ContextNo) :
    PassesGoOn (s.masterHit n) s (l.foldl (fun s c => s.masterLost n c) s) := by
  induction l generalizing s with
  | nil => exact .refl s
  | cons c l ih =>
    exact ((s.masterLost_passesGoOn n c).mono fun d hd => hd.2).trans
      ((ih (s.masterLost n c)).mono fun d hd => (State.masterLost_hit hd).1)

/-- Each pass hit ends KEY-WITHDRAWN (R55). -/
theorem State.foldl_masterLost_ends {l : List ContextNo} (hc : c ∈ l) (hs : s.context c = some x)
    (hb : x.boundSlot = some n) (hx : x.state.needsMaster = true) :
    s.showsTag (l.foldl (fun s c => s.masterLost n c) s) c x
      (Context.endedWith .keyWithdrawn s.clock.laneTime) (PassReport.endedWith .keyWithdrawn s.clock.laneTime) := by
  induction l generalizing s x with
  | nil => exact absurd hc List.not_mem_nil
  | cons d l ih =>
    have hpq := lasting_ended .keyWithdrawn s.clock.laneTime
    have hgo := s.masterLost_passesGoOn n d
    by_cases hd : c = d
    · subst hd
      have hshow : s.showsTag (s.masterLost n c) c x (Context.endedWith .keyWithdrawn s.clock.laneTime)
          (PassReport.endedWith .keyWithdrawn s.clock.laneTime) := by
        rw [State.masterLost_of_hit hs hb hx]
        exact State.endPass_showsTag hs hpq ⟨rfl, rfl, rfl⟩
      exact hshow.goesOn hpq hgo.reports (State.foldl_masterLost_passesGoOn _ n l) fun h => (State.masterLost_hit h).2 rfl
    · rcases hgo.stands c fun h => hd h.1 with hst | ⟨y, hy, hdone, -⟩
      · rw [hs] at hst
        obtain ⟨z, hz, hzx⟩ := State.some_of_apart hst
        have hbound : z.apart.boundSlot = x.apart.boundSlot := by rw [hzx]
        obtain ⟨hi, ht⟩ := Context.tag_of_apart hzx
        have hend := ih ((List.mem_cons.mp hc).resolve_left hd) hz (hbound.trans hb)
          (by rw [Context.state_of_apart hzx]; exact hx)
        rw [hgo.clock] at hend
        exact hend.since hgo.reports hi ht
      · obtain rfl := Option.some.inj (hy.symm.trans hs)
        rw [hdone] at hx
        cases hx

end Sys2Proof.Machine
end

section
/-! PROOF. ERASE, continued: the withdrawal of a slot by loss as a whole, the request and the completion of the erase (R91,
R93 to R96, R118, R119, R138). -/

namespace Sys2Proof.Machine

variable {s t : State} {n : SlotNo} {c : ContextNo} {x : Slot} {j : Job} {P : Job → Prop}

/-! ### Engines and queue while owners are told (R95) -/

theorem PassesGoOn.allowsScrubs {own : ContextNo → Prop} (h : PassesGoOn own s t) (hs : s.allowsScrubs P) :
    t.allowsScrubs P := State.allowsScrubs_of_slots hs h.slots

theorem PassesGoOn.allowsCodes {own : ContextNo → Prop} (h : PassesGoOn own s t) (hc : s.allowsCodes P) :
    t.allowsCodes P := fun g n c input hg hn =>
  hc g n c input (h.writeGen ▸ hg) (State.findSlot_of_slots h.slots _ _ _ ▸ hn)

theorem State.jobLeft_goesOn (hs : s.allowsScrubs P) (c : ContextNo) : JobsGoOn P s (s.jobLeft c) :=
  .after (State.scrubTest_goesOn (s := s.modContext c _) hs) rfl

theorem State.jobRemoved_goesOn (hm : s.noLoad) (hs : s.allowsScrubs P) (hc : s.allowsCodes P) (j : Job) :
    JobsGoOn P s (s.jobRemoved j) := by
  have hleft : ∀ c, PassesGoOn (fun _ => False) s (s.jobLeft c) := fun c => .of_jobsOnly (s.jobLeft_jobsOnly c)
  unfold State.jobRemoved
  split
  · exact .after (State.scrubTest_goesOn (s := s.setOutstanding none) hs) rfl
  · rw [State.failLoad_of_noLoad hm]
    exact .refl s
  · rename_i c _
    have hjob := State.jobLeft_goesOn hs c
    dsimp only
    split
    · exact hjob.trans (State.endNoWrite_goesOn ((hleft c).allowsScrubs hs) c)
    · exact hjob.trans (State.settleCheck_goesOn ((hleft c).allowsScrubs hs) ((hleft c).allowsCodes hc) c _)
    all_goals exact hjob

theorem State.foldl_jobRemoved_goesOn (hm : s.noLoad) (hs : s.allowsScrubs P) (hc : s.allowsCodes P) (l : List Job) :
    JobsGoOn P s (l.foldl State.jobRemoved s) := by
  induction l generalizing s with
  | nil => exact .refl s
  | cons j l ih =>
    have hj := State.jobRemoved_passesGoOn hm j
    exact (State.jobRemoved_goesOn hm hs hc j).trans
      (ih (State.noLoad_of_mgmt hm hj.mgmt) (hj.allowsScrubs hs) (hj.allowsCodes hc))

theorem State.masterLost_goesOn (hs : s.allowsScrubs P) (n : SlotNo) (c : ContextNo) :
    JobsGoOn P s (s.masterLost n c) := by
  unfold State.masterLost
  split
  · split
    · exact State.endPass_goesOn hs c _
    · exact .refl s
  · exact .refl s

theorem State.foldl_masterLost_goesOn (hs : s.allowsScrubs P) (n : SlotNo) (l : List ContextNo) :
    JobsGoOn P s (l.foldl (fun s c => s.masterLost n c) s) := by
  induction l generalizing s with
  | nil => exact .refl s
  | cons c l ih =>
    exact (State.masterLost_goesOn hs n c).trans (ih ((s.masterLost_passesGoOn n c).allowsScrubs hs))

/-! ### A closed engine while no job is queued -/

/-- Engine e is closed and holds no mark, and no context waits for a queued job. -/
def State.quiet (s : State) (e : EngineNo) : Prop :=
  s.engine e = Engine.closed ∧ ∀ c x, s.context c = some x → x.jobQueued = false

theorem Context.jobQueued_of {x y : Context} (h : x.currentJob = y.currentJob) : x.jobQueued = y.jobQueued := by
  unfold Context.jobQueued
  rw [h]

/-- An update that leaves the engines, and no context with a job it had not. -/
theorem State.quiet_of {e : EngineNo} (h : s.quiet e) (he : t.cipher = s.cipher)
    (hc : ∀ c x, t.context c = some x → ∃ y, s.context c = some y ∧ x.currentJob = y.currentJob) : t.quiet e := by
  refine ⟨?_, fun c x hx => ?_⟩
  · unfold State.engine
    rw [he]
    exact h.1
  · obtain ⟨y, hy, hj⟩ := hc c x hx
    rw [Context.jobQueued_of hj]
    exact h.2 c y hy

theorem State.release_quiet {e : EngineNo} (h : s.quiet e) (c : ContextNo) (x : Context) : (s.release c x).quiet e := by
  refine ⟨?_, fun d y hy => ?_⟩
  · refine (State.engine_tellEngines s (Engine.atRelease c) e).trans ?_
    rw [h.1]
    rfl
  · by_cases hd : d = c
    · subst hd
      cases hy.symm.trans (State.context_setContext_self _ d none)
    · rw [State.release_context_ne s hd] at hy
      exact h.2 d y hy

theorem State.releaseHeads_quiet {e : EngineNo} (k : Nat) (z : ZoneNo) (h : s.quiet e) : (s.releaseHeads k z).quiet e := by
  induction k generalizing s with
  | zero => exact h
  | succ k ih =>
    unfold State.releaseHeads
    split
    · exact h
    · split
      · exact h
      · split
        · split
          · exact ih (State.release_quiet h _ _)
          · exact State.quiet_of h (s.stall_cipher _) fun d y hy => ⟨y, by rwa [State.stall_context] at hy, rfl⟩
        · exact h

/-- The end of a pass that waits for no job issues none (R53). -/
theorem State.endPass_quiet {e : EngineNo} (h : s.quiet e) (c : ContextNo) (r : PassResult) : (s.endPass c r).quiet e := by
  cases hx : s.context c with
  | none =>
    rw [State.endPass_of_free hx]
    exact h
  | some x =>
    have hcon : s.concludes c x r = (s.setContext c (some (x.concluded r s.clock.laneTime))).withdrawFrames c := by
      unfold State.concludes
      rw [h.2 c x hx]
      rfl
    rw [State.endPass_eq hx]
    refine State.releaseHeads_quiet _ _ (State.quiet_of h ?_ fun d y hy => ?_)
    · exact (State.handRecent_cipher _ _ _).trans ((State.offerClose_cipher _ _ _ _).trans (by rw [hcon]; rfl))
    · simp only [State.context_modContext, State.handRecent_context, State.offerClose_context, hcon] at hy
      have hown : OwnChange s ((s.setContext c (some (x.concluded r s.clock.laneTime))).withdrawFrames c) c :=
        (OwnChange.setContext s c _).trans (OwnChange.withdrawFrames _ c)
      by_cases hd : d = c
      · subst hd
        rw [if_pos rfl, show ((s.setContext d _).withdrawFrames d).context d = _ from State.context_setContext_self s d _] at hy
        exact ⟨x, hx, by rw [← Option.some.inj hy]; rfl⟩
      · rw [if_neg hd, hown.contexts d hd] at hy
        exact ⟨y, hy, rfl⟩

theorem State.foldl_masterLost_quiet {e : EngineNo} (h : s.quiet e) (n : SlotNo) (l : List ContextNo) :
    (l.foldl (fun s c => s.masterLost n c) s).quiet e := by
  induction l generalizing s with
  | nil => exact h
  | cons c l ih =>
    refine ih (?_ : (s.masterLost n c).quiet e)
    by_cases hc : s.masterHit n c
    · obtain ⟨y, hs, hb, hy⟩ := hc
      rw [State.masterLost_of_hit hs hb hy]
      exact State.endPass_quiet h c _
    · rwa [State.masterLost_of_not_hit hc]

/-! ### The first notices of a withdrawal by loss: write generation, cache, engines, queue (R91, R94, R95, R138) -/

/-- The part once these have been told. -/
def State.lossBegun (s : State) (n : SlotNo) (x : Slot) : State :=
  (((s.clearWriteGenOf x).dropCacheOf x).tellEngines (Engine.atLoss n)).removeJobs n

/-- With the key-change indicator set already, a withdrawal touches no other part of the key store. -/
theorem State.clearWriteGenOf_eq (h : s.keys.keyChange = true) (x : Slot) : s.clearWriteGenOf x = { s with
    keys := { s.keys with
      writeGen := if x.role = some .record ∧ s.keys.writeGen = some x.generation then none else s.keys.writeGen } } := by
  unfold State.clearWriteGenOf State.setWriteGen
  split
  · rename_i hx
    rw [if_neg (by rw [hx.2]; nofun)]
    simp only [h]
  · rfl

theorem State.dropCacheOf_eq (s : State) (x : Slot) : s.dropCacheOf x = { s with
    cache := if x.role = some .tagMaster then
      s.cache.filter fun y => !(y.issuer == x.issuer && y.generation == x.generation) else s.cache } := by
  unfold State.dropCacheOf
  split <;> rfl

theorem State.lossBegun_eq (h : s.keys.keyChange = true) (n : SlotNo) (x : Slot) : s.lossBegun n x = { s with
    keys := { s.keys with
      writeGen := if x.role = some .record ∧ s.keys.writeGen = some x.generation then none else s.keys.writeGen }
    cache := if x.role = some .tagMaster then
      s.cache.filter fun y => !(y.issuer == x.issuer && y.generation == x.generation) else s.cache
    cipher := { s.cipher with
      engines := tableMap (fun _ y => y.atLoss n) s.cipher.engines
      queue := s.cipher.queue.filter fun j => !j.names n } } := by
  unfold State.lossBegun
  rw [State.dropCacheOf_eq, State.clearWriteGenOf_eq h]
  rfl

theorem State.lossBegun_engine (h : s.keys.keyChange = true) (n : SlotNo) (x : Slot) (e : EngineNo) :
    (s.lossBegun n x).engine e = (s.engine e).atLoss n := by
  rw [State.lossBegun_eq h]
  exact State.engine_tellEngines s _ e

theorem State.lossBegun_context (h : s.keys.keyChange = true) (n : SlotNo) (x : Slot) (c : ContextNo) :
    (s.lossBegun n x).context c = s.context c := by
  rw [State.lossBegun_eq h]
  rfl

theorem Job.names_iff : j.names n = true ↔ j.key = .slot n := beq_iff_eq

/-! ### The withdrawal as a whole (R93) -/

/-- The job is not under slot n. -/
def Job.elsewhere (n : SlotNo) (j : Job) : Prop := j.key ≠ .slot n

/-- The removed jobs' owners have been told. -/
def State.lossHeard (s : State) (n : SlotNo) (x : Slot) : State :=
  (s.cipher.queue.filter (Job.names n)).foldl State.jobRemoved (s.lossBegun n x)

theorem State.withdrawLoss_eq (s : State) (n : SlotNo) (x : Slot) : s.withdrawLoss n x =
    if x.role = some .tagMaster then allContexts.foldl (fun s c => s.masterLost n c) (s.lossHeard n x)
    else s.lossHeard n x := rfl

/-- The part when slot n, which stood as x, has just lost its material, nothing else being pending. -/
structure State.loses (s : State) (n : SlotNo) (x : Slot) : Prop where
  noLoad : s.noLoad
  keyChange : s.keys.keyChange = true
  material : (s.slot n).holdsMaterial = false
  role : (s.slot n).role = x.role
  generation : (s.slot n).generation = x.generation

theorem State.lossBegun_noLoad (h : s.loses n x) : (s.lossBegun n x).noLoad := by
  rw [State.lossBegun_eq h.keyChange]
  exact h.noLoad

theorem State.lossBegun_allowsScrubs (h : s.loses n x) : (s.lossBegun n x).allowsScrubs (Job.elsewhere n) := by
  rw [State.lossBegun_eq h.keyChange]
  rintro m forced hm hkey
  obtain rfl : m = n := KeyId.slot.inj hkey
  exact Bool.false_ne_true (h.material.symm.trans hm)

/-- A slot found for a role and a generation has them. -/
theorem State.findSlot_spec {role : Role} {issuer : Issuer} {g : Generation} {m : SlotNo}
    (h : s.findSlot role issuer g = some m) : (s.slot m).role = some role ∧ (s.slot m).generation = g := by
  have hm := List.find?_some h
  simp only [Bool.and_eq_true, beq_iff_eq] at hm
  exact ⟨hm.1.1.2, hm.2⟩

theorem State.lossBegun_allowsCodes (h : s.loses n x) : (s.lossBegun n x).allowsCodes (Job.elsewhere n) := by
  rw [State.lossBegun_eq h.keyChange]
  rintro g m c input hg hm hkey
  obtain rfl : m = n := KeyId.slot.inj hkey
  obtain ⟨hrole, hgen⟩ := State.findSlot_spec hm
  have hrole : x.role = some .record := h.role.symm.trans hrole
  have hgen : x.generation = g := h.generation.symm.trans hgen
  dsimp only at hg
  split at hg
  · cases hg
  · rename_i hne
    exact hne ⟨hrole, hgen ▸ hg⟩

theorem State.lossHeard_passesGoOn (h : s.loses n x) :
    PassesGoOn (fun c => ∃ j ∈ s.cipher.queue, j.key = .slot n ∧ j.tells c) (s.lossBegun n x) (s.lossHeard n x) :=
  (State.foldl_jobRemoved_passesGoOn _ (State.lossBegun_noLoad h)).mono fun _ ⟨j, hj, hc⟩ =>
    ⟨j, List.mem_of_mem_filter hj, Job.names_iff.mp (List.mem_filter.mp hj).2, hc⟩

/-- A withdrawal by loss is work of the passes whose record-code jobs leave the queue and of those bound to the slot. -/
theorem State.withdrawLoss_passesGoOn (h : s.loses n x) :
    PassesGoOn (fun c => (∃ j ∈ s.cipher.queue, j.key = .slot n ∧ j.tells c) ∨
      (x.role = some .tagMaster ∧ s.masterHit n c)) (s.lossBegun n x) (s.withdrawLoss n x) := by
  have hheard := State.lossHeard_passesGoOn h
  rw [State.withdrawLoss_eq]
  split
  · rename_i hx
    refine (hheard.mono fun _ hc => .inl hc).trans ((State.foldl_masterLost_passesGoOn _ n _).mono fun c hc => ?_)
    by_cases ht : ∃ j ∈ s.cipher.queue, j.key = .slot n ∧ j.tells c
    · exact .inl ht
    · obtain ⟨y, hy, hb⟩ := State.masterHit_of_stands (hheard.stands c ht) hc
      exact .inr ⟨hx, y, by rwa [State.lossBegun_context h.keyChange] at hy, hb⟩
  · exact hheard.mono fun _ hc => .inl hc

theorem State.withdrawLoss_goesOn (h : s.loses n x) :
    JobsGoOn (Job.elsewhere n) (s.lossBegun n x) (s.withdrawLoss n x) := by
  have hs := State.lossBegun_allowsScrubs h
  have hheard : JobsGoOn (Job.elsewhere n) (s.lossBegun n x) (s.lossHeard n x) :=
    State.foldl_jobRemoved_goesOn (State.lossBegun_noLoad h) hs (State.lossBegun_allowsCodes h) _
  rw [State.withdrawLoss_eq]
  split
  · exact hheard.trans (State.foldl_masterLost_goesOn ((State.lossHeard_passesGoOn h).allowsScrubs hs) n _)
  · exact hheard

/-- No queued job names the slot afterwards (R95). -/
theorem State.withdrawLoss_queue (h : s.loses n x) : ∀ k ∈ (s.withdrawLoss n x).cipher.queue, k.key ≠ .slot n := by
  intro k hk
  refine ((State.withdrawLoss_goesOn h).queue k hk).elim (fun hq => ?_) id
  rw [State.lossBegun_eq h.keyChange] at hq
  have hn := (List.mem_filter.mp hq).2
  exact fun he => by rw [Job.names_iff.mpr he] at hn; cases hn

/-- What the withdrawal makes of an engine (R138). -/
theorem State.withdrawLoss_afterLoss (h : s.loses n x) (e : EngineNo) :
    (s.engine e).afterLoss n ((s.withdrawLoss n x).engine e) := by
  have hgo := (State.withdrawLoss_goesOn h).engines e
  rw [State.lossBegun_engine h.keyChange] at hgo
  unfold Engine.afterLoss
  cases he : (s.engine e).state with
  | closedIdle => trivial
  | openIdle k r =>
    rintro rfl
    have hat : (s.engine e).atLoss n = Engine.closed := by simp [Engine.atLoss, he]
    rw [hat] at hgo
    exact hgo.closed rfl
  | opening r j =>
    by_cases hj : j.key = .slot n
    · have hat : (s.engine e).atLoss n = { s.engine e with loss := true } := by simp [Engine.atLoss, he, hj]
      rw [hat] at hgo
      obtain ⟨hstate, hloss, -⟩ := hgo.held (by simp [Engine.isIdle, he])
      exact ⟨hstate.trans he, fun _ => hloss⟩
    · have hat : (s.engine e).atLoss n = s.engine e := by simp [Engine.atLoss, he, hj]
      rw [hat] at hgo
      exact ⟨(hgo.held (by simp [Engine.isIdle, he])).1.trans he, fun hk => absurd hk hj⟩
  | busy r j =>
    dsimp only
    split
    · rename_i hj
      have hat : (s.engine e).atLoss n = { s.engine e with state := .busy r { j with discard := true }, closeAtEnd := true } := by
        simp [Engine.atLoss, he, hj]
      rw [hat] at hgo
      obtain ⟨hstate, -, hclose⟩ := hgo.held rfl
      exact ⟨hstate, hclose rfl⟩
    · rename_i hj
      have hat : (s.engine e).atLoss n = s.engine e := by simp [Engine.atLoss, he, hj]
      rw [hat] at hgo
      exact (hgo.held (by simp [Engine.isIdle, he])).1.trans he

/-- No pass stays in a state that needs the lost TAG-MASTER slot (R55). -/
theorem State.withdrawLoss_masters (hx : x.role = some .tagMaster) {y : Context}
    (hy : (s.withdrawLoss n x).context c = some y) (hb : y.boundSlot = some n) :
    y.state = .writing ∨ y.state = .confirming ∨ y.state = .done := by
  rw [State.withdrawLoss_eq, if_pos hx] at hy
  have hn : ¬y.state.needsMaster = true := fun hn =>
    (State.foldl_masterLost_hit (d := c) ⟨y, hy, hb, hn⟩).2 (List.mem_finRange c)
  cases hs : y.state <;> simp_all [PassState.needsMaster]

/-- With no job queued, an engine idle under the slot is closed and stays so. -/
theorem State.withdrawLoss_closed (h : s.loses n x) (hq : s.cipher.queue = [])
    (hc : ∀ c y, s.context c = some y → y.jobQueued = false) {e : EngineNo}
    (he : (s.engine e).openIdleUnder (.slot n) = true) : (s.withdrawLoss n x).engine e = Engine.closed := by
  have hat : (s.engine e).atLoss n = Engine.closed := by
    unfold Engine.atLoss
    cases hs : (s.engine e).state <;> simp_all [Engine.openIdleUnder, Engine.isIdle, Engine.key?]
  have hquiet : (s.lossHeard n x).quiet e := by
    unfold State.lossHeard
    rw [hq]
    exact ⟨(State.lossBegun_engine h.keyChange n x e).trans hat, fun c y hy =>
      hc c y (by rwa [List.filter_nil, List.foldl_nil, State.lossBegun_context h.keyChange] at hy)⟩
  rw [State.withdrawLoss_eq]
  split
  · exact (State.foldl_masterLost_quiet hquiet n _).1
  · exact hquiet.1

/-! ### What the withdrawal tells the passes (R31, R33, R55) -/

theorem PassState.needsMaster_iff {st : PassState} :
    st.needsMaster = true ↔ st = .keying ∨ st = .challenging ∨ st = .checking := by
  cases st <;> simp [PassState.needsMaster]

/-- Where no record-code job leaves the queue, each pass bound to the TAG-MASTER slot has ended KEY-WITHDRAWN (R55). -/
theorem State.withdrawLoss_ends (h : s.loses n x) (hx : x.role = some .tagMaster) {y : Context}
    (hy : s.context c = some y) (hb : y.boundSlot = some n) (hst : y.state.needsMaster = true)
    (hk : ∀ k ∈ s.cipher.queue, k.key = .slot n → k.kind ≠ .recordCompute ∧ k.kind ≠ .recordVerify) :
    (s.withdrawLoss n x).ended c y .keyWithdrawn s.clock.laneTime := by
  have hheard : JobsOnly (s.lossBegun n x) (s.lossHeard n x) :=
    State.foldl_jobRemoved_jobsOnly (State.lossBegun_noLoad h) fun j hj d hd => by
      obtain ⟨h1, h2⟩ := hk j (List.mem_of_mem_filter hj) (Job.names_iff.mp (List.mem_filter.mp hj).2)
      exact hd.2.elim h1 h2
  obtain ⟨k, hyk⟩ := hheard.context_some ((State.lossBegun_context h.keyChange n x c).trans hy)
  have hend := State.foldl_masterLost_ends (List.mem_finRange c) hyk hb hst
  rw [hheard.clock, show (s.lossBegun n x).clock = s.clock by rw [State.lossBegun_eq h.keyChange]] at hend
  rw [State.withdrawLoss_eq, if_pos hx]
  exact (hend.since (s := s.lossHeard n x) (x := y) (List.prefix_refl _) rfl rfl).ended

/-- A pass whose record-code jobs leave the queue, all of one kind, shows what their removal brings (R31, R33). -/
theorem State.withdrawLoss_shows (h : s.loses n x) (hx : x.role = some .record) {y : Context}
    (hy : s.context c = some y) (hst : y.state ≠ .done) {p : Context → Prop} {q : PassReport → Prop} (hpq : Lasting p q)
    (hjob : ∃ k ∈ s.cipher.queue, k.key = .slot n ∧ k.owner = .context c)
    (htells : ∀ (u : State) (j : Job) (z : Context), j ∈ s.cipher.queue → j.key = .slot n → j.owner = .context c →
      u.clock = s.clock → u.context c = some z → u.showsTag (u.jobRemoved j) c z p q) :
    s.showsTag (s.withdrawLoss n x) c y p q := by
  rw [State.withdrawLoss_eq, if_neg (by rw [hx]; nofun)]
  have hclock : (s.lossBegun n x).clock = s.clock := by rw [State.lossBegun_eq h.keyChange]
  obtain ⟨k, hk, hkey, ho⟩ := hjob
  refine State.foldl_jobRemoved_showsTag hpq (fun u j z hj => ?_) (State.lossBegun_noLoad h) hclock
    (by rw [State.lossBegun_eq h.keyChange]) (.inr ⟨⟨y, (State.lossBegun_context h.keyChange n x c).trans hy, rfl, hst⟩,
      k, List.mem_filter.mpr ⟨hk, Job.names_iff.mpr hkey⟩, ho⟩)
  exact htells u j z (List.mem_of_mem_filter hj) (Job.names_iff.mp (List.mem_filter.mp hj).2)

/-- What a withdrawal by loss tells the rest of the part (R93 to R96). -/
theorem State.withdrawLoss_lossTold (h : s.loses n x) : s.lossTold (s.withdrawLoss n x) n x := by
  have hgo := State.withdrawLoss_passesGoOn h
  refine ⟨?_, ?_, State.withdrawLoss_queue h, fun c y hy => ⟨fun hx hb hst hk => ?_, fun hn hd hk => ?_,
    fun kind hx hst hjob hall => ⟨?_, ?_⟩⟩⟩
  · rw [hgo.writeGen, State.lossBegun_eq h.keyChange]
  · rw [hgo.cache, State.lossBegun_eq h.keyChange]
  · exact State.withdrawLoss_ends h hx hy hb (PassState.needsMaster_iff.mpr hst) hk
  · have hown : ¬((∃ j ∈ s.cipher.queue, j.key = .slot n ∧ j.tells c) ∨ (x.role = some .tagMaster ∧ s.masterHit n c)) := by
      rintro (⟨j, hj, hkey, ho, -⟩ | ⟨hx, z, hz, hb, hm⟩)
      · exact hk j hj hkey ho
      · obtain rfl := Option.some.inj (hy.symm.trans hz)
        exact hn ⟨hx, hb, PassState.needsMaster_iff.mp hm⟩
    have hcontext := (State.lossBegun_context h.keyChange n x c).trans hy
    rcases hgo.stands c hown with hst | ⟨z, hz, hdone, -⟩
    · rw [hst, hcontext]
      rfl
    · exact absurd (Option.some.inj (hz.symm.trans hcontext) ▸ hdone) hd
  · rintro rfl
    refine (State.withdrawLoss_shows h hx hy (by rw [hst]; decide) (lasting_ended .completeNoWrite s.clock.laneTime)
      hjob fun u j z hj hkey ho hu hz => ?_).ended
    rw [← hu]
    exact State.jobRemoved_compute_ends ho (hall j hj hkey ho) hz
  · rintro rfl
    exact (State.withdrawLoss_shows h hx hy (by rw [hst]; decide) (lasting_recordCheck .recordKeyUnavailable)
      hjob fun u j z hj hkey ho _ hz => State.jobRemoved_verify_settles ho (hall j hj hkey ho) hz).shows

end Sys2Proof.Machine
end

section
/-! PROOF. ERASE, continued: the request and the completion of the erase (R118, R119). -/

namespace Sys2Proof.Machine

variable {s : State} {n : SlotNo} {q : Request} {rest : List Request}

theorem State.slotHeld_iff (s : State) (n : SlotNo) :
    s.slotHeld n = true ↔ ∃ e, (s.engine e).key? = some (.slot n) := by
  simp [State.slotHeld, allEngines]

theorem State.slotHeld_eq_false (h : ∀ e, (s.engine e).key? ≠ some (.slot n)) : s.slotHeld n = false :=
  Bool.eq_false_iff.mpr fun hh => let ⟨e, he⟩ := (s.slotHeld_iff n).mp hh; h e he

/-! ### The slot named (R118) -/

theorem slotOf_eq_none {b : Byte} (h : 127 < b.toNat) : slotOf b = none :=
  dif_neg (by omega)

theorem slotOf_eq_some {b : Byte} (h : b.toNat = n.val) : slotOf b = some n := by
  unfold slotOf
  rw [dif_pos (by omega)]
  exact congrArg some (Fin.ext h)

theorem slotByte_eq {b : Byte} (h : b.toNat = n.val) : slotByte n = b := by
  unfold slotByte
  rw [← h, BitVec.ofNat_toNat, BitVec.setWidth_eq]

/-! ### The request (R118) -/

theorem State.exec_erase (ht : s.takes q rest) (hu : s.unhindered) (hc : q.code = 0x17#8) :
    exec .erase s = .next (judgeErase q (s.left rest)) :=
  congrArg Host.Outcome.next (State.takeRequest_of_takes ht hc hu.1 hu.2 judgeErase)

/-- A refusal answers and changes nothing (R166). -/
theorem State.respond_refusal (ht : s.takes q rest) {st : Status} (hst : st.carriesData = false) :
    (s.left rest).respond q st = (s.left rest).answered q st [] := by
  rw [State.respond_of_room (s := s.left rest) ht.2.2.2.2, if_neg (by rw [hst]; decide)]

/-- The part after the withdrawal of slot n, its erase pending, whose request has left the queue (R118). -/
def State.erasing (s : State) (rest : List Request) (n : SlotNo) : State :=
  ((s.left rest).changeSlot n { s.slot n with erasePending := true }).withdrawLoss n (s.slot n)

theorem judgeErase_of_full (hb : slotOf (byteAt q.params 0) = some n) (he : (s.slot n).state ≠ .empty)
    (hl : n ≠ 0 ∨ s.keys.rootLock = false) : judgeErase q (s.left rest) =
      if (s.erasing rest n).slotHeld n then (s.erasing rest n).takeInHand q (.erase n)
      else ((s.erasing rest n).emptySlot n).respond q .ok [slotByte n] := by
  have hlock : ¬(n = 0 ∧ (s.left rest).keys.rootLock = true) := by
    rintro ⟨hn, hr⟩
    rcases hl with hl | hl
    · exact hl hn
    · exact Bool.false_ne_true (hl.symm.trans hr)
  unfold judgeErase
  rw [hb]
  dsimp only
  rw [if_neg (show ¬((s.left rest).slot n).state = .empty from he), if_neg hlock]
  rfl

theorem State.erasing_loses (ht : s.takes q rest) (hu : s.unhindered) (n : SlotNo) :
    ((s.left rest).changeSlot n { s.slot n with erasePending := true }).loses n (s.slot n) where
  noLoad := ⟨hu.1, ht.2.1⟩
  keyChange := rfl
  material := by rw [State.slot_changeSlot_self]; rfl
  role := by rw [State.slot_changeSlot_self]
  generation := by rw [State.slot_changeSlot_self]

/-- How the request ends: the erase holds the unit, or is answered at once and the slot is EMPTY (R118, R119). -/
theorem State.erase_ends {t : State} (hk : t.keys.keyChange = true) (q : Request) (n : SlotNo) :
    ∃ slots responses mgmt,
      (if t.slotHeld n then t.takeInHand q (.erase n) else (t.emptySlot n).respond q .ok [slotByte n]) =
        { t with
          keys := { t.keys with slots }
          lane := { t.lane with responses }
          mgmt } ∧
      (∀ m, m ≠ n → tableGet slots m = t.slot m) ∧
      (((∃ e, (t.engine e).key? = some (.slot n)) ∧ tableGet slots n = t.slot n ∧
          mgmt = { t.mgmt with inHand := some { tag := q.tag, code := q.code, work := .erase n } }) ∨
        ((∀ e, (t.engine e).key? ≠ some (.slot n)) ∧ tableGet slots n = Slot.empty ∧
          mgmt = { t.mgmt with held := mgmt.held } ∧
          (t.lane.responses.length < 8 → mgmt.held = t.mgmt.held ∧ responses.getLast? =
            some (.response { tag := q.tag, code := q.code, status := .ok, attention := t.events.flags != 0,
                              keyChange := true, data := [slotByte n] })))) := by
  have hempty : t.emptySlot n = { t with keys := { t.keys with slots := tableSet t.keys.slots n Slot.empty } } := by
    show { t with keys := { t.keys with slots := tableSet t.keys.slots n Slot.empty, keyChange := true } } = _
    simp only [hk]
  have hother : ∀ m, m ≠ n → tableGet (tableSet t.keys.slots n Slot.empty) m = t.slot m := fun m hm =>
    tableGet_tableSet_ne _ _ hm
  cases hh : t.slotHeld n with
  | true => exact ⟨t.keys.slots, t.lane.responses, _, rfl, fun _ _ => rfl, .inl ⟨(t.slotHeld_iff n).mp hh, rfl, rfl⟩⟩
  | false =>
    have hfree : ∀ e, (t.engine e).key? ≠ some (.slot n) := fun e he =>
      Bool.false_ne_true (hh.symm.trans ((t.slotHeld_iff n).mpr ⟨e, he⟩))
    rw [if_neg Bool.false_ne_true, hempty]
    by_cases hr : t.lane.responses.length < 8
    · rw [State.respond_of_room (by exact hr)]
      refine ⟨_, _, t.mgmt, rfl, hother, .inr ⟨hfree, tableGet_tableSet_self _ _ _, rfl, fun _ => ⟨rfl, ?_⟩⟩⟩
      rw [List.getLast?_concat]
      simp only [hk]
      rfl
    · rw [State.respond_of_full (by exact Nat.le_of_not_lt hr)]
      exact ⟨_, _, _, rfl, hother, .inr ⟨hfree, tableGet_tableSet_self _ _ _, rfl, fun h => absurd h hr⟩⟩

/-- The two events of the passes' ends leave room for the answer. -/
theorem State.erasing_room (ht : s.takes q rest) (hu : s.unhindered) (n : SlotNo) :
    (s.erasing rest n).lane.responses.length ≤ s.lane.responses.length + 2 := by
  have hal := (State.withdrawLoss_passesGoOn (State.erasing_loses ht hu n)).alerts
  rw [State.lossBegun_eq rfl] at hal
  exact (State.responses_le_alertRoom _).trans (hal.trans (State.alertRoom_le _))

/-- What a withdrawal tells rests on the write generation, the cache, the queue, the passes, the reports and the clock. -/
theorem State.lossTold_of {s' t : State} {x : Slot} (h : s'.lossTold t n x) (hg : s'.keys.writeGen = s.keys.writeGen)
    (hk : s'.cache = s.cache) (hq : s'.cipher = s.cipher) (hp : s'.passes = s.passes)
    (hr : s'.lane.reports = s.lane.reports) (hc : s'.clock = s.clock) : s.lossTold t n x := by
  have hcontext : ∀ c, s'.context c = s.context c := fun c => by
    unfold State.context
    rw [hp]
  unfold State.lossTold State.shows at h ⊢
  simpa only [hg, hk, hq, hr, hc, hcontext] using h

theorem State.erasing_lossTold (ht : s.takes q rest) (hu : s.unhindered) (n : SlotNo) :
    s.lossTold (s.erasing rest n) n (s.slot n) :=
  State.lossTold_of (State.withdrawLoss_lossTold (State.erasing_loses ht hu n)) rfl rfl rfl rfl rfl rfl

theorem State.erasing_masters (hx : (s.slot n).role = some .tagMaster) {c : ContextNo} {y : Context}
    (hy : (s.erasing rest n).context c = some y) (hb : y.boundSlot = some n) :
    y.state = .writing ∨ y.state = .confirming ∨ y.state = .done := by
  unfold State.erasing at hy
  exact State.withdrawLoss_masters hx hy hb

theorem State.erasing_engines (ht : s.takes q rest) (hu : s.unhindered) (n : SlotNo) (e : EngineNo) :
    (s.engine e).afterLoss n ((s.erasing rest n).engine e) :=
  State.withdrawLoss_afterLoss (State.erasing_loses ht hu n) e

theorem State.erasing_closed (ht : s.takes q rest) (hu : s.unhindered) (hq : s.cipher.queue = [])
    (hc : ∀ c y, s.context c = some y → y.jobQueued = false) (e : EngineNo)
    (he : (s.engine e).openIdleUnder (.slot n) = true) : (s.erasing rest n).engine e = Engine.closed :=
  State.withdrawLoss_closed (State.erasing_loses ht hu n) hq hc he

/-- The accepted ERASE in the words of the claim. -/
theorem State.erase_accepted {b : Byte} (hb : b = byteAt q.params 0) (ht : s.takes q rest) (hu : s.unhindered)
    (hc : q.code = 0x17#8) (hn : b.toNat = n.val) (he : (s.slot n).state ≠ .empty)
    (hl : n ≠ 0 ∨ s.keys.rootLock = false) : ∃ t, exec .erase s = .next t ∧ t.keys.keyChange = true ∧
      (∀ m, m ≠ n → t.slot m = s.slot m) ∧
      (((∃ e, (t.engine e).key? = some (.slot n)) ∧ t.slot n = { s.slot n with erasePending := true } ∧
          t.mgmt = { s.mgmt with inHand := some { tag := q.tag, code := q.code, work := .erase n } }) ∨
        ((∀ e, (t.engine e).key? ≠ some (.slot n)) ∧ t.slot n = Slot.empty ∧
          t.mgmt = { s.mgmt with held := t.mgmt.held } ∧
          (s.lane.responses.length < 6 → t.mgmt.held = none ∧ t.lane.responses.getLast? =
            some (.response { tag := q.tag, code := q.code, status := .ok, attention := t.events.flags != 0,
                              keyChange := true, data := [b] })))) ∧
      s.lossTold t n (s.slot n) ∧ (∀ c, s.context c = none → t.context c = none) ∧
      t = { s with
        passes := t.passes, cipher := t.cipher, air := t.air, recent := t.recent, cache := t.cache
        events := t.events, mgmt := t.mgmt
        lane := { s.lane with requests := rest, responses := t.lane.responses, reports := t.lane.reports }
        keys := { t.keys with rootLock := s.keys.rootLock, initCheck := s.keys.initCheck } } ∧
      s.lane.reports <+: t.lane.reports ∧
      ((s.slot n).role = some .tagMaster → ∀ c x, t.context c = some x → x.boundSlot = some n →
        x.state = .writing ∨ x.state = .confirming ∨ x.state = .done) ∧
      (∀ e, (s.engine e).afterLoss n (t.engine e)) ∧
      (s.cipher.queue = [] → (∀ c x, s.context c = some x → x.jobQueued = false) →
        ∀ e, (s.engine e).openIdleUnder (.slot n) = true → t.engine e = Engine.closed) := by
  have hloses := State.erasing_loses ht hu n
  have hgo := State.withdrawLoss_passesGoOn hloses
  have hroom := State.erasing_room ht hu n
  have hrest := hgo.rest
  rw [State.lossBegun_eq rfl] at hgo
  have hkey : (s.erasing rest n).keys.keyChange = true := by
    rw [State.erasing, hrest, State.lossBegun_eq rfl]
    rfl
  have hslot : ∀ m, (s.erasing rest n).slot m =
      if m = n then { s.slot n with erasePending := true } else s.slot m := fun m =>
    (hgo.slot m).trans (State.slot_changeSlot (s.left rest) n m _)
  have hmgmt : (s.erasing rest n).mgmt = s.mgmt := hgo.mgmt
  obtain ⟨slots, responses, mgmt, hend, hother, hstands⟩ := State.erase_ends hkey q n
  refine ⟨_, (State.exec_erase ht hu hc).trans
    (congrArg Host.Outcome.next ((judgeErase_of_full (slotOf_eq_some (hb ▸ hn)) he hl).trans hend)), hkey, ?_, ?_,
    State.erasing_lossTold ht hu n, hgo.free, ?_, hgo.reports,
    fun hx _ _ hy hbound => State.erasing_masters hx hy hbound, State.erasing_engines ht hu n,
    State.erasing_closed ht hu⟩
  · exact fun m hm => (hother m hm).trans ((hslot m).trans (if_neg hm))
  · rw [hmgmt, slotByte_eq hn] at hstands
    refine hstands.imp (fun ⟨hheld, hs, hm⟩ => ⟨hheld, hs.trans ((hslot n).trans (if_pos rfl)), hm⟩)
      fun ⟨hfree, hs, hm, hanswer⟩ => ⟨hfree, hs, hm, fun hfew => ?_⟩
    obtain ⟨hnone, hlast⟩ := hanswer (by omega)
    exact ⟨hnone.trans ht.2.2.1, hlast⟩
  · rw [State.erasing, hgo.rest]
    rfl

/-! ### The completion (R119) -/

theorem State.exec_eraseCompletion {q : Request}
    (hi : s.mgmt.inHand = some { tag := q.tag, code := q.code, work := .erase n }) :
    exec .eraseCompletion s = .next (if s.slotHeld n then s else (s.emptySlot n).finish .ok [slotByte n]) := by
  refine congrArg Host.Outcome.next ?_
  have hdue : s.eraseDue = if s.slotHeld n then none else some n := by
    unfold State.eraseDue
    rw [hi]
  rw [hdue]
  cases s.slotHeld n <;> rfl

/-- Settles O49: the refusals, the withdrawal by loss with its notices, and the end of the erase. -/
theorem eraseRule : Obligations.EraseRule := by
  intro s q rest b hb
  refine ⟨fun ht hu hc => ⟨fun hbad => ?_, fun n hn => ⟨fun he => ?_, fun he h0 hlock => ?_, fun he hl =>
    State.erase_accepted hb ht hu hc hn he hl⟩⟩, fun n hi => ⟨fun hfree hr => ?_, fun hheld => ?_⟩⟩
  · rw [State.exec_erase ht hu hc, judgeErase, ← hb, slotOf_eq_none hbad]
    exact congrArg Host.Outcome.next (State.respond_refusal ht rfl)
  · rw [State.exec_erase ht hu hc, judgeErase, ← hb, slotOf_eq_some hn]
    dsimp only
    rw [if_pos (show ((s.left rest).slot n).state = .empty from he), State.respond_refusal ht rfl]
  · rw [State.exec_erase ht hu hc, judgeErase, ← hb, slotOf_eq_some hn]
    dsimp only
    rw [if_neg (show ¬((s.left rest).slot n).state = .empty from he), if_pos ⟨h0, hlock⟩, State.respond_refusal ht rfl]
  · rw [State.exec_eraseCompletion hi, if_neg (by rw [State.slotHeld_eq_false hfree]; decide),
      State.finish_of_room (s := s.emptySlot n) hi hr]
    rfl
  · rw [State.exec_eraseCompletion hi, if_pos ((s.slotHeld_iff n).mpr hheld)]

end Sys2Proof.Machine
end

section
/-! SUPPORT. Every pass that a command finds is accounted for after it: its context still holds it, or its report stands in
the report queue; all but the commands that discard contexts (R57, R61). -/

namespace Sys2Proof.Machine

/-! ### A pass is accounted for -/

/-- What a context and its report agree in from the open of the pass on (R36, R59). -/
def Context.stamp (x : Context) : Issuer × TagNumber × Tick :=
  (x.issuer, x.tagNumber, x.openTick)

/-- The same of a report. -/
def PassReport.stamp (p : PassReport) : Issuer × TagNumber × Tick :=
  (p.issuer, p.tagNumber, p.openTick)

/-- The pass that context c held as x stands in its context still, or its report is in the report queue. -/
def State.accountsFor (t : State) (c : ContextNo) (x : Context) : Prop :=
  (∃ y, t.context c = some y ∧ y.stamp = x.stamp) ∨ ∃ p, ReportItem.report p ∈ t.lane.reports ∧ p.stamp = x.stamp

/-- Between s and t no report has left the report queue and every pass is accounted for. -/
structure Accounts (s t : State) : Prop where
  reports : s.lane.reports ⊆ t.lane.reports
  passes : ∀ c x, s.context c = some x → t.accountsFor c x

namespace Accounts

variable {s t u : State}

theorem refl (s : State) : Accounts s s :=
  ⟨List.Subset.refl _, fun _ x hx => .inl ⟨x, hx, rfl⟩⟩

theorem trans (h : Accounts s t) (k : Accounts t u) : Accounts s u where
  reports := fun _ hr => k.reports (h.reports hr)
  passes c x hx := by
    rcases h.passes c x hx with ⟨y, hy, hyx⟩ | ⟨p, hp, hpx⟩
    · have hu := k.passes c y hy
      unfold State.accountsFor at hu ⊢
      rwa [hyx] at hu
    · exact .inr ⟨p, k.reports hp, hpx⟩

/-- `trans` with the later part first, which names the state between. -/
theorem after (k : Accounts t u) (h : Accounts s t) : Accounts s u :=
  h.trans k

/-- An update that leaves the contexts and the report queue. -/
theorem of_eq (hc : t.passes.contexts = s.passes.contexts) (hr : t.lane.reports = s.lane.reports) : Accounts s t where
  reports := by rw [hr]; exact List.Subset.refl _
  passes c x hx := .inl ⟨x, by unfold State.context; rw [hc]; exact hx, rfl⟩

/-- An update that leaves the contexts while reports join the queue. -/
theorem of_joined (hc : t.passes.contexts = s.passes.contexts) (hr : s.lane.reports ⊆ t.lane.reports) : Accounts s t where
  reports := hr
  passes c x hx := .inl ⟨x, by unfold State.context; rw [hc]; exact hx, rfl⟩

/-- A meaning that acts where its condition holds and changes nothing elsewhere (log 1). -/
theorem ite {p : Prop} [Decidable p] (h : p → Accounts s t) : Accounts s (if p then t else s) := by
  split
  · exact h ‹_›
  · exact .refl s

end Accounts

theorem Context.stamp_of_apart {x y : Context} (h : x.apart = y.apart) : x.stamp = y.stamp := by
  show x.apart.stamp = y.apart.stamp
  rw [h]

theorem JobsOnly.accounts {s t : State} (h : JobsOnly s t) : Accounts s t where
  reports := by rw [h.lane]; exact List.Subset.refl _
  passes c x hx := by
    obtain ⟨j, hj⟩ := h.context_some hx
    exact .inl ⟨_, hj, rfl⟩

theorem CalendarOnly.accounts {s t : State} (h : CalendarOnly s t) : Accounts s t :=
  .of_eq (by rw [h.rest]) (by rw [h.rest])

/-- Work of passes accounts for every pass where it accounts for its own. -/
theorem PassesGoOn.accounts {own : ContextNo → Prop} {s t : State} (h : PassesGoOn own s t)
    (ho : ∀ c x, own c → s.context c = some x → t.accountsFor c x) : Accounts s t where
  reports := h.reports.subset
  passes c x hx := by
    by_cases hc : own c
    · exact ho c x hc hx
    · rcases h.stands c hc with hs | ⟨y, hy, -, -, hp⟩
      · rw [hx] at hs
        obtain ⟨y, hy, hyx⟩ := State.some_of_apart hs
        exact .inl ⟨y, hy, Context.stamp_of_apart hyx⟩
      · obtain rfl := Option.some.inj (hx.symm.trans hy)
        exact .inr ⟨_, List.mem_of_mem_drop hp, rfl⟩

/-- Work of no pass in particular accounts for every pass. -/
theorem PassesGoOn.accounts_all {s t : State} (h : PassesGoOn (fun _ => False) s t) : Accounts s t :=
  h.accounts fun _ _ hc => hc.elim

/-! ### Changes of one context -/

/-- A change of a context's record that leaves its stamp. -/
theorem State.setContext_accounts {s : State} {c : ContextNo} {x y : Context} (hx : s.context c = some x)
    (h : y.stamp = x.stamp) : Accounts s (s.setContext c (some y)) :=
  (PassesGoOn.setContext hx y).accounts fun d w hd hw => by
    obtain rfl : d = c := hd
    obtain rfl := Option.some.inj (hx.symm.trans hw)
    exact .inl ⟨y, s.context_setContext_self d _, h⟩

theorem State.modContext_accounts (s : State) (c : ContextNo) {f : Context → Context} (h : ∀ x, (f x).stamp = x.stamp) :
    Accounts s (s.modContext c f) := by
  cases hx : s.context c with
  | none => rw [State.modContext_of_free hx]; exact .refl s
  | some x => rw [State.modContext_of_some hx]; exact State.setContext_accounts hx (h x)

/-- An open takes a context that held no pass (R36). -/
theorem State.openContext_accounts {s : State} {c : ContextNo} (hc : s.context c = none) (x : Context) :
    Accounts s (s.openContext c x) where
  reports := List.Subset.refl _
  passes d y hy := by
    have hd : d ≠ c := by
      rintro rfl
      exact absurd (hy.symm.trans hc) nofun
    exact .inl ⟨y, ((s.context_setContext c d _).trans (if_neg hd)).trans hy, rfl⟩

/-! ### Events, responses and frames -/

theorem State.raise_accounts (s : State) (v : Event) : Accounts s (s.raise v) :=
  .of_eq (by rw [State.raise_passes]) (s.raise_reports v)

theorem State.forward_accounts (s : State) (kind : Byte) (p : List Byte) : Accounts s (s.forward kind p) := by
  unfold State.forward
  split
  · exact .of_joined rfl (List.subset_append_left _ _)
  · exact s.raise_accounts _

theorem State.sendResponse_accounts (s : State) (r : Response) : Accounts s (s.sendResponse r) := by
  unfold State.sendResponse
  split <;> exact .of_eq rfl rfl

theorem State.respond_accounts (s : State) (q : Request) (st : Status) (data : List Byte) :
    Accounts s (s.respond q st data) :=
  s.sendResponse_accounts _

theorem State.finish_accounts (s : State) (st : Status) (data : List Byte) : Accounts s (s.finish st data) := by
  unfold State.finish
  split
  · exact .refl s
  · exact Accounts.trans (t := { s with mgmt := { s.mgmt with inHand := none } }) (.of_eq rfl rfl)
      (State.sendResponse_accounts _ _)

theorem State.portAnswer_accounts (s : State) (tag code : Byte) (st : Status) :
    Accounts s (s.portAnswer tag code st) := by
  unfold State.portAnswer
  split
  · exact .of_eq rfl rfl
  · exact s.raise_accounts _

theorem State.laneFrame_accounts (s : State) (cls : Byte) (f : PortFrame) : Accounts s (s.laneFrame cls f) := by
  unfold State.laneFrame State.arriveRequest State.offerPassthrough
  repeat' split
  · exact .refl s
  · exact .of_eq rfl rfl
  · exact s.raise_accounts _
  · exact s.raise_accounts _
  · exact .of_eq rfl rfl
  · exact s.portAnswer_accounts _ _ _
  · exact s.portAnswer_accounts _ _ _
  · exact s.raise_accounts _
  · exact s.raise_accounts _

/-! ### The steps of a pass (R29 to R33, R43 to R54) -/

theorem State.attemptRelease_accounts (s : State) (z : ZoneNo) : Accounts s (s.attemptRelease z) :=
  (State.releaseHeads_passesGoOn _ z s).accounts_all

theorem State.offerClose_accounts (s : State) (z : ZoneNo) (tag : TagNumber) (ok : Bool) :
    Accounts s (s.offerClose z tag ok) :=
  (s.offerClose_passesGoOn z tag ok).accounts_all

/-- The end of a pass leaves it in its context or in its report (R53, R57). -/
theorem State.endPass_accounts (s : State) (c : ContextNo) (r : PassResult) : Accounts s (s.endPass c r) :=
  (s.endPass_passesGoOn c r).accounts fun d x hd hx => by
    obtain rfl : d = c := hd
    rcases State.endPass_leaves hx r with ⟨j, hj⟩ | ⟨-, hp⟩
    · exact .inl ⟨_, hj, rfl⟩
    · exact .inr ⟨_, List.mem_of_mem_drop hp, rfl⟩

theorem State.queueStep_accounts (s : State) (c : ContextNo) : Accounts s (s.queueStep c) := by
  unfold State.queueStep
  repeat' split
  · exact .of_eq rfl rfl
  · exact .refl s
  · exact .refl s

theorem State.retryOrEnd_accounts (s : State) (c : ContextNo) : Accounts s (s.retryOrEnd c) := by
  unfold State.retryOrEnd
  split
  · exact .refl s
  · rename_i x hx
    split
    · exact .after (State.queueStep_accounts _ c) (State.setContext_accounts hx rfl)
    · exact s.endPass_accounts c _

theorem State.expireStep_accounts (s : State) (c : ContextNo) : Accounts s (s.expireStep c) := by
  unfold State.expireStep
  repeat' split
  · exact .after (State.retryOrEnd_accounts _ c) (s.modContext_accounts c fun _ => rfl)
  · exact .refl s
  · exact .refl s

theorem State.reportFailed_accounts (s : State) (o : Option ContextNo) : Accounts s (s.reportFailed o) := by
  unfold State.reportFailed
  repeat' split
  · exact .refl s
  · exact s.retryOrEnd_accounts _
  · exact .refl s
  · exact .refl s

theorem State.reportSent_accounts (s : State) (o : Option ContextNo) (t : Tick) : Accounts s (s.reportSent o t) := by
  unfold State.reportSent
  split
  · exact .refl s
  · rename_i c
    split
    · rename_i x hx
      split
      · exact .after (State.expireStep_accounts _ c) (State.setContext_accounts hx rfl)
      · exact .refl s
    · exact .refl s

theorem State.issueFor_accounts (s : State) (c : ContextNo) (kind : JobKind) (key : KeyId) (input : List Block) :
    Accounts s (s.issueFor c kind key input) :=
  (s.issueFor_jobsOnly c kind key input).accounts

theorem State.issueSession_accounts (s : State) (c : ContextNo) : Accounts s (s.issueSession c) := by
  unfold State.issueSession
  split
  · exact .refl s
  · exact s.issueFor_accounts _ _ _ _

theorem State.standBehind_accounts {s : State} {c : ContextNo} {x : Context} (hx : s.context c = some x)
    (st : PassState) (f : StepFrame) : Accounts s (s.standBehind c x st f) :=
  .after (State.queueStep_accounts _ c) (State.setContext_accounts hx rfl)

theorem State.endNoWrite_accounts (s : State) (c : ContextNo) : Accounts s (s.endNoWrite c) :=
  .after (State.endPass_accounts _ c _) (s.modContext_accounts c fun _ => rfl)

theorem State.compose_accounts (s : State) (c : ContextNo) : Accounts s (s.compose c) := by
  unfold State.compose
  split
  · exact .refl s
  · rename_i x hx
    repeat' split
    · exact s.endNoWrite_accounts c
    · exact s.endNoWrite_accounts c
    · exact .after (State.issueFor_accounts _ _ _ _ _) (State.setContext_accounts hx rfl)

theorem State.afterCheck_accounts (s : State) (c : ContextNo) : Accounts s (s.afterCheck c) := by
  unfold State.afterCheck
  repeat' split
  · exact .refl s
  · exact s.endPass_accounts c _
  · exact s.compose_accounts c

theorem State.settleCheck_accounts (s : State) (c : ContextNo) (o : RecordCheck) : Accounts s (s.settleCheck c o) :=
  .after (State.afterCheck_accounts _ c) (s.modContext_accounts c fun _ => rfl)

theorem State.recordCheck_accounts (s : State) (c : ContextNo) (x : Context) : Accounts s (s.recordCheck c x) := by
  unfold State.recordCheck
  repeat' split
  · exact s.settleCheck_accounts c _
  · exact s.settleCheck_accounts c _
  · exact s.settleCheck_accounts c _
  · exact s.issueFor_accounts _ _ _ _

theorem State.taVerified_accounts {s : State} {c : ContextNo} {x : Context} (hx : s.context c = some x) :
    Accounts s (s.taVerified c x) := by
  unfold State.taVerified
  dsimp only
  refine (State.setContext_accounts (y := { x with recordsRead := x.held.map Prod.fst, held := none }) hx rfl).trans ?_
  split
  · exact State.recordCheck_accounts _ c _
  · exact State.afterCheck_accounts _ c

/-! ### The frames of a tag (R37, R39 to R42, R47, R51, R56) -/

theorem State.stray_accounts (s : State) (kind : Byte) (p : List Byte) (held : Bool) :
    Accounts s (s.stray kind p held) := by
  unfold State.stray
  split
  · exact s.forward_accounts _ _
  · exact s.raise_accounts _

/-- A context takes an answer to its step frame (R47, R51). -/
theorem State.hears_accounts {s : State} {c : ContextNo} {x : Context} (hx : s.context c = some x) (z : ZoneNo)
    (rssi : Byte) : Accounts s (s.hears c x z rssi) :=
  (State.setContext_accounts (y := x.answered z rssi) hx rfl).trans (.of_eq rfl rfl)

theorem State.judgeData_accounts (s : State) (p : List Byte) : Accounts s (s.judgeData p) := by
  unfold State.judgeData State.takeData
  dsimp only
  repeat' split
  · exact .after (State.endPass_accounts _ _ _) (State.hears_accounts ‹_› _ _)
  · exact .after (State.issueFor_accounts _ _ _ _ _) (.after (State.setContext_accounts
      (s.hears_context _ _ _ _) rfl) (State.hears_accounts ‹_› _ _))
  · exact s.stray_accounts _ _ _
  · exact .refl s
  · exact s.stray_accounts _ _ _

theorem State.judgeCommit_accounts (s : State) (p : List Byte) : Accounts s (s.judgeCommit p) := by
  unfold State.judgeCommit State.takeCommit
  dsimp only
  repeat' split
  · exact .after (State.endPass_accounts _ _ _) (State.hears_accounts ‹_› _ _)
  · exact .after (State.issueFor_accounts _ _ _ _ _) (.after (State.setContext_accounts
      (s.hears_context _ _ _ _) rfl) (State.hears_accounts ‹_› _ _))
  · exact s.stray_accounts _ _ _
  · exact .refl s
  · exact s.stray_accounts _ _ _

theorem State.joinContext_accounts {s : State} {c : ContextNo} {x : Context} (hx : s.context c = some x) (h : Hello) :
    Accounts s (s.joinContext c x h) := by
  unfold State.joinContext
  split
  · exact .refl s
  · exact State.setContext_accounts hx rfl

theorem State.openDone_accounts {s : State} {c : ContextNo} (hc : s.context c = none) (h : Hello) (r : PassResult)
    (flags : PassFlags) : Accounts s (s.openDone c h r flags) := by
  unfold State.openDone
  dsimp only
  refine .after (State.attemptRelease_accounts _ _) ?_
  split
  · exact (State.openContext_accounts hc _).trans (State.raise_accounts _ _)
  · exact (State.openContext_accounts hc _).trans (State.offerClose_accounts _ _ _ _)

theorem State.openKeying_accounts {s : State} {c : ContextNo} (hc : s.context c = none) (h : Hello) (n : SlotNo)
    (flags : PassFlags) : Accounts s (s.openKeying c h n flags) := by
  unfold State.openKeying
  dsimp only
  split
  · exact .after (State.issueSession_accounts _ c) (.after (State.openContext_accounts (by exact hc) _) (.of_eq rfl rfl))
  · exact .after (State.issueFor_accounts _ _ _ _ _) (.after (State.openContext_accounts (by exact hc) _) (.of_eq rfl rfl))

theorem State.openFresh_accounts {s : State} {c : ContextNo} (hc : s.context c = none) (h : Hello) (u : Bool) :
    Accounts s (s.openFresh c h u) := by
  unfold State.openFresh
  split
  · exact State.openKeying_accounts hc _ _ _
  · exact State.openDone_accounts hc _ _ _

theorem State.judgeRecent_accounts {s : State} {c : ContextNo} (hc : s.context c = none) (h : Hello) :
    Accounts s (s.judgeRecent c h) := by
  have hc' : s.ageRecent.context c = none := hc
  unfold State.judgeRecent
  dsimp only
  refine Accounts.trans (t := s.ageRecent) (.of_eq rfl rfl) ?_
  split
  · exact .refl _
  · exact State.openDone_accounts hc' _ _ _
  · exact State.openFresh_accounts hc' _ _

theorem State.judgeHello_accounts (s : State) (p : List Byte) : Accounts s (s.judgeHello p) := by
  unfold State.judgeHello
  dsimp only
  repeat' split
  · exact State.joinContext_accounts ‹_› _
  · exact .refl s
  · exact State.judgeRecent_accounts (State.freeContext_free ‹_›) _
  · exact s.raise_accounts _
  · exact s.forward_accounts _ _

theorem State.uplink_accounts (s : State) (kind : Byte) (f : PortFrame) {act : State → State} (h : Accounts s (act s)) :
    Accounts s (s.uplink kind f act) := by
  unfold State.uplink
  repeat' split
  · exact .refl s
  · exact .refl s
  · exact h
  · exact s.raise_accounts _

theorem State.offerTagFrame_accounts (s : State) (kind : Byte) (p : List Byte) {judge : State → List Byte → State}
    (h : Accounts s (judge s p)) : Accounts s (s.offerTagFrame kind p judge) := by
  unfold State.offerTagFrame
  split
  · exact s.forward_accounts _ _
  · exact h

theorem State.removeConfirm_accounts (s : State) (e : ConfirmEntry) : Accounts s (s.removeConfirm e) :=
  .of_eq rfl rfl

theorem State.takeSent_accounts (s : State) (p : List Byte) : Accounts s (s.takeSent p) := by
  unfold State.takeSent
  split
  · exact .refl s
  · exact (s.removeConfirm_accounts _).trans (State.reportSent_accounts _ _ _)

theorem State.takeSendFailed_accounts (s : State) (p : List Byte) : Accounts s (s.takeSendFailed p) := by
  unfold State.takeSendFailed
  split
  · exact .refl s
  · exact (s.removeConfirm_accounts _).trans (State.reportFailed_accounts _ _)

end Sys2Proof.Machine
end

section
/-! SUPPORT. Every pass is accounted for, continued: the ends of jobs, the key store, the requests, and so every command
that discards no context (R57, R61). -/

namespace Sys2Proof.Machine

/-! ### The ends of a pass's jobs (R132, R133) -/

/-- The end of a context's job accounts for every pass where its owner's action does. -/
theorem State.contextJobEnd_accounts (s : State) (j : Job) (stage : PassState) (out : Option Block)
    {onResult : ContextNo → Context → Block → State → State} {onLost : ContextNo → State → State}
    (hr : ∀ c x r t, t.context c = some x → Accounts t (onResult c x r t)) (hl : ∀ c t, Accounts t (onLost c t)) :
    Accounts s (s.contextJobEnd j stage out onResult onLost) := by
  unfold State.contextJobEnd
  split
  · exact .refl s
  · exact .refl s
  · rename_i c _
    split
    · exact .refl s
    · rename_i x hx
      have hidle : Accounts s (s.jobDone c x) := State.setContext_accounts (y := x.apart) hx rfl
      dsimp only
      repeat' split
      · exact hidle.trans (State.attemptRelease_accounts _ _)
      · exact hidle.trans (hr _ _ _ _ (s.jobDone_context c x))
      · exact hidle.trans (hl _ _)
      · exact hidle

theorem State.cacheOffer_accounts (s : State) (bound : Option SlotNo) (x : CacheEntry) :
    Accounts s (s.cacheOffer bound x) := by
  unfold State.cacheOffer
  repeat' split
  · exact .of_eq rfl rfl
  · exact .refl s
  · exact .refl s

theorem State.deriveEnd_accounts (s : State) (j : Job) (out : Option Block) : Accounts s (s.deriveEnd j out) :=
  s.contextJobEnd_accounts _ _ _ (fun c _ _ _ hx => .after (State.issueSession_accounts _ c)
    (.after (State.cacheOffer_accounts _ _ _) (State.setContext_accounts hx rfl))) fun _ t => .refl t

theorem State.sessionEnd_accounts (s : State) (j : Job) (out : Option Block) : Accounts s (s.sessionEnd j out) :=
  s.contextJobEnd_accounts _ _ _ (fun _ _ _ _ hx => .after (State.issueFor_accounts _ _ _ _ _)
    (State.setContext_accounts hx rfl)) fun _ t => .refl t

theorem State.raEnd_accounts (s : State) (j : Job) (out : Option Block) : Accounts s (s.raEnd j out) :=
  s.contextJobEnd_accounts _ _ _ (fun _ _ _ _ hx => State.standBehind_accounts hx _ _) fun _ t => .refl t

theorem State.taEnd_accounts (s : State) (j : Job) (out : Option Block) : Accounts s (s.taEnd j out) := by
  refine s.contextJobEnd_accounts _ _ _ (fun c x _ _ hx => ?_) fun _ t => .refl t
  split
  · exact State.taVerified_accounts hx
  · exact .after (State.endPass_accounts _ c _) (State.setContext_accounts hx rfl)

theorem State.waEnd_accounts (s : State) (j : Job) (out : Option Block) : Accounts s (s.waEnd j out) :=
  s.contextJobEnd_accounts _ _ _ (fun _ _ _ _ hx => State.standBehind_accounts hx _ _) fun _ t => .refl t

theorem State.caEnd_accounts (s : State) (j : Job) (out : Option Block) : Accounts s (s.caEnd j out) :=
  s.contextJobEnd_accounts _ _ _ (fun c _ _ t _ => t.endPass_accounts c _) fun _ t => .refl t

theorem State.computeEnd_accounts (s : State) (j : Job) (out : Option Block) : Accounts s (s.computeEnd j out) := by
  refine s.contextJobEnd_accounts _ _ _ (fun c x _ t hx => ?_) fun c t => t.endNoWrite_accounts c
  dsimp only
  split
  · exact .after (State.issueFor_accounts _ _ _ _ _) (State.setContext_accounts hx rfl)
  · exact t.endNoWrite_accounts c

theorem State.verifyEnd_accounts (s : State) (j : Job) (out : Option Block) : Accounts s (s.verifyEnd j out) :=
  s.contextJobEnd_accounts _ _ _ (fun c _ _ t _ => t.settleCheck_accounts c _) fun c t => t.settleCheck_accounts c _

/-! ### The key store (R84 to R103) -/

theorem State.discardTwoPart_accounts (s : State) : Accounts s s.discardTwoPart := by
  unfold State.discardTwoPart
  split <;> exact .of_eq rfl rfl

theorem State.failLoad_accounts (s : State) (st : Status) : Accounts s (s.failLoad st) :=
  s.discardTwoPart_accounts.trans (State.finish_accounts _ _ _)

theorem State.setWriteGen_accounts (s : State) (g : Option Generation) : Accounts s (s.setWriteGen g) := by
  unfold State.setWriteGen
  split <;> exact .of_eq rfl rfl

theorem State.clearWriteGenOf_accounts (s : State) (x : Slot) : Accounts s (s.clearWriteGenOf x) := by
  unfold State.clearWriteGenOf
  exact .ite fun _ => s.setWriteGen_accounts none

theorem State.dropCacheOf_accounts (s : State) (x : Slot) : Accounts s (s.dropCacheOf x) := by
  unfold State.dropCacheOf
  exact .ite fun _ => .of_eq rfl rfl

/-- The owner of a removed job is told: the pass goes on or ends (R31, R33, R95). -/
theorem State.jobRemoved_accounts (s : State) (j : Job) : Accounts s (s.jobRemoved j) := by
  unfold State.jobRemoved
  split
  · exact ((s.setOutstanding_jobsOnly none).trans (State.scrubTest_jobsOnly _)).accounts
  · exact s.failLoad_accounts _
  · rename_i c _
    have hleft : Accounts s (s.jobLeft c) := (s.jobLeft_jobsOnly c).accounts
    cases j.kind with
    | recordCompute => exact hleft.trans (State.endNoWrite_accounts _ c)
    | recordVerify => exact hleft.trans (State.settleCheck_accounts _ c _)
    | _ => exact hleft

theorem State.masterLost_accounts (s : State) (n : SlotNo) (c : ContextNo) : Accounts s (s.masterLost n c) := by
  unfold State.masterLost
  split
  · exact .ite fun _ => s.endPass_accounts c _
  · exact .refl s

/-- What each step of a walk through a list accounts for, the walk does. -/
theorem accounts_foldl {α : Type} {f : State → α → State} (h : ∀ s a, Accounts s (f s a)) (l : List α) (s : State) :
    Accounts s (l.foldl f s) := by
  induction l generalizing s with
  | nil => exact .refl s
  | cons a l ih => exact (h s a).trans (ih _)

/-- A withdrawal by loss ends passes, each with its report (R93 to R96). -/
theorem State.withdrawLoss_accounts (s : State) (n : SlotNo) (x : Slot) : Accounts s (s.withdrawLoss n x) := by
  have hbegun : Accounts s (s.lossBegun n x) :=
    .after (t := (s.clearWriteGenOf x).dropCacheOf x) (.of_eq rfl rfl)
      ((s.clearWriteGenOf_accounts x).trans (State.dropCacheOf_accounts _ x))
  have htold : Accounts s (s.lossHeard n x) := hbegun.trans (accounts_foldl State.jobRemoved_accounts _ _)
  rw [State.withdrawLoss_eq]
  split
  · exact htold.trans (accounts_foldl (fun t c => t.masterLost_accounts n c) _ _)
  · exact htold

theorem State.faultSlot_accounts (s : State) (n : SlotNo) : Accounts s (s.faultSlot n) :=
  .after (State.withdrawLoss_accounts _ n _) (.after (State.raise_accounts _ _) (.of_eq rfl rfl))

theorem State.beginErase_accounts (s : State) (n : SlotNo) : Accounts s (s.beginErase n) :=
  .after (State.withdrawLoss_accounts _ n _) (.of_eq rfl rfl)

theorem State.enterMaintenance_accounts (s : State) : Accounts s s.enterMaintenance :=
  .after (State.scrubTest_jobsOnly _).accounts (.of_eq rfl rfl)

theorem State.continueInitCheck_accounts (s : State) : Accounts s s.continueInitCheck := by
  unfold State.continueInitCheck
  split
  · exact s.enterMaintenance_accounts
  · exact (s.issueScrub_jobsOnly _ _).accounts

theorem State.judgeScrub_accounts (s : State) (n : SlotNo) (out : Option Block) : Accounts s (s.judgeScrub n out) := by
  unfold State.judgeScrub
  dsimp only
  repeat' split
  · exact .refl s
  · exact .of_eq rfl rfl
  · exact s.faultSlot_accounts n
  · exact .refl s

theorem State.afterScrub_accounts (s : State) : Accounts s s.afterScrub := by
  unfold State.afterScrub
  dsimp only
  split
  · exact .after (State.continueInitCheck_accounts _) (.of_eq rfl rfl)
  · exact ((s.setOutstanding_jobsOnly none).trans (State.scrubTest_jobsOnly _)).accounts

/-! ### The ends of the other jobs, and of any job on its engine (R71, R100, R109, R113, R114, R131, R132) -/

theorem State.unwrapEnd_accounts (s : State) (j : Job) (out : Option Block) : Accounts s (s.unwrapEnd j out) := by
  unfold State.unwrapEnd
  split
  · exact .after (State.arrive_jobsOnly _ _).accounts (.of_eq rfl rfl)
  · exact s.failLoad_accounts _

theorem State.kcvEnd_accounts (s : State) (j : Job) (out : Option Block) : Accounts s (s.kcvEnd j out) := by
  unfold State.kcvEnd
  repeat' split
  · exact s.failLoad_accounts _
  · exact .after (State.finish_accounts _ _ _) (.after (State.scrubTest_jobsOnly _).accounts (.of_eq rfl rfl))
  · exact .after (State.finish_accounts _ _ _) (.after (State.raise_accounts _ _) s.discardTwoPart_accounts)
  · exact s.failLoad_accounts _

theorem State.combineEnd_accounts (s : State) (j : Job) (out : Option Block) : Accounts s (s.combineEnd j out) := by
  unfold State.combineEnd
  repeat' split
  · exact .after (State.finish_accounts _ _ _) (.after (State.scrubTest_jobsOnly _).accounts (.of_eq rfl rfl))
  · exact .after (State.finish_accounts _ _ _) (.after (State.raise_accounts _ _) (.of_eq rfl rfl))
  · exact .after (State.finish_accounts _ _ _) (.of_eq rfl rfl)

theorem State.scrubEnd_accounts (s : State) (j : Job) (out : Option Block) : Accounts s (s.scrubEnd j out) := by
  unfold State.scrubEnd
  split
  · exact (s.judgeScrub_accounts _ _).trans (State.afterScrub_accounts _)
  all_goals exact s.afterScrub_accounts

theorem State.deliver_accounts (s : State) (j : Job) (out : Option Block) : Accounts s (s.deliver j out) := by
  unfold State.deliver
  cases j.kind with
  | derive => exact s.deriveEnd_accounts j out
  | session => exact s.sessionEnd_accounts j out
  | ra => exact s.raEnd_accounts j out
  | ta => exact s.taEnd_accounts j out
  | wa => exact s.waEnd_accounts j out
  | ca => exact s.caEnd_accounts j out
  | recordCompute => exact s.computeEnd_accounts j out
  | recordVerify => exact s.verifyEnd_accounts j out
  | unwrap => exact s.unwrapEnd_accounts j out
  | kcv => exact s.kcvEnd_accounts j out
  | combine => exact s.combineEnd_accounts j out
  | scrub => exact s.scrubEnd_accounts j out

theorem State.completeJob_accounts (s : State) (e : EngineNo) (kind : JobKind)
    {act : Job → Option Block → State → State} (h : ∀ j out, Accounts s (act j out s)) :
    Accounts s (s.completeJob e kind act) := by
  unfold State.completeJob
  split
  · exact .ite fun _ => (h _ _).trans (State.afterEnd_jobsOnly _ e).accounts
  all_goals exact .refl s

theorem State.completeOpening_accounts (s : State) (e : EngineNo) : Accounts s (s.completeOpening e) := by
  unfold State.completeOpening
  dsimp only
  repeat' split
  · exact (s.deliver_accounts _ _).trans (State.afterEnd_jobsOnly _ e).accounts
  · exact .of_eq rfl rfl
  all_goals exact .refl s

/-! ### Requests (R165) -/

theorem State.take_accounts (s : State) (fits : Byte → Bool) {judge : Request → State → State}
    (h : ∀ q t, Accounts t (judge q t)) : Accounts s (s.take fits judge) := by
  unfold State.take
  split
  · exact .after (h _ _) (.of_eq rfl rfl)
  · exact .refl s

theorem underOrder_accounts {judge : Request → State → State} (h : ∀ q t, Accounts t (judge q t)) (q : Request)
    (s : State) : Accounts s (underOrder judge q s) := by
  unfold underOrder
  split
  · exact h q s
  · exact s.discardTwoPart_accounts.trans (State.respond_accounts _ _ _ _)

theorem outsideInit_accounts {judge : Request → State → State} (h : ∀ q t, Accounts t (judge q t)) (q : Request)
    (s : State) : Accounts s (outsideInit judge q s) := by
  unfold outsideInit
  split
  · exact s.respond_accounts _ _ _
  · exact h q s

theorem State.takeRequest_accounts (s : State) (code : Byte) {judge : Request → State → State}
    (h : ∀ q t, Accounts t (judge q t)) : Accounts s (s.takeRequest code judge) :=
  s.take_accounts _ (underOrder_accounts (outsideInit_accounts h))

theorem judgeRootPart1_accounts (q : Request) (s : State) : Accounts s (judgeRootPart1 q s) := by
  unfold judgeRootPart1
  repeat' split
  all_goals exact .after (State.respond_accounts _ _ _ _) (.of_eq rfl rfl)

theorem judgeRootPart2_accounts (q : Request) (s : State) : Accounts s (judgeRootPart2 q s) := by
  unfold judgeRootPart2
  split
  · exact outsideInit_accounts (judge := startCombine _)
      (fun _ _ => .after (State.arrive_jobsOnly _ _).accounts (.of_eq rfl rfl)) q s
  all_goals exact s.discardTwoPart_accounts.trans (State.respond_accounts _ _ _ _)

theorem judgeLockRoot_accounts (q : Request) (s : State) : Accounts s (judgeLockRoot q s) := by
  unfold judgeLockRoot
  split <;> exact .after (State.respond_accounts _ _ _ _) (.of_eq rfl rfl)

theorem judgeKeyLoadA_accounts (q : Request) (s : State) : Accounts s (judgeKeyLoadA q s) := by
  unfold judgeKeyLoadA
  dsimp only
  repeat' split
  all_goals exact .after (State.respond_accounts _ _ _ _) (.of_eq rfl rfl)

theorem startUnwrap_accounts (f : LoadFields) (q : Request) (s : State) : Accounts s (startUnwrap f q s) := by
  unfold startUnwrap
  split
  · exact .after (State.arrive_jobsOnly _ _).accounts (.of_eq rfl rfl)
  · exact s.discardTwoPart_accounts.trans (State.respond_accounts _ _ _ _)

theorem judgeKeyLoadB_accounts (q : Request) (s : State) : Accounts s (judgeKeyLoadB q s) := by
  unfold judgeKeyLoadB
  repeat' split
  · exact outsideInit_accounts (startUnwrap_accounts _) q s
  all_goals exact s.discardTwoPart_accounts.trans (State.respond_accounts _ _ _ _)

theorem judgeActivate_accounts (q : Request) (s : State) : Accounts s (judgeActivate q s) := by
  unfold judgeActivate
  repeat' split
  all_goals exact .after (State.respond_accounts _ _ _ _) (.of_eq rfl rfl)

theorem judgeRetire_accounts (q : Request) (s : State) : Accounts s (judgeRetire q s) := by
  unfold judgeRetire
  dsimp only
  repeat' split
  · exact s.respond_accounts _ _ _
  · exact .after (State.respond_accounts _ _ _ _) (.after (State.clearWriteGenOf_accounts _ _) (.of_eq rfl rfl))
  · exact s.respond_accounts _ _ _

/-- An ERASE that is accepted withdraws its slot by loss (R118). -/
theorem judgeErase_accounts (q : Request) (s : State) : Accounts s (judgeErase q s) := by
  unfold judgeErase
  dsimp only
  repeat' split
  · exact s.respond_accounts _ _ _
  · exact s.respond_accounts _ _ _
  · exact s.respond_accounts _ _ _
  · exact (s.beginErase_accounts _).trans (.of_eq rfl rfl)
  · exact .after (State.respond_accounts _ _ _ _) ((s.beginErase_accounts _).trans (.of_eq rfl rfl))

theorem judgeSelectWriteGen_accounts (q : Request) (s : State) : Accounts s (judgeSelectWriteGen q s) := by
  unfold judgeSelectWriteGen
  dsimp only
  repeat' split
  · exact (s.setWriteGen_accounts _).trans (State.respond_accounts _ _ _ _)
  · exact (s.setWriteGen_accounts _).trans (State.respond_accounts _ _ _ _)
  · exact s.respond_accounts _ _ _
  · exact s.respond_accounts _ _ _

theorem judgeReadSlot_accounts (q : Request) (s : State) : Accounts s (judgeReadSlot q s) := by
  unfold judgeReadSlot
  split <;> exact s.respond_accounts _ _ _

theorem judgeReadStatus_accounts (q : Request) (s : State) : Accounts s (judgeReadStatus q s) :=
  (s.respond_accounts _ _ _).trans (.of_eq rfl rfl)

theorem judgeClearEvents_accounts (q : Request) (s : State) : Accounts s (judgeClearEvents q s) := by
  unfold judgeClearEvents
  split <;> exact .after (State.respond_accounts _ _ _ _) (.of_eq rfl rfl)

theorem judgeSetAlertMask_accounts (q : Request) (s : State) : Accounts s (judgeSetAlertMask q s) := by
  unfold judgeSetAlertMask
  split <;> exact .after (State.respond_accounts _ _ _ _) (.of_eq rfl rfl)

theorem judgeSetProfile_accounts (q : Request) (s : State) : Accounts s (judgeSetProfile q s) := by
  unfold judgeSetProfile
  dsimp only
  repeat' split
  all_goals exact .after (State.respond_accounts _ _ _ _) (.of_eq rfl rfl)

theorem State.timingChanged_accounts (s : State) (old : LaneProfile) : Accounts s (s.timingChanged old) := by
  unfold State.timingChanged
  dsimp only
  repeat' split
  · exact s.noteOverdue_jobsOnly.accounts
  · exact .refl s
  · exact .after (State.noteOverdue_jobsOnly _).accounts (.of_eq rfl rfl)
  · exact .of_eq rfl rfl

theorem judgeSetTiming_accounts (q : Request) (s : State) : Accounts s (judgeSetTiming q s) :=
  .after (State.respond_accounts _ _ _ _) (.after (State.timingChanged_accounts _ _) (.of_eq rfl rfl))

theorem judgeSetService_accounts (q : Request) (s : State) : Accounts s (judgeSetService q s) := by
  unfold judgeSetService judgeServiceOff judgeServiceOn
  dsimp only
  repeat' split
  · exact s.enterMaintenance_accounts.trans (State.respond_accounts _ _ _ _)
  all_goals exact .after (State.respond_accounts _ _ _ _) (.of_eq rfl rfl)

theorem judgeSetCalendar_accounts (q : Request) (s : State) : Accounts s (judgeSetCalendar q s) :=
  .after (State.respond_accounts _ _ _ _) (.after (State.walk_calendarOnly _ _).accounts (.of_eq rfl rfl))

/-! ### Every command that discards no context -/

theorem State.expireLifetime_accounts (s : State) (c : ContextNo) : Accounts s (s.expireLifetime c) := by
  unfold State.expireLifetime
  split
  · exact .ite fun _ => s.endPass_accounts c _
  · exact .refl s

theorem State.advanceCalendar_accounts (s : State) : Accounts s s.advanceCalendar := by
  unfold State.advanceCalendar
  dsimp only
  split
  · exact .of_eq rfl rfl
  · exact .after (State.walk_calendarOnly _ _).accounts (.of_eq rfl rfl)

theorem execConfirmationDeadline_accounts (h : Byte) (s : State) :
    ∃ t, execConfirmationDeadline h s = .next t ∧ Accounts s t := by
  refine ⟨_, rfl, ?_⟩
  split
  · exact .ite fun _ => (s.removeConfirm_accounts _).trans (State.reportFailed_accounts _ _)
  · exact .refl s

theorem execEraseCompletion_accounts (s : State) : ∃ t, execEraseCompletion s = .next t ∧ Accounts s t := by
  refine ⟨_, rfl, ?_⟩
  split
  · exact .after (State.finish_accounts _ _ _) (.of_eq rfl rfl)
  · exact .refl s

theorem execOther_accounts (kind : Byte) (f : PortFrame) (s : State) :
    ∃ t, execOther kind f s = .next t ∧ Accounts s t := by
  unfold execOther
  repeat' split
  · exact ⟨_, rfl, s.uplink_accounts _ f (s.offerTagFrame_accounts _ _ (s.judgeHello_accounts _))⟩
  · exact ⟨_, rfl, s.uplink_accounts _ f (s.offerTagFrame_accounts _ _ (s.judgeData_accounts _))⟩
  · exact ⟨_, rfl, s.uplink_accounts _ f (s.offerTagFrame_accounts _ _ (s.judgeCommit_accounts _))⟩
  · exact ⟨_, rfl, s.uplink_accounts _ f (.of_eq rfl rfl)⟩
  · exact ⟨_, rfl, s.uplink_accounts _ f (s.takeSent_accounts _)⟩
  · exact ⟨_, rfl, s.uplink_accounts _ f (s.takeSendFailed_accounts _)⟩
  · exact ⟨_, rfl, s.uplink_accounts _ f (s.forward_accounts _ _)⟩

/-- Every command that discards no context, and gives up no report, accounts for every pass. -/
theorem exec_accounts {i : Instr} (hd : discards i = false) (hi : i ≠ .laneSendStart) (s : State) :
    ∃ t, exec i s = .next t ∧ Accounts s t := by
  cases i with
  | hello f => exact ⟨_, rfl, s.uplink_accounts _ f (s.offerTagFrame_accounts _ _ (s.judgeHello_accounts _))⟩
  | data f => exact ⟨_, rfl, s.uplink_accounts _ f (s.offerTagFrame_accounts _ _ (s.judgeData_accounts _))⟩
  | commit f => exact ⟨_, rfl, s.uplink_accounts _ f (s.offerTagFrame_accounts _ _ (s.judgeCommit_accounts _))⟩
  | other kind f => exact execOther_accounts kind f s
  | credit f => exact ⟨_, rfl, s.uplink_accounts _ f (.of_eq rfl rfl)⟩
  | sent f => exact ⟨_, rfl, s.uplink_accounts _ f (s.takeSent_accounts _)⟩
  | sendFailed f => exact ⟨_, rfl, s.uplink_accounts _ f (s.takeSendFailed_accounts _)⟩
  | downlinkSendStart => exact ⟨_, rfl, .ite fun _ => .of_eq rfl rfl⟩
  | downlinkFrameOut => exact ⟨_, rfl, .of_eq rfl rfl⟩
  | confirmationDeadline h => exact execConfirmationDeadline_accounts h s
  | downPassthrough f => exact ⟨_, rfl, s.laneFrame_accounts _ f⟩
  | openCompletion e => exact ⟨_, rfl, s.completeOpening_accounts e⟩
  | deriveJobCompletion e => exact ⟨_, rfl, s.completeJob_accounts e _ s.deriveEnd_accounts⟩
  | sessionJobCompletion e => exact ⟨_, rfl, s.completeJob_accounts e _ s.sessionEnd_accounts⟩
  | raJobCompletion e => exact ⟨_, rfl, s.completeJob_accounts e _ s.raEnd_accounts⟩
  | taJobCompletion e => exact ⟨_, rfl, s.completeJob_accounts e _ s.taEnd_accounts⟩
  | recordCodeComputeCompletion e => exact ⟨_, rfl, s.completeJob_accounts e _ s.computeEnd_accounts⟩
  | recordCodeVerifyCompletion e => exact ⟨_, rfl, s.completeJob_accounts e _ s.verifyEnd_accounts⟩
  | waJobCompletion e => exact ⟨_, rfl, s.completeJob_accounts e _ s.waEnd_accounts⟩
  | caJobCompletion e => exact ⟨_, rfl, s.completeJob_accounts e _ s.caEnd_accounts⟩
  | unwrapJobCompletion e => exact ⟨_, rfl, s.completeJob_accounts e _ s.unwrapEnd_accounts⟩
  | kcvJobCompletion e => exact ⟨_, rfl, s.completeJob_accounts e _ s.kcvEnd_accounts⟩
  | combineJobCompletion e => exact ⟨_, rfl, s.completeJob_accounts e _ s.combineEnd_accounts⟩
  | scrubJobCompletion e => exact ⟨_, rfl, s.completeJob_accounts e _ s.scrubEnd_accounts⟩
  | stepDeadlineExpiry c => exact ⟨_, rfl, s.expireStep_accounts c⟩
  | lifetimeDeadlineExpiry c => exact ⟨_, rfl, s.expireLifetime_accounts c⟩
  | recentPassAgeing => exact ⟨_, rfl, .of_eq rfl rfl⟩
  | slotOverdue n => exact ⟨_, rfl, .ite fun _ => s.noteOverdue_jobsOnly.accounts⟩
  | eraseCompletion => exact execEraseCompletion_accounts s
  | calendarAdvance => exact ⟨_, rfl, .ite fun _ => s.advanceCalendar_accounts⟩
  | request f => exact ⟨_, rfl, s.laneFrame_accounts _ f⟩
  | unknownRequestCode => exact ⟨_, rfl, s.take_accounts _ (underOrder_accounts fun _ t => t.respond_accounts _ _ _)⟩
  | readStatus => exact ⟨_, rfl, s.take_accounts _ (underOrder_accounts judgeReadStatus_accounts)⟩
  | readCounters => exact ⟨_, rfl, s.takeRequest_accounts _ fun _ t => t.respond_accounts _ _ _⟩
  | clearEvents => exact ⟨_, rfl, s.takeRequest_accounts _ judgeClearEvents_accounts⟩
  | setAlertMask => exact ⟨_, rfl, s.takeRequest_accounts _ judgeSetAlertMask_accounts⟩
  | setProfile => exact ⟨_, rfl, s.takeRequest_accounts _ judgeSetProfile_accounts⟩
  | setTiming => exact ⟨_, rfl, s.takeRequest_accounts _ judgeSetTiming_accounts⟩
  | setService => exact ⟨_, rfl, s.takeRequest_accounts _ judgeSetService_accounts⟩
  | setCalendar => exact ⟨_, rfl, s.takeRequest_accounts _ judgeSetCalendar_accounts⟩
  | rootPart1 => exact ⟨_, rfl, s.takeRequest_accounts _ judgeRootPart1_accounts⟩
  | rootPart2 => exact ⟨_, rfl, s.take_accounts _ judgeRootPart2_accounts⟩
  | lockRoot => exact ⟨_, rfl, s.takeRequest_accounts _ judgeLockRoot_accounts⟩
  | keyLoadA => exact ⟨_, rfl, s.takeRequest_accounts _ judgeKeyLoadA_accounts⟩
  | keyLoadB => exact ⟨_, rfl, s.take_accounts _ judgeKeyLoadB_accounts⟩
  | activate => exact ⟨_, rfl, s.takeRequest_accounts _ judgeActivate_accounts⟩
  | retire => exact ⟨_, rfl, s.takeRequest_accounts _ judgeRetire_accounts⟩
  | erase => exact ⟨_, rfl, s.takeRequest_accounts _ judgeErase_accounts⟩
  | selectWriteGen => exact ⟨_, rfl, s.takeRequest_accounts _ judgeSelectWriteGen_accounts⟩
  | readSlot => exact ⟨_, rfl, s.takeRequest_accounts _ judgeReadSlot_accounts⟩
  | laneSendStart => exact absurd rfl hi
  | laneFrameOut => exact ⟨_, rfl, .of_eq rfl rfl⟩
  | lrdyAsserted => exact ⟨_, rfl, .of_eq rfl rfl⟩
  | lrdyDeasserted => exact ⟨_, rfl, .of_eq rfl rfl⟩
  | wakeDeasserted => exact ⟨_, rfl, .of_eq rfl rfl⟩
  | laneFrameOfOutgoingClass cls f => exact ⟨_, rfl, s.laneFrame_accounts cls f⟩
  | hold | zeroise | zeroiseLine | supplyFail | wake | supplyFailDeasserted | laneReset | resetDeasserted | powerOnReset =>
    exact absurd hd (by decide)

end Sys2Proof.Machine
end

section
/-! PROOF. A context becomes FREE only with its report, and the late end of a job of a context in DONE (R38, R57, R58, R61,
R133). -/

namespace Sys2Proof.Machine

/-! ### The report queue gives up an entry (R58, R164) -/

theorem State.enterHeld_accounts (s : State) : Accounts s s.enterHeld := by
  unfold State.enterHeld
  split
  · exact .refl s
  · exact .of_eq rfl rfl

theorem State.releaseStalled_accounts (s : State) : Accounts s s.releaseStalled := by
  unfold State.releaseStalled
  split
  · exact .refl s
  · dsimp only
    split
    · exact .after (State.attemptRelease_accounts _ _) (.of_eq rfl rfl)
    · exact .of_eq rfl rfl

/-- A report that goes leaves the queue before any pass is released into its place: each pass is accounted for (R164). -/
theorem State.startLaneSend_accountsFor {s : State} {c : ContextNo} {x : Context} (hx : s.context c = some x) :
    s.startLaneSend.accountsFor c x := by
  unfold State.startLaneSend
  split
  · exact (State.enterHeld_accounts _).passes c x hx
  · exact (State.releaseStalled_accounts _).passes c x hx
  · exact (Accounts.refl s).passes c x hx

/-- Every command that discards no context accounts for every pass that stood before it (R57, R61). -/
theorem exec_accountsFor {i : Instr} {s t : State} {c : ContextNo} {x : Context} (hd : discards i = false)
    (ht : exec i s = .next t) (hx : s.context c = some x) : t.accountsFor c x := by
  by_cases hi : i = .laneSendStart
  · subst hi
    obtain rfl : (if s.canSendLane then s.startLaneSend else s) = t := Host.Outcome.next.inj ht
    split
    · exact State.startLaneSend_accountsFor hx
    · exact (Accounts.refl s).passes c x hx
  · obtain ⟨u, hu, ha⟩ := exec_accounts hd hi s
    obtain rfl := Host.Outcome.next.inj (hu.symm.trans ht)
    exact ha.passes c x hx

/-! ### A release attempted at the head of an open list (R57, R58) -/

/-- A head in DONE whose job does not run is released where the report queue has room, and its successor looked at. -/
theorem State.attemptRelease_frees {s : State} {z : ZoneNo} {c : ContextNo} {rest : List ContextNo} {x : Context}
    (ho : s.openList z = c :: rest) (hx : s.context c = some x) (hd : x.state = .done) (hj : x.jobRunning = false)
    (hr : s.lane.reports.length < 64) : s.attemptRelease z = (s.release c x).releaseHeads rest.length z := by
  unfold State.attemptRelease
  rw [ho, List.length_cons, State.releaseHeads, ho]
  dsimp only
  rw [hx]
  dsimp only
  rw [if_pos ⟨hd, hj⟩, if_pos hr]

/-- Without room it stalls (R58). -/
theorem State.attemptRelease_stalls {s : State} {z : ZoneNo} {c : ContextNo} {rest : List ContextNo} {x : Context}
    (ho : s.openList z = c :: rest) (hx : s.context c = some x) (hd : x.state = .done) (hj : x.jobRunning = false)
    (hr : 64 ≤ s.lane.reports.length) : s.attemptRelease z = s.stall c := by
  unfold State.attemptRelease
  rw [ho, List.length_cons, State.releaseHeads, ho]
  dsimp only
  rw [hx]
  dsimp only
  rw [if_pos ⟨hd, hj⟩, if_neg (Nat.not_lt.mpr hr)]

/-- A head that has not ended, or whose job runs, keeps its place and all behind it theirs. -/
theorem State.attemptRelease_waits {s : State} {z : ZoneNo} {d : ContextNo} {rest : List ContextNo} {y : Context}
    (ho : s.openList z = d :: rest) (hy : s.context d = some y) (h : y.state ≠ .done ∨ y.jobRunning = true) :
    s.attemptRelease z = s := by
  unfold State.attemptRelease
  rw [ho, List.length_cons, State.releaseHeads, ho]
  dsimp only
  rw [hy]
  dsimp only
  rw [if_neg]
  rintro ⟨hd, hj⟩
  rcases h with h | h
  · exact h hd
  · rw [hj] at h
    cases h

/-- What the release of a head leaves of its context and of the report queue, whatever is released after it (R57). -/
theorem State.attemptRelease_freed {s : State} {z : ZoneNo} {c : ContextNo} {rest : List ContextNo} {x : Context}
    (ho : s.openList z = c :: rest) (hx : s.context c = some x) (hd : x.state = .done) (hj : x.jobRunning = false)
    (hr : s.lane.reports.length < 64) : (s.attemptRelease z).context c = none ∧
      s.lane.reports ++ [.report (x.report (x.result.getD .abandoned))] <+: (s.attemptRelease z).lane.reports := by
  rw [State.attemptRelease_frees ho hx hd hj hr]
  have hgo := State.releaseHeads_passesGoOn (own := fun _ => False) rest.length z (s.release c x)
  exact ⟨hgo.free c (State.context_setContext_self _ c none), hgo.reports⟩

/-- What a stall leaves (R58). -/
theorem State.stall_of_mem {s : State} {c : ContextNo} (h : c ∈ s.passes.stalled) : s.stall c = s :=
  if_pos (List.contains_iff_mem.mpr h)

theorem State.stall_of_not_mem {s : State} {c : ContextNo} (h : c ∉ s.passes.stalled) : s.stall c =
    { s with passes := { s.passes with stalled := s.passes.stalled ++ [c] } }.raise .reportStall :=
  if_neg fun hc => h (List.contains_iff_mem.mp hc)

/-! ### The late end of a job (R38, R133) -/

/-- The end of a job of a context in DONE, whatever its result: a release is attempted (R38, R133). -/
theorem State.contextJobEnd_done {s : State} {j : Job} {c : ContextNo} {x : Context} (ho : j.owner = .context c)
    (hx : s.context c = some x) (hd : x.state = .done) (stage : PassState) (out : Option Block)
    (onResult : ContextNo → Context → Block → State → State) (onLost : ContextNo → State → State) :
    s.contextJobEnd j stage out onResult onLost = (s.jobDone c x).attemptRelease x.homeZone := by
  unfold State.contextJobEnd
  rw [ho]
  dsimp only
  rw [hx]
  exact if_pos hd

/-- A pass's job that ends on engine e for a context in DONE: a release is attempted, and the engine goes on (R132). -/
theorem exec_jobRow_done {e : EngineNo} {s : State} {r : Option Key} {j : Job} {c : ContextNo} {x : Context}
    (hb : (s.engine e).state = .busy r j) (hk : j.kind.ofPass = true) (ho : j.owner = .context c)
    (hx : s.context c = some x) (hd : x.state = .done) :
    exec (jobRow j.kind e) s = .next (((s.jobDone c x).attemptRelease x.homeZone).afterEnd e) := by
  have ends : ∀ kind stage onResult onLost, j.kind = kind →
      s.completeJob e kind (fun j out s => s.contextJobEnd j stage out onResult onLost) =
        ((s.jobDone c x).attemptRelease x.homeZone).afterEnd e := by
    intro kind stage onResult onLost hkind
    unfold State.completeJob
    rw [hb]
    dsimp only
    rw [if_pos hkind, State.contextJobEnd_done ho hx hd]
    rfl
  cases hkind : j.kind with
  | unwrap | kcv | combine | scrub => rw [hkind] at hk; cases hk
  | _ => exact congrArg Host.Outcome.next (ends _ _ _ _ hkind)

/-- What the late end leaves at the head of its open list (R57, R58): t has gone on from u in work on jobs alone, u from
the attempted release. -/
theorem State.lateEnd_head {s t : State} {c : ContextNo} {x : Context} {rest : List ContextNo} (hd : x.state = .done)
    (ht : JobsOnly ((s.jobDone c x).attemptRelease x.homeZone) t) (ho : s.openList x.homeZone = c :: rest) :
    (s.lane.reports.length < 64 → t.context c = none ∧
      s.lane.reports ++ [.report (x.report (x.result.getD .abandoned))] <+: t.lane.reports) ∧
    (64 ≤ s.lane.reports.length → t.context c ≠ none ∧ t.lane.reports = s.lane.reports ∧
      (c ∈ s.passes.stalled → t.passes.stalled = s.passes.stalled ∧ t.events = s.events) ∧
      (c ∉ s.passes.stalled → t.passes.stalled = s.passes.stalled ++ [c] ∧
        t.events = s.events.record Event.reportStall.number)) := by
  have hctx := s.jobDone_context c x
  refine ⟨fun hr => ?_, fun hr => ?_⟩
  · obtain ⟨hfree, hrep⟩ := State.attemptRelease_freed (s := s.jobDone c x) ho hctx hd rfl hr
    exact ⟨ht.context_none hfree, by rw [ht.lane]; exact hrep⟩
  · rw [State.attemptRelease_stalls (s := s.jobDone c x) ho hctx hd rfl hr] at ht
    obtain ⟨k, hk⟩ := ht.context_some ((State.stall_context _ c c).trans hctx)
    refine ⟨by rw [hk]; simp, by rw [ht.lane, State.stall_reports]; rfl, fun hm => ?_, fun hm => ?_⟩
    · rw [ht.stalled, ht.events, State.stall_of_mem (s := s.jobDone c x) hm]
      exact ⟨rfl, rfl⟩
    · rw [ht.stalled, ht.events, State.stall_of_not_mem (s := s.jobDone c x) hm, State.raise_passes, State.raise_events]
      exact ⟨rfl, rfl⟩

/-- Behind a head that waits a context in DONE stays (R57). -/
theorem State.lateEnd_behind {s t : State} {c d : ContextNo} {x y : Context} {rest : List ContextNo}
    (ht : JobsOnly ((s.jobDone c x).attemptRelease x.homeZone) t) (ho : s.openList x.homeZone = d :: rest)
    (hdc : d ≠ c) (hy : s.context d = some y) (h : y.state ≠ .done ∨ y.jobRunning = true) :
    t.context c ≠ none ∧ t.lane.reports = s.lane.reports ∧ t.passes.stalled = s.passes.stalled := by
  rw [State.attemptRelease_waits (s := s.jobDone c x) ho (((s.jobDone_ownChange c x).contexts d hdc).trans hy) h] at ht
  obtain ⟨k, hk⟩ := ht.context_some (s.jobDone_context c x)
  exact ⟨by rw [hk]; simp, by rw [ht.lane]; rfl, ht.stalled⟩

/-- Settles O8: every pass is accounted for by `exec_accountsFor`; the late end of a job is `exec_jobRow_done`. -/
theorem contextFreedOnlyWithReport : Obligations.ContextFreedOnlyWithReport := by
  refine ⟨fun i s t c x hd ht hx hf => ?_, fun e s r j c x hb hk ho hx hd hq => ?_⟩
  · rcases exec_accountsFor hd ht hx with ⟨y, hy, -⟩ | ⟨p, hp, hstamp⟩
    · rw [hf] at hy
      cases hy
    · simp only [PassReport.stamp, Context.stamp, Prod.mk.injEq] at hstamp
      exact ⟨p, hp, hstamp⟩
  · have hjobs := State.afterEnd_jobsOnly ((s.jobDone c x).attemptRelease x.homeZone) e
    have hlost := State.lost_told (State.not_idle_of_busy hb e rfl) ho hx hk
      (congrArg (State.afterEnd · e) (State.deliver_none_done ho hx hk hd).symm)
    obtain ⟨hframe, hrecent, hstays⟩ := hlost.1 hd hq
    exact ⟨_, exec_jobRow_done hb hk ho hx hd, hframe, hrecent, hstays, fun rest => State.lateEnd_head hd hjobs,
      fun d y rest hl hdc hy h => State.lateEnd_behind hjobs hl hdc hy h⟩

end Sys2Proof.Machine
end

section
/-! PROOF. A DATA or COMMIT that no context takes, and the DERIVE and SESSION ends of a pass (R43, R56, R146, R147). -/

namespace Sys2Proof.Machine

/-! ### A DATA or COMMIT that no context takes (R56) -/

/-- A DATA that no context in CHALLENGING takes is a stray, said to be held where a context has its tag (R47, R56). -/
theorem State.judgeData_stray {s : State} {p : List Byte} {held : Bool}
    (h : (s.contextOf (dataOf p).issuer (dataOf p).tagNumber = none ∧ held = false) ∨
      ∃ c x, s.contextOf (dataOf p).issuer (dataOf p).tagNumber = some c ∧ s.context c = some x ∧
        x.state ≠ .challenging ∧ held = true) :
    s.judgeData p = s.stray 0x02#8 p held := by
  unfold State.judgeData
  dsimp only
  rcases h with ⟨hc, rfl⟩ | ⟨c, x, hc, hx, hs, rfl⟩
  · rw [hc]
  · rw [hc]
    dsimp only
    rw [hx]
    exact if_neg hs

/-- A COMMIT that no context in WRITING takes is a stray, said to be held where a context has its tag (R51, R56). -/
theorem State.judgeCommit_stray {s : State} {p : List Byte} {held : Bool}
    (h : (s.contextOf (commitOf p).issuer (commitOf p).tagNumber = none ∧ held = false) ∨
      ∃ c x, s.contextOf (commitOf p).issuer (commitOf p).tagNumber = some c ∧ s.context c = some x ∧
        x.state ≠ .writing ∧ held = true) :
    s.judgeCommit p = s.stray 0x03#8 p held := by
  unfold State.judgeCommit
  dsimp only
  rcases h with ⟨hc, rfl⟩ | ⟨c, x, hc, hx, hs, rfl⟩
  · rw [hc]
  · rw [hc]
    dsimp only
    rw [hx]
    exact if_neg hs

/-- A stray whose tag a context holds, or that is heard outside MAINTENANCE, is dropped with STRAY (R56). -/
theorem State.stray_drops {s : State} (kind : Byte) (p : List Byte) {held : Bool}
    (h : s.device ≠ .maintenance ∨ held = true) : s.stray kind p held = s.raise .stray :=
  if_neg fun ⟨hd, hh⟩ => h.elim (· hd) (fun ht => by rw [ht] at hh; cases hh)

/-- A stray whose tag no context holds is forwarded in MAINTENANCE (R56). -/
theorem State.stray_forwards {s : State} (kind : Byte) (p : List Byte) (h : s.device = .maintenance) :
    s.stray kind p false = s.forward kind p :=
  if_pos ⟨h, rfl⟩

/-- Settles O22: by `State.judgeData_stray` and `State.judgeCommit_stray` every clause is about a stray. -/
theorem strays : Obligations.Strays := by
  rintro i kind f s taking issuer tag hkind hl hd hg rfl rfl hi
  have hstray : ∀ held,
      ((s.contextOf (BitVec.ofNat 16 (field f.payload 2 2)) (BitVec.ofNat 48 (field f.payload 4 6)) = none ∧
          held = false) ∨
        ∃ c x, s.contextOf (BitVec.ofNat 16 (field f.payload 2 2)) (BitVec.ofNat 48 (field f.payload 4 6)) = some c ∧
          s.context c = some x ∧ x.state ≠ taking ∧ held = true) →
      exec i s = .next (s.stray kind f.payload held) := by
    intro held h
    rcases hkind with ⟨rfl, rfl, rfl⟩ | ⟨rfl, rfl, rfl⟩
    · show Host.Outcome.next (s.uplink _ f _) = _
      rw [State.uplink_judged hl hd hg hi]
      exact congrArg Host.Outcome.next (State.judgeData_stray h)
    · show Host.Outcome.next (s.uplink _ f _) = _
      rw [State.uplink_judged hl hd hg hi]
      exact congrArg Host.Outcome.next (State.judgeCommit_stray h)
  refine ⟨fun hc hm => ?_, fun hc hs => ?_, fun c x hc hx hs => ?_⟩
  · rw [hstray false (.inl ⟨hc, rfl⟩), State.stray_forwards kind _ hm]
  · rw [hstray false (.inl ⟨hc, rfl⟩), State.stray_drops kind _ (.inl (by rw [hs]; decide))]
  · rw [hstray true (.inr ⟨c, x, hc, hx, hs, rfl⟩), State.stray_drops kind _ (.inr rfl)]

/-! ### The offer of a tag key to the cache (R146, R147) -/

/-- An offer changes the cache alone. -/
theorem State.cacheOffer_eq (s : State) (bound : Option SlotNo) (x : CacheEntry) :
    s.cacheOffer bound x = { s with cache := (s.cacheOffer bound x).cache } := by
  unfold State.cacheOffer
  split
  · split <;> rfl
  · rfl

/-- An offer of a context bound to a slot that serves is taken (R146). -/
theorem State.cacheOffer_serves {s : State} {n : SlotNo} (h : (s.slot n).serves = true) (x : CacheEntry) :
    s.cacheOffer (some n) x = s.cacheFill x :=
  if_pos h

/-- An offer of a context bound to a slot that does not serve is let go (R146). -/
theorem State.cacheOffer_idle {s : State} {n : SlotNo} (h : (s.slot n).serves = false) (x : CacheEntry) :
    s.cacheOffer (some n) x = s :=
  if_neg (by rw [h]; decide)

theorem State.cacheOffer_context (s : State) (bound : Option SlotNo) (x : CacheEntry) (c : ContextNo) :
    (s.cacheOffer bound x).context c = s.context c := by
  rw [s.cacheOffer_eq bound x]
  rfl

/-- Work on one context and its frames, then an offer, is such work but for the cache. -/
theorem OwnChange.cacheOffer {s u : State} {c : ContextNo} (h : OwnChange s u c) (bound : Option SlotNo)
    (x : CacheEntry) :
    OwnChange { s with cache := (u.cacheOffer bound x).cache } (u.cacheOffer bound x) c where
  rest := by
    have hu := u.cacheOffer_eq bound x
    generalize u.cacheOffer bound x = v at hu ⊢
    rw [hu, h.rest]
  contexts d hd := (u.cacheOffer_context bound x d).trans (h.contexts d hd)

/-! ### DERIVE and SESSION complete (R43) -/

/-- A context in use issues its SESSION job under its tag key over the two nonces (R43 step 1). -/
theorem State.issueSession_of_context {s : State} {c : ContextNo} {x : Context} (hx : s.context c = some x) :
    s.issueSession c = s.issueFor c .session (.tk c) [nonceBlock x.tagNonce (x.readerNonce.getD 0)] := by
  unfold State.issueSession
  rw [hx]

/-- What a context offers to the cache with its tag key (R146). -/
def Context.cacheEntry (x : Context) (tk : Key) : CacheEntry :=
  { issuer := x.issuer, generation := x.generation, tagNumber := x.tagNumber, tagKey := tk }

/-- The context with the tag key its DERIVE yields (R43). -/
def Context.withTagKey (x : Context) (tk : Key) : Context := { x.apart with tagKey := some tk }

/-- The part when context c holds the tag key its DERIVE yields, and has offered it to the cache (R43, R146). -/
def State.derived (s : State) (c : ContextNo) (x : Context) (tk : Key) : State :=
  ((s.jobDone c x).setContext c (some (x.withTagKey tk))).cacheOffer x.boundSlot (x.cacheEntry tk)

theorem State.derived_ownChange (s : State) (c : ContextNo) (x : Context) (tk : Key) :
    OwnChange { s with cache := (s.derived c x tk).cache } (s.derived c x tk) c :=
  OwnChange.cacheOffer (.after (.setContext _ c _) (s.jobDone_ownChange c x)) _ _

theorem State.derived_context (s : State) (c : ContextNo) (x : Context) (tk : Key) :
    (s.derived c x tk).context c = some (x.withTagKey tk) :=
  (State.cacheOffer_context _ _ _ c).trans ((s.jobDone c x).context_setContext_self c _)

theorem State.derived_air (s : State) (c : ContextNo) (x : Context) (tk : Key) :
    (s.derived c x tk).air = s.air := by
  unfold State.derived
  rw [State.cacheOffer_eq]
  rfl

/-- With the bound slot ACTIVE or RETIRING the cache takes the tag key (R146, R147). -/
theorem State.derived_cache_serves {s : State} (c : ContextNo) {x : Context} (tk : Key) {n : SlotNo}
    (hb : x.boundSlot = some n) (hs : (s.slot n).serves = true) :
    cacheTaken s.cache (s.derived c x tk).cache (x.cacheEntry tk) := by
  unfold State.derived
  rw [hb, State.cacheOffer_serves (s := (s.jobDone c x).setContext c _) hs]
  exact State.cacheFill_taken _ _

/-- With the bound slot in another state the cache stays (R146). -/
theorem State.derived_cache_idle {s : State} (c : ContextNo) {x : Context} (tk : Key) {n : SlotNo}
    (hb : x.boundSlot = some n) (hs : (s.slot n).serves = false) : (s.derived c x tk).cache = s.cache := by
  unfold State.derived
  rw [hb, State.cacheOffer_idle (s := (s.jobDone c x).setContext c _) hs]
  rfl

/-- Settles O23: either end goes on in KEYING with its next job, by `State.issueFor_afterEnd`. -/
theorem deriveAndSessionCompletion : Obligations.DeriveAndSessionCompletion := by
  rintro e s k j c x ⟨hr, hj⟩ ho hx hs
  have hbusy : (s.engine e).isIdle = false := State.not_idle_of_busy hr e rfl
  refine ⟨fun hk => ?_, fun hk => ?_⟩
  · have hu := s.derived_ownChange c x (chain k j.input)
    have hctx := s.derived_context c x (chain k j.input)
    have hend : exec (.deriveJobCompletion e) s =
        .next (((s.derived c x (chain k j.input)).issueFor c .session (.tk c)
          [nonceBlock x.tagNonce (x.readerNonce.getD 0)]).afterEnd e) :=
      (congrArg Host.Outcome.next (State.runs_result hr hj hk ho hx hs (by decide) (by decide) _ _)).trans
        (congrArg (fun u : State => Host.Outcome.next (u.afterEnd e))
          (State.issueSession_of_context (s := s.derived c x _) (x := x.withTagKey _) hctx))
    have hcache : (((s.derived c x (chain k j.input)).issueFor c .session (.tk c)
        [nonceBlock x.tagNonce (x.readerNonce.getD 0)]).afterEnd e).cache =
          (s.derived c x (chain k j.input)).cache :=
      (State.afterEnd_jobsOnly _ e).cache.trans (State.issueFor_jobsOnly _ c .session (.tk c) _).cache
    obtain ⟨⟨job, hy⟩, hjob, hap⟩ := State.issueFor_afterEnd hu (s.derived_air c x _) hctx hbusy .session (.tk c)
      [nonceBlock x.tagNonce (x.readerNonce.getD 0)]
    refine ⟨_, _, hend, hy, hs, rfl, hjob, fun n hb hn => ?_, fun n hb hn => ?_, ?_⟩
    · rw [hcache]
      exact s.derived_cache_serves c _ hb hn
    · rw [hcache]
      exact s.derived_cache_idle c _ hb hn
    · rw [hcache]
      exact hap
  · have hend : exec (.sessionJobCompletion e) s =
        .next ((((s.jobDone c x).setContext c
          (some { x.apart with sessionKey := some (chain k j.input) })).issueFor c .ra (.sk c)
          (paddedBlocks (raMessage x.tagNumber (x.readerNonce.getD 0) x.tagNonce x.requestedSet))).afterEnd e) :=
      congrArg Host.Outcome.next (State.runs_result hr hj hk ho hx hs (by decide) (by decide) _ _)
    obtain ⟨⟨job, hy⟩, hjob, hap⟩ := State.issueFor_afterEnd
      (.after (.setContext _ c _) (s.jobDone_ownChange c x)) rfl ((s.jobDone c x).context_setContext_self c _) hbusy
      .ra (.sk c) _
    exact ⟨_, _, hend, hy, hs, rfl, rfl, hjob, hap⟩

end Sys2Proof.Machine
end

section
/-! PROOF. The frames of a lane send, byte for byte (R187, R188, sections 11.2 and 11.3). -/

namespace Sys2Proof.Machine

/-! ### Reading a payload back -/

/-- The bytes that spell a number have it as their field. -/
theorem field_of_take {p : List Byte} {i k v : Nat} (h : (p.drop i).take k = toBytes k v) (hv : v < 256 ^ k) :
    field p i k = v := by
  unfold field
  rw [h, fromBytes_toBytes, Nat.mod_eq_of_lt hv]

/-- In a string of pieces of n bytes each, piece i stands from byte n * i on. -/
theorem take_drop_flatten {α : Type} {f : α → List Byte} {n : Nat} (hf : ∀ a, (f a).length = n) {l : List α} {i : Nat}
    {a : α} (h : l[i]? = some a) (m : List Byte) : (((l.map f).flatten ++ m).drop (n * i)).take n = f a := by
  induction l generalizing i with
  | nil => simp at h
  | cons b l ih =>
    rw [List.map_cons, List.flatten_cons, List.append_assoc]
    cases i with
    | zero =>
      obtain rfl : b = a := by simpa using h
      exact List.take_left' (hf b)
    | succ i =>
      rw [Nat.mul_succ, Nat.add_comm, ← List.drop_drop, List.drop_left' (hf b)]
      exact ih (by simpa using h)

theorem length_flatten_map {α : Type} {f : α → List Byte} {n : Nat} (hf : ∀ a, (f a).length = n) (l : List α) :
    (l.map f).flatten.length = n * l.length := by
  induction l with
  | nil => rfl
  | cons a l ih => simp [hf, ih, Nat.mul_succ, Nat.add_comm]

/-- A bit of a byte of indicators, in its own place alone. -/
theorem getLsbD_bitByte {n : Nat} (hn : n < 8) (b : Bool) (i : Nat) :
    (bitByte n b).getLsbD i = true ↔ i = n ∧ b = true := by
  cases b with
  | false => simp [bitByte]
  | true =>
    simp only [bitByte, BitVec.getLsbD_shiftLeft, BitVec.getLsbD_one, if_true, and_true, Bool.and_eq_true,
      decide_eq_true_eq, Bool.not_eq_true', decide_eq_false_iff_not]
    omega

theorem getLsbD_or_iff {w : Nat} (x y : BitVec w) (i : Nat) :
    (x ||| y).getLsbD i = true ↔ x.getLsbD i = true ∨ y.getLsbD i = true := by
  simp

/-! ### RESPONSE and ALERT (section 11.2, R188) -/

/-- Every RESPONSE and every ALERT has the code and the payload of its class. -/
theorem Answer.laidOut_all (a : Answer) : a.laidOut := by
  cases a with
  | response r =>
    refine ⟨_, wireFrame_framed _ _, fun b => ?_⟩
    rw [getLsbD_or_iff, getLsbD_bitByte (by decide), getLsbD_bitByte (by decide)]
  | alert n t =>
    refine ⟨_, wireFrame_framed _ _, rfl, ?_, ?_⟩
    · exact field_of_take (by rw [toBytes_one]; rfl) (by omega)
    · exact field_of_take rfl (toNat_lt_bytes t (by decide))

/-! ### REPORT and UP-PASSTHROUGH (section 11.3) -/

/-- The two bytes of a zone of the zone list. -/
def ZoneHeard.bytes (z : ZoneHeard) : List Byte := [BitVec.ofNat 8 z.zone.val, z.rssi]

theorem ZoneHeard.bytes_length (z : ZoneHeard) : z.bytes.length = 2 := rfl

/-- The blocks of the records of a report. -/
def PassReport.recordBlocks (r : PassReport) : List Block := (r.records.map Prod.snd).getD []

/-- The bytes of the trip record of a report. -/
def PassReport.tripBytes (r : PassReport) : List Byte := (r.tripRecord.map blockBytes).getD []

theorem blockBytes_length (b : Block) : (blockBytes b).length = 16 := toBytes_length _ _

/-- A report's payload behind its first 24 bytes: the zones, the records, the trip record. -/
theorem PassReport.payload_drop (r : PassReport) :
    r.payload.drop 24 = (r.zoneList.map ZoneHeard.bytes).flatten ++
      ((r.recordBlocks.map blockBytes).flatten ++ r.tripBytes) := by
  obtain ⟨-, -, -, -, -, -, -, -, -, -, -, records, trip, -⟩ := r
  cases records <;> cases trip <;> rw [← List.append_assoc] <;> rfl

theorem PassReport.payload_drop_zones (r : PassReport) :
    r.payload.drop (24 + 2 * r.zoneList.length) = (r.recordBlocks.map blockBytes).flatten ++ r.tripBytes := by
  rw [← List.drop_drop, r.payload_drop]
  exact List.drop_left' (length_flatten_map ZoneHeard.bytes_length _)

theorem PassReport.payload_drop_records (r : PassReport) :
    r.payload.drop (24 + 2 * r.zoneList.length + 16 * r.recordBlocks.length) = r.tripBytes := by
  rw [← List.drop_drop, r.payload_drop_zones]
  exact List.drop_left' (length_flatten_map blockBytes_length _)

theorem PassReport.tripBytes_length (r : PassReport) :
    r.tripBytes.length = if r.tripRecord.isSome then 16 else 0 := by
  unfold PassReport.tripBytes
  cases r.tripRecord with
  | none => rfl
  | some b => exact blockBytes_length b

theorem PassReport.payload_length (r : PassReport) :
    r.payload.length = 24 + 2 * r.zoneList.length + 16 * r.recordBlocks.length +
      (if r.tripRecord.isSome then 16 else 0) := by
  have h : r.payload.length = 24 + (r.payload.drop 24).length := by
    conv_lhs => rw [← List.take_append_drop 24 r.payload, List.length_append]
    rfl
  rw [h, r.payload_drop, List.length_append, List.length_append, length_flatten_map ZoneHeard.bytes_length,
    length_flatten_map blockBytes_length, r.tripBytes_length]
  omega

/-- The flags byte, bit by bit (section 11.3). -/
theorem PassReport.getLsbD_flagsByte (r : PassReport) (b : Nat) :
    r.flagsByte.getLsbD b = true ↔
      (b = 0 ∧ r.flags.oldGeneration = true) ∨ (b = 1 ∧ r.flags.followsUncertain = true) ∨
      (b = 2 ∧ r.flags.noWriteKey = true) ∨ (b = 3 ∧ r.flags.noEntryRecord = true) ∨
      (b = 4 ∧ r.flags.recordKeyUnavailable = true) ∨ (b = 5 ∧ r.flags.recordInvalid = true) ∨
      (b = 6 ∧ r.multiZone = true) := by
  unfold PassReport.flagsByte
  simp only [getLsbD_or_iff, getLsbD_bitByte (by decide : 0 < 8), getLsbD_bitByte (by decide : 1 < 8),
    getLsbD_bitByte (by decide : 2 < 8), getLsbD_bitByte (by decide : 3 < 8), getLsbD_bitByte (by decide : 4 < 8),
    getLsbD_bitByte (by decide : 5 < 8), getLsbD_bitByte (by decide : 6 < 8), or_assoc]

/-- The presence byte, bit by bit (section 11.3). -/
theorem PassReport.getLsbD_presenceByte (r : PassReport) (b : Nat) :
    r.presenceByte.getLsbD b = true ↔
      (∃ set l, r.records = some (set, l) ∧ set.getLsbD b = true) ∨ (b = 4 ∧ r.tripRecord.isSome = true) ∨
      (b = 5 ∧ r.recordCheck.isSome = true) := by
  unfold PassReport.presenceByte
  rw [getLsbD_or_iff, getLsbD_or_iff, getLsbD_bitByte (by decide), getLsbD_bitByte (by decide), or_assoc]
  refine or_congr_left ?_
  rcases r.records with _ | ⟨set, l⟩
  · simp
  · have hset : (set.setWidth 8).getLsbD b = set.getLsbD b := by
      simp only [BitVec.getLsbD_setWidth, Bool.and_eq_right_iff_imp, decide_eq_true_eq]
      exact fun h => Nat.lt_trans (BitVec.lt_of_getLsbD h) (by decide)
    rw [hset]
    exact ⟨fun h => ⟨set, l, rfl, h⟩, fun ⟨_, _, he, h⟩ => by cases he; exact h⟩

/-- Every report's payload is laid out as section 11.3 has it. -/
theorem PassReport.laidOut_payload (r : PassReport) : r.laidOut r.payload := by
  refine ⟨r.recordBlocks, rfl, r.payload_length, fun hz => ?_, ?_, ?_, ?_, ?_, ?_, ?_, rfl, r.getLsbD_flagsByte,
    r.getLsbD_presenceByte, fun i z hz => ?_, fun i b hb => ?_, fun b hb => ?_⟩
  · exact field_of_take (by rw [toBytes_one]; rfl) (by omega)
  · exact field_of_take rfl (toNat_lt_bytes r.openTick (by decide))
  · exact field_of_take rfl (toNat_lt_bytes r.doneTick (by decide))
  · exact field_of_take rfl (toNat_lt_bytes r.issuer (by decide))
  · exact field_of_take rfl (toNat_lt_bytes r.tagNumber (by decide))
  · exact field_of_take rfl (toNat_lt_bytes r.generation (by decide))
  · exact field_of_take rfl (toNat_lt_bytes r.counter (by decide))
  · have h : (r.payload.drop (24 + 2 * i)).take 2 = z.bytes := by
      rw [← List.drop_drop, r.payload_drop]
      exact take_drop_flatten ZoneHeard.bytes_length hz _
    constructor
    · refine field_of_take ?_ (by omega)
      rw [toBytes_one, show 1 = min 1 2 from rfl, ← List.take_take, h]
      rfl
    · have hrssi : ((r.payload.drop (24 + 2 * i)).take 2)[1]? = some z.rssi := by rw [h]; rfl
      rw [List.getElem?_take_of_lt (by decide), List.getElem?_drop] at hrssi
      rw [← hrssi]
      congr 1
      omega
  · refine field_of_take ?_ (toNat_lt_bytes b (by decide))
    rw [← List.drop_drop, r.payload_drop_zones]
    exact take_drop_flatten blockBytes_length hb _
  · refine field_of_take ?_ (toNat_lt_bytes b (by decide))
    rw [r.payload_drop_records, PassReport.tripBytes, hb]
    exact List.take_of_length_le (blockBytes_length b).le

/-- Every REPORT and every UP-PASSTHROUGH has the code and the payload of its class. -/
theorem ReportItem.laidOut_all (x : ReportItem) : x.laidOut := by
  cases x with
  | report r => exact ⟨_, wireFrame_framed _ _, r.laidOut_payload⟩
  | upPassthrough kind payload => exact wireFrame_framed _ _

end Sys2Proof.Machine
end

section
/-! PROOF. The lane send rule: which queue goes, what fills the place it leaves, and the keys a release closes (R58, R139,
R163, R164, R166). -/

namespace Sys2Proof.Machine

/-! ### An engine told of releases (R139, log 14) -/

/-- An engine holds a key of context c. -/
def Engine.holdsKeyOf (x : Engine) (c : ContextNo) : Bool := x.key?.any (KeyId.ofContext c)

theorem Engine.holdsKeyOf_iff (x : Engine) (c : ContextNo) :
    x.holdsKeyOf c = true ↔ x.key? = some (.tk c) ∨ x.key? = some (.sk c) := by
  unfold Engine.holdsKeyOf
  cases x.key? <;> simp [KeyId.ofContext]

/-- What the release of context c does to an engine (R139, log 14). -/
theorem Engine.atRelease_eq (x : Engine) (c : ContextNo) :
    x.atRelease c =
      if x.holdsKeyOf c then (if x.isIdle then Engine.closed else { x with closeAtEnd := true }) else x := by
  obtain ⟨state, mark, loss⟩ := x
  cases state <;> simp [Engine.atRelease, Engine.holdsKeyOf, Engine.key?, Engine.isIdle]

/-- An engine told of the release of the contexts of a list, in their order. -/
def Engine.toldOf (x : Engine) (l : List ContextNo) : Engine := l.foldl (fun w d => w.atRelease d) x

/-- A notice that leaves an engine as it is does so however often it comes. -/
theorem Engine.toldOf_of_fixed {x : Engine} {l : List ContextNo} (h : ∀ d ∈ l, x.atRelease d = x) : x.toldOf l = x := by
  induction l with
  | nil => rfl
  | cons d l ih =>
    show (x.atRelease d).toldOf l = x
    rw [h d (List.mem_cons_self ..)]
    exact ih fun e he => h e (List.mem_cons_of_mem d he)

/-- An engine that is idle under a key of the first released context is CLOSED-IDLE in the end (R139). -/
theorem Engine.toldOf_idle {x : Engine} {c : ContextNo} (hk : x.holdsKeyOf c = true) (hi : x.isIdle = true)
    (l : List ContextNo) : x.toldOf (c :: l) = Engine.closed := by
  show (x.atRelease c).toldOf l = Engine.closed
  rw [Engine.atRelease_eq, if_pos hk, if_pos hi]
  exact Engine.toldOf_of_fixed fun _ _ => rfl

/-- An engine at work under a key of the first released context is marked to close in the end (log 14). -/
theorem Engine.toldOf_busy {x : Engine} {c : ContextNo} (hk : x.holdsKeyOf c = true) (hi : x.isIdle = false)
    (l : List ContextNo) : x.toldOf (c :: l) = { x with closeAtEnd := true } := by
  show (x.atRelease c).toldOf l = _
  rw [Engine.atRelease_eq, if_pos hk, if_neg (by rw [hi]; decide)]
  refine Engine.toldOf_of_fixed fun d _ => ?_
  rw [Engine.atRelease_eq]
  split
  · exact if_neg (Bool.eq_false_iff.mp hi)
  · rfl

/-- An engine that holds no key of a released context stays (R139). -/
theorem Engine.toldOf_other {x : Engine} {l : List ContextNo} (h : ∀ d ∈ l, x.holdsKeyOf d = false) : x.toldOf l = x :=
  Engine.toldOf_of_fixed fun d hd => (Engine.atRelease_eq x d).trans (if_neg (by rw [h d hd]; decide))

theorem State.release_engine (s : State) (c : ContextNo) (x : Context) (e : EngineNo) :
    (s.release c x).engine e = (s.engine e).atRelease c :=
  State.engine_tellEngines s _ e

/-- Releases in a zone tell every engine of the contexts they free, and do no more to it (R57, R139). -/
theorem State.releaseHeads_engine (k : Nat) (z : ZoneNo) (s : State) (e : EngineNo) :
    ∃ l, (s.releaseHeads k z).engine e = (s.engine e).toldOf l ∧ ∀ d ∈ l, (s.releaseHeads k z).context d = none := by
  induction k generalizing s with
  | zero => exact ⟨[], rfl, by simp⟩
  | succ k ih =>
    unfold State.releaseHeads
    split
    · exact ⟨[], rfl, by simp⟩
    · rename_i c _ _
      split
      · exact ⟨[], rfl, by simp⟩
      · split
        · split
          · rename_i x _ _ _
            obtain ⟨l, hl, hfree⟩ := ih (s.release c x)
            have hgo := State.releaseHeads_passesGoOn (own := fun _ => False) k z (s.release c x)
            refine ⟨c :: l, hl.trans (by rw [State.release_engine]; rfl), fun d hd => ?_⟩
            rcases List.mem_cons.mp hd with rfl | hd
            · exact hgo.free d (State.context_setContext_self _ d none)
            · exact hfree d hd
          · refine ⟨[], ?_, by simp⟩
            unfold State.engine
            rw [State.stall_cipher]
            rfl
        · exact ⟨[], rfl, by simp⟩

/-- What the release of a head leaves of the engines, whatever is released after it (R139, log 14). -/
theorem State.attemptRelease_engines {s : State} {z : ZoneNo} {c : ContextNo} {rest : List ContextNo} {x : Context}
    (ho : s.openList z = c :: rest) (hx : s.context c = some x) (hd : x.state = .done) (hj : x.jobRunning = false)
    (hr : s.lane.reports.length < 64) (e : EngineNo) :
    ((s.engine e).holdsKeyOf c = true →
      ((s.engine e).isIdle = true → (s.attemptRelease z).engine e = Engine.closed) ∧
      ((s.engine e).isIdle = false → (s.attemptRelease z).engine e = { s.engine e with closeAtEnd := true })) ∧
    ((∀ d, (s.engine e).holdsKeyOf d = true → (s.attemptRelease z).context d ≠ none) →
      (s.attemptRelease z).engine e = s.engine e) := by
  have hfree := (State.attemptRelease_freed ho hx hd hj hr).1
  rw [State.attemptRelease_frees ho hx hd hj hr] at hfree ⊢
  obtain ⟨l, hl, hgone⟩ := State.releaseHeads_engine rest.length z (s.release c x) e
  have htold : ((s.release c x).releaseHeads rest.length z).engine e = (s.engine e).toldOf (c :: l) :=
    hl.trans (by rw [State.release_engine]; rfl)
  rw [htold]
  refine ⟨fun hk => ⟨fun hi => Engine.toldOf_idle hk hi l, fun hi => Engine.toldOf_busy hk hi l⟩, fun hstays => ?_⟩
  refine Engine.toldOf_other fun d hd => Bool.eq_false_iff.mpr fun hk => hstays d hk ?_
  rcases List.mem_cons.mp hd with rfl | hd
  · exact hfree
  · exact hgone d hd

/-! ### The place that a sent entry leaves (R58, R164, R166) -/

/-- The part with its first stalled context off the list. -/
def State.unstalled (s : State) (more : List ContextNo) : State :=
  { s with passes := { s.passes with stalled := more } }

/-- What a release into the place of a sent report leaves of the lane: the send, and the reports that waited (R58). -/
theorem State.releaseStalled_lane (s : State) :
    s.releaseStalled.lane.tx = s.lane.tx ∧ s.lane.reports <+: s.releaseStalled.lane.reports := by
  unfold State.releaseStalled
  split
  · exact ⟨rfl, List.prefix_refl _⟩
  · rename_i c more _
    dsimp only
    split
    · rename_i x _
      refine ⟨?_, (State.releaseHeads_passesGoOn (own := fun _ => False) _ x.homeZone (s.unstalled more)).reports⟩
      rw [(State.attemptRelease_passFrame _ x.homeZone c).1]
    · exact ⟨rfl, List.prefix_refl _⟩

/-- With no context stalled nothing fills the place. -/
theorem State.releaseStalled_nil {s : State} (h : s.passes.stalled = []) : s.releaseStalled = s := by
  unfold State.releaseStalled
  rw [h]

/-- The first stalled context leaves the list, and a release is attempted in its home zone (R58). -/
theorem State.releaseStalled_cons {s : State} {c : ContextNo} {more : List ContextNo} {x : Context}
    (h : s.passes.stalled = c :: more) (hx : s.context c = some x) :
    s.releaseStalled = (s.unstalled more).attemptRelease x.homeZone := by
  unfold State.releaseStalled
  rw [h]
  dsimp only
  split
  · rename_i y hy
    obtain rfl : x = y := Option.some.inj (hx.symm.trans hy)
    rfl
  · rename_i hn
    exact absurd (hx.symm.trans hn) nofun

/-- With no response held nothing fills the place. -/
theorem State.enterHeld_none {s : State} (h : s.mgmt.held = none) : s.enterHeld = s := by
  unfold State.enterHeld
  rw [h]

/-- A held response takes the place (R164, R166). -/
theorem State.enterHeld_some {s : State} {r : Response} (h : s.mgmt.held = some r) :
    s.enterHeld = { s with
      lane := { s.lane with responses := s.lane.responses ++ [.response r] }
      mgmt := { s.mgmt with held := none } } := by
  unfold State.enterHeld
  rw [h]

/-! ### The start of a lane send (R163, R164) -/

/-- The part with the head of the response queue on its way, the others waiting (R163). -/
def State.sendsAnswer (s : State) (a : Answer) (rest : List Answer) : State :=
  { s with lane := { s.lane with responses := rest, tx := some a.wire } }

/-- The part with the head of the report queue on its way, the others waiting (R163). -/
def State.sendsReport (s : State) (r : ReportItem) (rest : List ReportItem) : State :=
  { s with lane := { s.lane with reports := rest, tx := some r.wire } }

theorem State.canSendLane_iff (s : State) :
    s.canSendLane = true ↔ s.lines.lrdy = true ∧ s.lane.tx = none ∧ s.heldInReset = false ∧
      (s.lane.responses ≠ [] ∨ s.lane.reports ≠ []) := by
  simp [State.canSendLane, and_assoc]

/-- A response goes first, and a held response takes its place (R163, R164). -/
theorem exec_laneSendStart_response {s : State} (hl : s.lines.lrdy = true) (ht : s.lane.tx = none)
    (hr : s.heldInReset = false) {a : Answer} {rest : List Answer} (ha : s.lane.responses = a :: rest) :
    exec .laneSendStart s = .next (s.sendsAnswer a rest).enterHeld := by
  have hcan : s.canSendLane = true := s.canSendLane_iff.mpr ⟨hl, ht, hr, by simp [ha]⟩
  show Host.Outcome.next (if _ then _ else _) = _
  rw [if_pos hcan]
  unfold State.startLaneSend
  rw [ha]
  rfl

/-- With no response waiting a report goes, and a stalled context is looked at for its place (R163, R164). -/
theorem exec_laneSendStart_report {s : State} (hl : s.lines.lrdy = true) (ht : s.lane.tx = none)
    (hr : s.heldInReset = false) {r : ReportItem} {rest : List ReportItem} (ha : s.lane.responses = [])
    (hq : s.lane.reports = r :: rest) : exec .laneSendStart s = .next (s.sendsReport r rest).releaseStalled := by
  have hcan : s.canSendLane = true := s.canSendLane_iff.mpr ⟨hl, ht, hr, by simp [hq]⟩
  show Host.Outcome.next (if _ then _ else _) = _
  rw [if_pos hcan]
  unfold State.startLaneSend
  rw [ha, hq]
  rfl

/-- Without LRDY, during a send, or with both queues empty, nothing starts (R163). -/
theorem exec_laneSendStart_idle {s : State}
    (h : s.lines.lrdy = false ∨ s.lane.tx.isSome = true ∨ (s.lane.responses = [] ∧ s.lane.reports = [])) :
    exec .laneSendStart s = .next s := by
  have hcan : ¬s.canSendLane = true := by
    rw [State.canSendLane_iff]
    rintro ⟨hl, ht, -, hq⟩
    rcases h with h | h | h
    · rw [hl] at h; cases h
    · rw [ht] at h; cases h
    · exact hq.elim (· h.1) (· h.2)
  exact congrArg Host.Outcome.next (if_neg hcan)

/-- Settles O60: the layouts by `Answer.laidOut_all` and `ReportItem.laidOut_all`, the place a report leaves by
`State.releaseStalled_cons`, the engines by `State.attemptRelease_engines`. -/
theorem laneSendRule : Obligations.LaneSendRule := by
  refine ⟨Answer.laidOut_all, ReportItem.laidOut_all, rfl, rfl, fun s => ⟨fun hl ht hr => ⟨?_, ?_⟩,
    exec_laneSendStart_idle, rfl⟩⟩
  · intro a rest ha
    refine ⟨_, exec_laneSendStart_response hl ht hr ha, ?_⟩
    cases hh : s.mgmt.held with
    | none =>
      rw [State.enterHeld_none (s := s.sendsAnswer a rest) hh]
      exact ⟨rfl, rfl, by rw [← hh]; rfl, rfl, rfl, fun _ => rfl, nofun⟩
    | some r =>
      rw [State.enterHeld_some (s := s.sendsAnswer a rest) hh]
      exact ⟨rfl, rfl, rfl, rfl, rfl, nofun, fun _ h => by cases h; rfl⟩
  · intro r rest ha hq
    obtain ⟨htx, l, hrest⟩ := (s.sendsReport r rest).releaseStalled_lane
    refine ⟨_, l, exec_laneSendStart_report hl ht hr ha hq, htx, hrest.symm, fun hs => State.releaseStalled_nil hs, ?_⟩
    intro c more x hs hx hd hj ho hroom
    rw [State.releaseStalled_cons (s := s.sendsReport r rest) hs hx]
    obtain ⟨hfree, hrep⟩ := State.attemptRelease_freed (s := (s.sendsReport r rest).unstalled more) ho hx hd hj hroom
    have heng := State.attemptRelease_engines (s := (s.sendsReport r rest).unstalled more) ho hx hd hj hroom
    refine ⟨hfree, hrep, fun e hk => (heng e).1 ((Engine.holdsKeyOf_iff _ _).mpr hk), fun e hk => (heng e).2 ?_⟩
    exact fun d h => hk d ((Engine.holdsKeyOf_iff _ _).mp h)

end Sys2Proof.Machine
end

section
/-! PROOF. The recent-pass verdict by the counter distance (R73, R74). -/

namespace Sys2Proof.Machine

variable {h : Counter} {x : RecentEntry}

/-- The counter distance as the claims spell it (R73). -/
theorem counterDistance_eq (h n : Counter) : counterDistance h n = (h.toNat + 2 ^ 24 - n.toNat) % 2 ^ 24 := by
  rw [counterDistance, BitVec.toNat_sub]
  omega

/-- From 2^23 on the counter lies behind the entry's, certain or not (R74). -/
theorem verdictOf_behind (hd : 2 ^ 23 ≤ counterDistance h x.expected) : verdictOf (some x) h = .replay :=
  if_pos hd

/-- Ahead of a certain entry only the counter it expects repeats (R74). -/
theorem verdictOf_certain (hu : x.uncertain = false) (hd : counterDistance h x.expected < 2 ^ 23) :
    verdictOf (some x) h = if counterDistance h x.expected = 0 then .repeated else .fresh false := by
  unfold verdictOf
  dsimp only
  rw [if_neg (Nat.not_le.mpr hd), if_neg (by rw [hu]; decide)]

/-- Ahead of an uncertain entry nothing repeats: the two counters next to it follow an uncertain pass (R74). -/
theorem verdictOf_uncertain (hu : x.uncertain = true) (hd : counterDistance h x.expected < 2 ^ 23) :
    verdictOf (some x) h = .fresh (decide (counterDistance h x.expected ≤ 1)) := by
  unfold verdictOf
  dsimp only
  rw [if_neg (Nat.not_le.mpr hd), if_pos hu]

/-- Settles O16: behind by `verdictOf_behind`, ahead by the entry's mark. -/
theorem verdictTable : Obligations.VerdictTable := by
  rintro h x d rfl
  rw [← counterDistance_eq]
  refine ⟨rfl, fun hu h0 => ?_, fun hu h1 hd => ?_, fun hu h1 => ?_, fun hu h2 hd => ?_, verdictOf_behind⟩
  · rw [verdictOf_certain hu (by omega), if_pos h0]
  · rw [verdictOf_certain hu hd, if_neg (by omega)]
  · rw [verdictOf_uncertain hu (by omega), decide_eq_true h1]
  · rw [verdictOf_uncertain hu hd, decide_eq_false (by omega)]

end Sys2Proof.Machine
end

section
/-! PROOF. READ-SLOT: the 23 bytes of its answer, each in its place (R77, R120, section 11.4). -/

namespace Sys2Proof.Machine

variable {s : State} {q : Request} {rest : List Request}

theorem State.exec_readSlot (ht : s.takes q rest) (hu : s.unhindered) (hc : q.code = 0x19#8) :
    exec .readSlot s = .next (judgeReadSlot q (s.left rest)) :=
  congrArg Host.Outcome.next (State.takeRequest_of_takes ht hc hu.1 hu.2 judgeReadSlot)

/-- The age reported is a number of four bytes (R77). -/
theorem State.checkAge_lt (s : State) (x : Slot) : s.checkAge x < 256 ^ 4 := by
  unfold State.checkAge
  split
  · decide
  · exact toNat_lt_bytes (s.clock.laneTime - x.lastCheck) (by decide)

/-- A slot that has had a check reports the ticks since (R77, R120). -/
theorem State.checkAge_checked (s : State) {x : Slot} (he : x.state ≠ .empty) (hp : x.state ≠ .partLoaded) :
    s.checkAge x = (s.clock.laneTime - x.lastCheck).toNat :=
  if_neg fun h => h.elim he hp

/-- A slot that has had none reports 0 (R120). -/
theorem State.checkAge_unchecked (s : State) {x : Slot} (h : x.state = .empty ∨ x.state = .partLoaded) :
    s.checkAge x = 0 :=
  if_pos h

/-- Settles O51: the refusal by `slotOf_eq_none`, the answer byte by byte from `State.slotData`. -/
theorem readSlotReports : Obligations.ReadSlotReports := by
  rintro s q rest b ht hu hc rfl
  rw [State.exec_readSlot ht hu hc, judgeReadSlot]
  refine ⟨fun hbad => ?_, fun n hn => ⟨(s.left rest).slotData n, ?_, rfl, ?_, rfl, rfl, ?_, ?_, rfl, ?_, ?_, ?_,
    fun he hp => ?_, fun he => ?_, rfl⟩⟩
  · rw [slotOf_eq_none hbad]
    exact congrArg Host.Outcome.next (State.respond_refusal ht rfl)
  · rw [slotOf_eq_some hn]
    exact congrArg Host.Outcome.next (State.respond_of_room (s := s.left rest) ht.2.2.2.2 _ _ _)
  · exact congrArg some (slotByte_eq hn)
  · exact field_of_take rfl (toNat_lt_bytes _ (by decide))
  · exact field_of_take rfl (toNat_lt_bytes _ (by decide))
  · exact field_of_take rfl (toNat_lt_bytes _ (by decide))
  · exact field_of_take rfl (toNat_lt_bytes _ (by decide))
  · exact field_of_take rfl (toNat_lt_bytes _ (by decide))
  · rw [← State.checkAge_checked s he hp]
    exact field_of_take rfl (s.checkAge_lt _)
  · rw [← State.checkAge_unchecked s he]
    exact field_of_take rfl (s.checkAge_lt _)

end Sys2Proof.Machine
end

section
/-! PROOF. The end of a management job: its result judged, the request in hand answered, the engine and the arbiter
going on (R109, R113, R114, R132). -/

namespace Sys2Proof.Machine

variable {s u v t : State} {e : EngineNo} {k : Key} {j : Job}

/-! ### The engine hands the result over (R132) -/

/-- A job that runs completes by the act of its owner on its result, then the engine goes on (R132). -/
theorem State.completeJob_busy {r : Option Key} (h : (s.engine e).state = .busy r j) {kind : JobKind}
    (hk : j.kind = kind) (act : Job → Option Block → State → State) :
    s.completeJob e kind act = (act j (if j.discard then none else j.output r) s).afterEnd e := by
  unfold State.completeJob
  rw [h]
  exact if_pos hk

/-- A result that is not discarded is handed over. -/
theorem State.completeJob_runs (h : s.runs e k j) {kind : JobKind} (hk : j.kind = kind)
    (act : Job → Option Block → State → State) :
    s.completeJob e kind act = (act j (j.output (some k)) s).afterEnd e := by
  rw [State.completeJob_busy h.1 hk, if_neg (by rw [h.2]; decide)]

theorem State.completeJob_discarded {r : Option Key} (h : (s.engine e).state = .busy r j) (hd : j.discard = true)
    {kind : JobKind} (hk : j.kind = kind) (act : Job → Option Block → State → State) :
    s.completeJob e kind act = (act j none s).afterEnd e := by
  rw [State.completeJob_busy h hk, if_pos hd]

/-- An UNWRAP yields the wrapped key XOR the chain over its input (R71). -/
theorem Job.output_unwrap (hk : j.kind = .unwrap) {w : Block} (hx : j.extra = [w]) :
    j.output (some k) = some (w ^^^ chain k j.input) := by
  simp [Job.output, hk, hx]

theorem Job.output_kcv (hk : j.kind = .kcv) : j.output (some k) = some (chain k j.input) := by
  simp [Job.output, hk]

theorem Job.output_combine (hk : j.kind = .combine) : j.output (some k) = some (chain k j.input) := by
  simp [Job.output, hk]

/-! ### The request in hand is answered (R165, R166) -/

/-- u is s but for what the judgement of a management job's result may change: the management unit, the events, the
response queue, the slots and the key-change indicator. -/
def State.loadJudged (s u : State) : Prop :=
  u = { s with
    mgmt := u.mgmt, events := u.events
    lane := { s.lane with responses := u.lane.responses }
    keys := { s.keys with slots := u.keys.slots, keyChange := u.keys.keyChange } }

/-- The part u answers r for the request in hand, then jobs alone go on up to t. -/
structure State.AnswersInHand (u : State) (r : Response) (t : State) : Prop where
  inHand : t.mgmt.inHand = none
  twoPart : t.mgmt.twoPart = u.mgmt.twoPart
  candidate : t.mgmt.candidate = u.mgmt.candidate
  keyChange : t.keys.keyChange = u.keys.keyChange
  slots : t.keys.slots = u.keys.slots
  events : t.events = u.events
  answer : t.lane.responses.getLast? = some (.response r)

theorem State.AnswersInHand.slot {r : Response} (h : u.AnswersInHand r t) (n : SlotNo) : t.slot n = u.slot n := by
  unfold State.slot
  rw [h.slots]

/-- Work on jobs alone is such work beside another management unit and lane port. -/
theorem JobsOnly.beside (h : JobsOnly s t) (m : Management) (l : LanePort) :
    JobsOnly { s with mgmt := m, lane := l } { t with mgmt := m, lane := l } :=
  ⟨by rw [h.rest], h.passes, h.contexts, h.keys⟩

/-- The answer to the request in hand, given after work on jobs and before more of it, is that of the part before. -/
theorem State.finish_answers (hu : s.loadJudged u) {tag code : Byte} {w : HeldWork}
    (hi : u.mgmt.inHand = some { tag, code, work := w }) (hr : u.lane.responses.length < 8) (huv : JobsOnly u v)
    (st : Status) (data : List Byte) (hvt : JobsOnly (v.finish st data) t) :
    s.loadFrame t ∧ u.AnswersInHand (u.composeResponse tag code st data) t := by
  have hv : v.finish st data = { v with
      mgmt := { u.mgmt with inHand := none }
      lane := { u.lane with responses := u.lane.responses ++ [.response (u.composeResponse tag code st data)] } } := by
    rw [State.finish_of_room (by rw [huv.mgmt]; exact hi) (by rw [huv.lane]; exact hr)]
    unfold State.answered State.composeResponse State.attention
    dsimp only
    rw [huv.mgmt, huv.lane, huv.events, huv.keys]
  have ht : JobsOnly _ t := (huv.beside _ _).trans (hv ▸ hvt)
  refine ⟨?_, by rw [ht.mgmt], by rw [ht.mgmt], by rw [ht.mgmt], by rw [ht.keys], ht.slots,
    ht.events, by rw [ht.lane]; exact List.getLast?_concat⟩
  have hap := ht.jobsApart none
  unfold State.loadFrame
  rw [ht.mgmt, ht.events, ht.lane, ht.slots, show t.keys.keyChange = u.keys.keyChange by rw [ht.keys]]
  rw [hu] at hap
  exact hap

/-- A raise adds one entry to the response queue at most: its alert (R174). -/
theorem State.raise_responses_lt {n : Nat} (h : s.lane.responses.length < n) (ev : Event) :
    (s.raise ev).lane.responses.length < n + 1 := by
  have ha : (s.alertsOf ev).length ≤ 1 := by
    unfold State.alertsOf
    split <;> simp
  rw [State.raise_responses, List.length_append]
  omega

/-- A raise is within what the judgement of a result may change. -/
theorem State.loadJudged.raise (h : s.loadJudged u) (ev : Event) : s.loadJudged (u.raise ev) := by
  unfold State.loadJudged at h ⊢
  rw [State.raise_eq]
  dsimp only
  rw [h]

/-- A raise leaves the attention bit set (R166, R168). -/
theorem State.attention_raise (s : State) (ev : Event) : (s.raise ev).attention = true := by
  unfold State.attention
  rw [State.raise_events]
  exact Events.record_attention _ _

/-- A raise leaves its flag set (R168). -/
theorem State.flag_raise (s : State) (ev : Event) : (s.raise ev).events.flag ev.number = true := by
  rw [State.raise_events, Events.flag_record]
  simp

/-! ### COMBINE completes (R72, R109) -/

/-- Slot 0 ACTIVE with a root, and nothing pending (R109). -/
def State.rootAccepted (s : State) (root : Key) (kcv : Kcv) : State :=
  (s.changeSlot 0 (rootSlot root kcv s.clock.laneTime)).clearTwoPart

/-- LOAD-FAIL raised, and nothing pending (R109). -/
def State.rootRefused (s : State) : State := s.clearTwoPart.raise .loadFail

/-- What a refused root leaves: nothing pending, and no key touched (R109). -/
theorem State.rootRefused_eq (s : State) :
    s.rootRefused.mgmt = { s.mgmt with twoPart := .idle, candidate := none } ∧ s.rootRefused.keys = s.keys :=
  ⟨State.raise_mgmt _ _, State.raise_keys _ _⟩

section
variable {a b : Block} {kcv : Kcv} {tag code : Byte}

/-- The KCV equal, the root is accepted and the key store tests for a scrub (R109, R99). -/
theorem State.combineEnd_match (hx : j.extra = [a, b])
    (hi : s.mgmt.inHand = some { tag, code, work := .rootPart2 kcv }) {r : Block} (hr : firstThree r = kcv) :
    s.combineEnd j (some r) = (s.rootAccepted (a ^^^ b) kcv).scrubTest.finish .ok := by
  unfold State.combineEnd
  rw [hi, hx]
  exact if_pos hr

/-- The KCV different, the root is refused (R109). -/
theorem State.combineEnd_mismatch (hx : j.extra = [a, b])
    (hi : s.mgmt.inHand = some { tag, code, work := .rootPart2 kcv }) {r : Block} (hr : firstThree r ≠ kcv) :
    s.combineEnd j (some r) = s.rootRefused.finish .kcvMismatch := by
  unfold State.combineEnd
  rw [hi, hx]
  exact if_neg hr

end

/-- COMBINE completes with its result. -/
theorem State.exec_combineJobCompletion (h : s.runs e k j) (hk : j.kind = .combine) :
    exec (.combineJobCompletion e) s = .next ((s.combineEnd j (some (chain k j.input))).afterEnd e) :=
  congrArg Host.Outcome.next ((State.completeJob_runs h hk State.combineEnd).trans (by rw [Job.output_combine hk]))

/-- Settles O37: the part judged is `State.rootAccepted` or `State.rootRefused`, answered by `State.finish_answers`. -/
theorem combineCompletion : Obligations.CombineCompletion := by
  intro e s k j a b kcv q hruns hk _ hx hi hroom
  rw [State.exec_combineJobCompletion hruns hk]
  by_cases hr : firstThree (chain k j.input) = kcv
  · rw [State.combineEnd_match hx hi hr]
    obtain ⟨hframe, ht⟩ := State.finish_answers (u := s.rootAccepted (a ^^^ b) kcv) (s := s) rfl hi
      (by exact Nat.lt_succ_of_lt hroom) (State.scrubTest_jobsOnly _) .ok [] (State.afterEnd_jobsOnly _ e)
    refine ⟨_, _, rfl, hframe, ht.twoPart, ht.candidate, ht.inHand, fun n hn => ?_, ht.answer, rfl, rfl, rfl,
      fun _ => ⟨?_, ht.keyChange, rfl, rfl, ht.events⟩, fun hne => absurd hr hne⟩
    · exact (ht.slot n).trans ((s.slot_changeSlot 0 n _).trans (if_neg hn))
    · exact (ht.slot 0).trans (s.slot_changeSlot_self 0 _)
  · rw [State.combineEnd_mismatch hx hi hr]
    obtain ⟨hm, hkeys⟩ := s.rootRefused_eq
    obtain ⟨hframe, ht⟩ := State.finish_answers (u := s.rootRefused) (.raise (u := s.clearTwoPart) rfl _)
      (by rw [hm]; exact hi) (State.raise_responses_lt (s := s.clearTwoPart) hroom _) (.refl _) .kcvMismatch []
      (State.afterEnd_jobsOnly _ e)
    have hslot : ∀ n, s.rootRefused.slot n = s.slot n := fun n => by unfold State.slot; rw [hkeys]
    refine ⟨_, _, rfl, hframe, ht.twoPart.trans (congrArg Management.twoPart hm),
      ht.candidate.trans (congrArg Management.candidate hm), ht.inHand,
      fun n _ => (ht.slot n).trans (hslot n), ht.answer, rfl, rfl, rfl, fun he => absurd he hr, fun _ =>
      ⟨ht.slots.trans (by rw [hkeys]), ht.keyChange.trans (by rw [hkeys]), rfl, ?_, State.attention_raise _ _⟩⟩
    exact (congrArg (Events.flag · _) ht.events).trans (State.flag_raise _ _)

/-! ### UNWRAP and KCV complete (R71, R113, R114) -/

/-- The slot of a load STAGED with the candidate, and nothing pending (R114). -/
def State.loadAccepted (s : State) (f : LoadFields) (cand : Key) : State :=
  (s.changeSlot f.slot ((s.slot f.slot).accepted cand f.kcv s.clock.laneTime)).clearTwoPart

/-- The load discarded, and LOAD-FAIL raised (R106, R114). -/
def State.loadRefused (s : State) : State := s.discardTwoPart.raise .loadFail

section
variable {f : LoadFields} {cand r : Block}

/-- With slot 0 ACTIVE and the KCV equal, the load is accepted and the key store tests for a scrub (R114, R99). -/
theorem State.kcvEnd_match (hp : s.mgmt.twoPart = .load f) (hc : s.mgmt.candidate = some cand)
    (hroot : (s.slot 0).isActive = true) (hr : firstThree r = f.kcv) :
    s.kcvEnd j (some r) = (s.loadAccepted f cand).scrubTest.finish .ok
      ([BitVec.ofNat 8 f.slot.val, 2#8] ++ toBytes 3 f.kcv.toNat) := by
  unfold State.kcvEnd
  rw [hp, hc]
  dsimp only
  rw [if_neg (by rw [hroot]; decide), if_pos hr, toBytes_one]
  rfl

/-- With slot 0 ACTIVE and the KCV different, the load is refused (R114). -/
theorem State.kcvEnd_mismatch (hp : s.mgmt.twoPart = .load f) (hc : s.mgmt.candidate = some cand)
    (hroot : (s.slot 0).isActive = true) (hr : firstThree r ≠ f.kcv) :
    s.kcvEnd j (some r) = s.loadRefused.finish .kcvMismatch := by
  unfold State.kcvEnd
  rw [hp, hc]
  dsimp only
  rw [if_neg (by rw [hroot]; decide), if_neg hr]
  rfl

/-- With slot 0 no longer ACTIVE, the load fails whatever the KCV (R114). -/
theorem State.kcvEnd_rootless (hroot : (s.slot 0).isActive = false) : s.kcvEnd j (some r) = s.failLoad .noRoot := by
  unfold State.kcvEnd
  rw [hroot]
  split <;> rfl

end

/-- UNWRAP completes with its result (R71, R113). -/
theorem State.exec_unwrapJobCompletion (h : s.runs e k j) (hk : j.kind = .unwrap) {w : Block} (hx : j.extra = [w]) :
    exec (.unwrapJobCompletion e) s = .next ((s.unwrapEnd j (some (w ^^^ chain k j.input))).afterEnd e) :=
  congrArg Host.Outcome.next
    ((State.completeJob_runs h hk State.unwrapEnd).trans (by rw [Job.output_unwrap hk hx]))

/-- UNWRAP completes with its result discarded: the load fails (R114). -/
theorem State.exec_unwrapJobCompletion_discarded {r : Option Key} (h : (s.engine e).state = .busy r j)
    (hk : j.kind = .unwrap) (hd : j.discard = true) :
    exec (.unwrapJobCompletion e) s = .next ((s.failLoad .noRoot).afterEnd e) :=
  congrArg Host.Outcome.next (State.completeJob_discarded h hd hk State.unwrapEnd)

/-- KCV completes with its result. -/
theorem State.exec_kcvJobCompletion (h : s.runs e k j) (hk : j.kind = .kcv) :
    exec (.kcvJobCompletion e) s = .next ((s.kcvEnd j (some (chain k j.input))).afterEnd e) :=
  congrArg Host.Outcome.next ((State.completeJob_runs h hk State.kcvEnd).trans (by rw [Job.output_kcv hk]))

/-- The part that holds the candidate an UNWRAP yields (R113). -/
def State.withCandidate (s : State) (cand : Key) : State :=
  { s with mgmt := { s.mgmt with candidate := some cand } }

/-- The candidate held, its KCV job is issued while the engine still runs the UNWRAP, and stands after it (R113). -/
theorem State.unwrapEnd_afterEnd (hb : (s.engine e).isIdle = false) (cand : Key) :
    JobsOnly (s.withCandidate cand) ((s.unwrapEnd j (some cand)).afterEnd e) ∧
      ((s.unwrapEnd j (some cand)).afterEnd e).hasJob .kcv .management .loadCandidate [0] [] := by
  refine ⟨((s.withCandidate cand).arrive_jobsOnly _).trans (State.afterEnd_jobsOnly _ e), State.hasJob_afterEnd e ?_⟩
  refine State.someJob_arrive (s := s.withCandidate cand) _ (fun d hd => ?_) (.inr ⟨rfl, rfl, rfl, rfl, rfl⟩)
  cases hd
  exact hb

/-- The load discarded is within what the judgement of a result may change (R106). -/
theorem State.discardTwoPart_loadJudged {f : LoadFields} (hp : s.mgmt.twoPart = .load f) :
    s.loadJudged s.discardTwoPart := by
  rw [State.discardTwoPart_load hp]
  rfl

/-- What a refused load leaves: nothing pending, its slot alone emptied, the indicator set (R104, R106, R114). -/
theorem State.loadRefused_eq {f : LoadFields} (hp : s.mgmt.twoPart = .load f) :
    s.loadRefused.mgmt = { s.mgmt with twoPart := .idle, candidate := none } ∧
      s.loadRefused.keys = { s.keys with slots := tableSet s.keys.slots f.slot Slot.empty, keyChange := true } := by
  unfold State.loadRefused
  rw [State.raise_mgmt, State.raise_keys, State.discardTwoPart_load hp]
  exact ⟨rfl, rfl⟩

/-- Settles O36: UNWRAP by `State.unwrapEnd_afterEnd`; KCV by the part judged, `State.loadAccepted` or
`State.loadRefused`, answered by `State.finish_answers`; a load without its root by `State.failLoad_lost`. -/
theorem unwrapAndKcvCompletion : Obligations.UnwrapAndKcvCompletion := by
  intro e s k j f w q hbusy _ hp _ hi
  refine ⟨fun hk hx hd => ?_, fun hk hd hroom => ?_, fun cand hk hd hc hroom => ?_⟩
  · obtain ⟨hjobs, hjob⟩ := State.unwrapEnd_afterEnd (j := j) (State.not_idle_of_busy hbusy e rfl)
      (w ^^^ chain k j.input)
    refine ⟨_, State.exec_unwrapJobCompletion ⟨hbusy, hd⟩ hk hx, hjobs.mgmt, hjob, ?_⟩
    rw [hjobs.mgmt]
    exact hjobs.jobsApart none
  · exact ⟨_, State.exec_unwrapJobCompletion_discarded hbusy hk hd,
      State.failLoad_lost hp hi hroom (State.afterEnd_jobsOnly _ e)⟩
  rw [State.exec_kcvJobCompletion ⟨hbusy, hd⟩ hk]
  cases hroot : (s.slot 0).isActive with
  | false =>
    rw [State.kcvEnd_rootless hroot]
    obtain ⟨hframe, hempty, hothers, hkey, htwo, hcand, hin, hev, hans⟩ :=
      State.failLoad_lost hp hi (Nat.lt_succ_of_lt hroom) (State.afterEnd_jobsOnly _ e)
    exact ⟨_, _, rfl, hframe, htwo, hcand, hin, hothers, hkey, (congrArg List.getLast? hans).trans List.getLast?_concat,
      rfl, rfl, rfl, nofun, nofun, fun _ => ⟨hempty, rfl, rfl, hev⟩⟩
  | true =>
    by_cases hr : firstThree (chain k j.input) = f.kcv
    · rw [State.kcvEnd_match hp hc hroot hr]
      obtain ⟨hframe, ht⟩ := State.finish_answers (u := s.loadAccepted f cand) (s := s) rfl hi
        (by exact Nat.lt_succ_of_lt hroom) (State.scrubTest_jobsOnly _) .ok _ (State.afterEnd_jobsOnly _ e)
      exact ⟨_, _, rfl, hframe, ht.twoPart, ht.candidate, ht.inHand,
        fun n hn => (ht.slot n).trans ((s.slot_changeSlot f.slot n _).trans (if_neg hn)), ht.keyChange, ht.answer,
        rfl, rfl, rfl, fun _ _ => ⟨(ht.slot f.slot).trans (s.slot_changeSlot_self f.slot _), rfl, rfl⟩,
        fun _ hne => absurd hr hne, nofun⟩
    · rw [State.kcvEnd_mismatch hp hc hroot hr]
      obtain ⟨hm, hkeys⟩ := State.loadRefused_eq hp
      obtain ⟨hframe, ht⟩ := State.finish_answers (u := s.loadRefused) ((State.discardTwoPart_loadJudged hp).raise _)
        (by rw [hm]; exact hi) (State.raise_responses_lt (by rw [State.discardTwoPart_load hp]; exact hroom) _)
        (.refl _) .kcvMismatch [] (State.afterEnd_jobsOnly _ e)
      have hslot : ∀ n, s.loadRefused.slot n = if n = f.slot then Slot.empty else s.slot n := fun n => by
        unfold State.slot
        rw [hkeys]
        exact tableGet_tableSet _ _ _ _
      have hind : s.loadRefused.keys.keyChange = true := by rw [hkeys]
      exact ⟨_, _, rfl, hframe, ht.twoPart.trans (congrArg Management.twoPart hm),
        ht.candidate.trans (congrArg Management.candidate hm), ht.inHand,
        fun n hn => (ht.slot n).trans ((hslot n).trans (if_neg hn)), ht.keyChange.trans hind, ht.answer,
        rfl, rfl, hind, fun _ he => absurd he hr,
        fun _ _ => ⟨(ht.slot f.slot).trans ((hslot f.slot).trans (if_pos rfl)), rfl, rfl,
          (congrArg (Events.flag · _) ht.events).trans (State.flag_raise _ _)⟩, nofun⟩

end Sys2Proof.Machine
end

section
/-! SUPPORT. What the laws of the key store and of the INIT check read of the part, and that the passes, the jobs and the
two ports leave it (R80 to R82, R91, R97, R103, R106). -/

namespace Sys2Proof.Machine

/-! ### What the laws read -/

/-- What the laws of the key store, of the management unit and of the INIT check read, jobs aside. -/
structure Keyed where
  device : DeviceState
  reset : Bool
  slots : Vector Slot 128
  rootLock : Bool
  writeGen : Option Generation
  initCheck : List SlotNo
  inHand : Option InHand
  twoPart : TwoPart

/-- The part as the laws read it. -/
def State.keyed (s : State) : Keyed :=
  { device := s.device, reset := s.lines.reset, slots := s.keys.slots, rootLock := s.keys.rootLock
    writeGen := s.keys.writeGen, initCheck := s.keys.initCheck, inHand := s.mgmt.inHand, twoPart := s.mgmt.twoPart }

variable {s t : State}

theorem State.device_of_keyed (h : t.keyed = s.keyed) : t.device = s.device := congrArg Keyed.device h
theorem State.reset_of_keyed (h : t.keyed = s.keyed) : t.lines.reset = s.lines.reset := congrArg Keyed.reset h
theorem State.slots_of_keyed (h : t.keyed = s.keyed) : t.keys.slots = s.keys.slots := congrArg Keyed.slots h
theorem State.rootLock_of_keyed (h : t.keyed = s.keyed) : t.keys.rootLock = s.keys.rootLock := congrArg Keyed.rootLock h
theorem State.writeGen_of_keyed (h : t.keyed = s.keyed) : t.keys.writeGen = s.keys.writeGen := congrArg Keyed.writeGen h
theorem State.initCheck_of_keyed (h : t.keyed = s.keyed) : t.keys.initCheck = s.keys.initCheck :=
  congrArg Keyed.initCheck h
theorem State.inHand_of_keyed (h : t.keyed = s.keyed) : t.mgmt.inHand = s.mgmt.inHand := congrArg Keyed.inHand h
theorem State.twoPart_of_keyed (h : t.keyed = s.keyed) : t.mgmt.twoPart = s.mgmt.twoPart := congrArg Keyed.twoPart h

theorem State.slot_of_keyed (h : t.keyed = s.keyed) (n : SlotNo) : t.slot n = s.slot n :=
  congrArg (tableGet · n) (State.slots_of_keyed h)

/-! ### Work on jobs, events and answers -/

theorem JobsOnly.keyed (h : JobsOnly s t) : t.keyed = s.keyed := by
  unfold State.keyed
  rw [h.device, h.lines, h.mgmt, h.keys]

theorem State.passFrame_keyed {c : ContextNo} (h : s.passFrame t c) : t.keyed = s.keyed := by
  rw [h.1]
  rfl

@[simp] theorem State.raise_keyed (s : State) (v : Event) : (s.raise v).keyed = s.keyed := by
  rw [State.raise_eq]
  rfl

@[simp] theorem State.scrubTest_keyed (s : State) : s.scrubTest.keyed = s.keyed := s.scrubTest_jobsOnly.keyed

@[simp] theorem State.arrive_keyed (s : State) (j : Job) : (s.arrive j).keyed = s.keyed := (s.arrive_jobsOnly j).keyed

@[simp] theorem State.issueFor_keyed (s : State) (c : ContextNo) (kind : JobKind) (key : KeyId) (input : List Block) :
    (s.issueFor c kind key input).keyed = s.keyed := (s.issueFor_jobsOnly c kind key input).keyed

theorem State.sendResponse_keyed (s : State) (r : Response) : (s.sendResponse r).keyed = s.keyed := by
  unfold State.sendResponse
  split <;> rfl

@[simp] theorem State.respond_keyed (s : State) (q : Request) (st : Status) (data : List Byte) :
    (s.respond q st data).keyed = s.keyed := s.sendResponse_keyed _

theorem State.portAnswer_keyed (s : State) (tag code : Byte) (st : Status) :
    (s.portAnswer tag code st).keyed = s.keyed := by
  unfold State.portAnswer
  split
  · rfl
  · exact s.raise_keyed _

theorem State.forward_keyed (s : State) (kind : Byte) (p : List Byte) : (s.forward kind p).keyed = s.keyed := by
  unfold State.forward
  split
  · rfl
  · exact s.raise_keyed _

theorem State.offerPassthrough_keyed (s : State) (p : List Byte) : (s.offerPassthrough p).keyed = s.keyed := by
  unfold State.offerPassthrough
  split
  · rfl
  · exact s.raise_keyed _

theorem State.arriveRequest_keyed (s : State) (p : List Byte) : (s.arriveRequest p).keyed = s.keyed := by
  unfold State.arriveRequest
  repeat' split
  · exact s.raise_keyed _
  · rfl
  · exact s.portAnswer_keyed _ _ _
  · exact s.portAnswer_keyed _ _ _

theorem State.laneFrame_keyed (s : State) (cls : Byte) (f : PortFrame) : (s.laneFrame cls f).keyed = s.keyed := by
  unfold State.laneFrame
  repeat' split
  · rfl
  · exact s.offerPassthrough_keyed _
  · exact s.arriveRequest_keyed _
  · exact s.raise_keyed _
  · exact s.raise_keyed _

/-! ### The work of one pass -/

theorem State.attemptRelease_keyed (s : State) (z : ZoneNo) : (s.attemptRelease z).keyed = s.keyed :=
  State.passFrame_keyed (s.attemptRelease_passFrame z 0)

theorem State.offerClose_keyed (s : State) (z : ZoneNo) (tag : TagNumber) (ok : Bool) :
    (s.offerClose z tag ok).keyed = s.keyed :=
  State.passFrame_keyed (s.offerClose_passFrame z tag ok 0)

theorem State.endPass_keyed (s : State) (c : ContextNo) (r : PassResult) : (s.endPass c r).keyed = s.keyed :=
  State.passFrame_keyed (s.endPass_passFrame c r)

theorem State.endNoWrite_keyed (s : State) (c : ContextNo) : (s.endNoWrite c).keyed = s.keyed :=
  State.passFrame_keyed (s.endNoWrite_passFrame c)

theorem State.settleCheck_keyed (s : State) (c : ContextNo) (o : RecordCheck) : (s.settleCheck c o).keyed = s.keyed :=
  State.passFrame_keyed (s.settleCheck_passFrame c o)

theorem State.taVerified_keyed (s : State) (c : ContextNo) (x : Context) : (s.taVerified c x).keyed = s.keyed :=
  State.passFrame_keyed (s.taVerified_passFrame c x)

theorem State.standBehind_keyed (s : State) (c : ContextNo) (x : Context) (st : PassState) (f : StepFrame) :
    (s.standBehind c x st f).keyed = s.keyed :=
  State.passFrame_keyed (State.passFrame_trans (s.setContext_passFrame c _) (State.queueStep_passFrame _ c))

theorem State.expireStep_keyed (s : State) (c : ContextNo) : (s.expireStep c).keyed = s.keyed :=
  State.passFrame_keyed (s.expireStep_passFrame c)

theorem State.reportFailed_keyed (s : State) (o : Option ContextNo) : (s.reportFailed o).keyed = s.keyed := by
  unfold State.reportFailed
  repeat' split
  · rfl
  · exact State.passFrame_keyed (s.retryOrEnd_passFrame _)
  · rfl
  · rfl

theorem State.reportSent_keyed (s : State) (o : Option ContextNo) (tick : Tick) :
    (s.reportSent o tick).keyed = s.keyed := by
  cases o with
  | none => rfl
  | some c => exact State.passFrame_keyed (s.reportSent_passFrame c tick)

theorem State.expireLifetime_keyed (s : State) (c : ContextNo) : (s.expireLifetime c).keyed = s.keyed := by
  unfold State.expireLifetime
  repeat' split
  · exact s.endPass_keyed c _
  · rfl
  · rfl

theorem State.issueSession_keyed (s : State) (c : ContextNo) : (s.issueSession c).keyed = s.keyed := by
  unfold State.issueSession
  split
  · rfl
  · exact s.issueFor_keyed _ _ _ _

theorem State.cacheOffer_keyed (s : State) (bound : Option SlotNo) (x : CacheEntry) :
    (s.cacheOffer bound x).keyed = s.keyed := by
  rw [State.cacheOffer_eq]
  rfl

/-! ### The frames of a tag -/

theorem State.stray_keyed (s : State) (kind : Byte) (p : List Byte) (held : Bool) :
    (s.stray kind p held).keyed = s.keyed := by
  unfold State.stray
  split
  · exact s.forward_keyed _ _
  · exact s.raise_keyed _

theorem State.judgeData_keyed (s : State) (p : List Byte) : (s.judgeData p).keyed = s.keyed := by
  unfold State.judgeData State.takeData
  dsimp only
  repeat' split
  · exact State.endPass_keyed _ _ _
  · exact State.issueFor_keyed _ _ _ _ _
  · exact s.stray_keyed _ _ _
  · rfl
  · exact s.stray_keyed _ _ _

theorem State.judgeCommit_keyed (s : State) (p : List Byte) : (s.judgeCommit p).keyed = s.keyed := by
  unfold State.judgeCommit State.takeCommit
  dsimp only
  repeat' split
  · exact State.endPass_keyed _ _ _
  · exact State.issueFor_keyed _ _ _ _ _
  · exact s.stray_keyed _ _ _
  · rfl
  · exact s.stray_keyed _ _ _

theorem State.openDone_keyed (s : State) (c : ContextNo) (h : Hello) (r : PassResult) (flags : PassFlags) :
    (s.openDone c h r flags).keyed = s.keyed := by
  unfold State.openDone
  refine (State.attemptRelease_keyed _ _).trans ?_
  split
  · exact State.raise_keyed _ _
  · exact State.offerClose_keyed _ _ _ _

theorem State.openKeying_keyed (s : State) (c : ContextNo) (h : Hello) (n : SlotNo) (flags : PassFlags) :
    (s.openKeying c h n flags).keyed = s.keyed := by
  unfold State.openKeying
  dsimp only
  split
  · exact State.issueSession_keyed _ _
  · exact State.issueFor_keyed _ _ _ _ _

theorem State.judgeRecent_keyed (s : State) (c : ContextNo) (h : Hello) : (s.judgeRecent c h).keyed = s.keyed := by
  unfold State.judgeRecent State.openFresh
  dsimp only
  repeat' split
  · rfl
  · exact State.openDone_keyed _ _ _ _ _
  · exact State.openKeying_keyed _ _ _ _ _
  · exact State.openDone_keyed _ _ _ _ _

theorem State.judgeHello_keyed (s : State) (p : List Byte) : (s.judgeHello p).keyed = s.keyed := by
  unfold State.judgeHello State.joinContext
  dsimp only
  repeat' split
  · rfl
  · rfl
  · rfl
  · exact s.judgeRecent_keyed _ _
  · exact s.raise_keyed _
  · exact s.forward_keyed _ _

theorem State.offerTagFrame_keyed (s : State) (kind : Byte) (p : List Byte) {judge : State → List Byte → State}
    (h : (judge s p).keyed = s.keyed) : (s.offerTagFrame kind p judge).keyed = s.keyed := by
  unfold State.offerTagFrame
  split
  · exact s.forward_keyed _ _
  · exact h

theorem State.uplink_keyed (s : State) (kind : Byte) (f : PortFrame) {act : State → State}
    (h : (act s).keyed = s.keyed) : (s.uplink kind f act).keyed = s.keyed := by
  unfold State.uplink
  repeat' split
  · rfl
  · rfl
  · exact h
  · exact s.raise_keyed _

theorem State.takeSent_keyed (s : State) (p : List Byte) : (s.takeSent p).keyed = s.keyed := by
  unfold State.takeSent
  split
  · rfl
  · exact State.reportSent_keyed _ _ _

theorem State.takeSendFailed_keyed (s : State) (p : List Byte) : (s.takeSendFailed p).keyed = s.keyed := by
  unfold State.takeSendFailed
  split
  · rfl
  · exact State.reportFailed_keyed _ _

/-! ### Sends -/

theorem State.releaseStalled_keyed (s : State) : s.releaseStalled.keyed = s.keyed := by
  unfold State.releaseStalled
  dsimp only
  repeat' split
  · rfl
  · exact State.attemptRelease_keyed _ _
  · rfl

theorem State.startLaneSend_keyed (s : State) : s.startLaneSend.keyed = s.keyed := by
  unfold State.startLaneSend State.enterHeld
  repeat' split
  · rfl
  · rfl
  · exact State.releaseStalled_keyed _
  · rfl

/-! ### The ends of a pass's jobs -/

theorem State.contextJobEnd_keyed (s : State) (j : Job) (stage : PassState) (out : Option Block)
    {onResult : ContextNo → Context → Block → State → State} {onLost : ContextNo → State → State}
    (hr : ∀ c x r t, (onResult c x r t).keyed = t.keyed) (hl : ∀ c t, (onLost c t).keyed = t.keyed) :
    (s.contextJobEnd j stage out onResult onLost).keyed = s.keyed := by
  unfold State.contextJobEnd
  dsimp only
  repeat' split
  · rfl
  · rfl
  · rfl
  · exact State.attemptRelease_keyed _ _
  · exact hr _ _ _ _
  · exact hl _ _
  · rfl

theorem State.deriveEnd_keyed (s : State) (j : Job) (out : Option Block) : (s.deriveEnd j out).keyed = s.keyed :=
  s.contextJobEnd_keyed j _ out
    (fun _ _ _ _ => (State.issueSession_keyed _ _).trans (State.cacheOffer_keyed _ _ _)) fun _ _ => rfl

theorem State.sessionEnd_keyed (s : State) (j : Job) (out : Option Block) : (s.sessionEnd j out).keyed = s.keyed :=
  s.contextJobEnd_keyed j _ out (fun _ _ _ _ => State.issueFor_keyed _ _ _ _ _) fun _ _ => rfl

theorem State.raEnd_keyed (s : State) (j : Job) (out : Option Block) : (s.raEnd j out).keyed = s.keyed :=
  s.contextJobEnd_keyed j _ out (fun _ _ _ t => t.standBehind_keyed _ _ _ _) fun _ _ => rfl

theorem State.taEnd_keyed (s : State) (j : Job) (out : Option Block) : (s.taEnd j out).keyed = s.keyed := by
  refine s.contextJobEnd_keyed j _ out (fun c x r t => ?_) fun _ _ => rfl
  split
  · exact t.taVerified_keyed c x
  · exact State.endPass_keyed _ _ _

theorem State.verifyEnd_keyed (s : State) (j : Job) (out : Option Block) : (s.verifyEnd j out).keyed = s.keyed :=
  s.contextJobEnd_keyed j _ out (fun _ _ _ t => t.settleCheck_keyed _ _) fun _ t => t.settleCheck_keyed _ _

theorem State.computeEnd_keyed (s : State) (j : Job) (out : Option Block) : (s.computeEnd j out).keyed = s.keyed := by
  refine s.contextJobEnd_keyed j _ out (fun c x r t => ?_) fun _ t => t.endNoWrite_keyed _
  split
  · exact State.issueFor_keyed _ _ _ _ _
  · exact t.endNoWrite_keyed c

theorem State.waEnd_keyed (s : State) (j : Job) (out : Option Block) : (s.waEnd j out).keyed = s.keyed :=
  s.contextJobEnd_keyed j _ out (fun _ _ _ t => t.standBehind_keyed _ _ _ _) fun _ _ => rfl

theorem State.caEnd_keyed (s : State) (j : Job) (out : Option Block) : (s.caEnd j out).keyed = s.keyed :=
  s.contextJobEnd_keyed j _ out (fun _ _ _ t => t.endPass_keyed _ _) fun _ _ => rfl

end Sys2Proof.Machine
end

section
/-! SUPPORT. What keeps the laws of the key store and of the management unit: a change of one slot, and each operation of
the key store and of the management unit (R80 to R82, R91, R106, R118). -/

namespace Sys2Proof.Machine

variable {s t : State} {n : SlotNo} {x y : Slot}

/-! ### Slots -/

/-- The slot makes g a record write generation: it is the ACTIVE RECORD slot of g (R91). -/
def Slot.writes (x : Slot) (g : Generation) : Prop :=
  x.role = some .record ∧ x.issuer = 0 ∧ x.generation = g ∧ x.isActive = true

/-- Two slots in use hold the same key (R80). -/
structure Slot.SameKey (x y : Slot) : Prop where
  before : x.state ≠ .empty
  after : y.state ≠ .empty
  role : y.role = x.role
  issuer : y.issuer = x.issuer
  generation : y.generation = x.generation

theorem Slot.SameKey.distinct {z : Slot} (h : x.SameKey y) (hx : x.distinct z) : y.distinct z := by
  unfold Slot.distinct
  rw [h.role, h.issuer, h.generation]
  exact fun _ => hx h.before

theorem Slot.SameKey.lawful (h : x.SameKey y) (hx : x.lawful n) (hm : y.material.isSome = y.state.keepsMaterial)
    (h0 : n = 0 → y.state.ofRoot = true) : y.lawful n := by
  obtain ⟨-, -, hrole, -, hrecord⟩ := hx
  refine ⟨fun he => absurd he h.after, hm, fun _ => ?_, h0, ?_⟩
  · rw [h.role]
    exact hrole h.before
  · rw [h.role, h.issuer]
    exact hrecord

/-- No more is asked where state and material stay. -/
theorem Slot.SameKey.lawful_of_state (h : x.SameKey y) (hx : x.lawful n) (hs : y.state = x.state)
    (hm : y.material = x.material) : y.lawful n :=
  h.lawful hx (by rw [hs, hm]; exact hx.2.1) (by rw [hs]; exact hx.2.2.2.1)

/-- A general slot moves between the states that keep its material. -/
theorem Slot.SameKey.lawful_of_keeps (h : x.SameKey y) (hx : x.lawful n) (hn : n ≠ 0)
    (hxs : x.state.keepsMaterial = true) (hys : y.state.keepsMaterial = true) (hm : y.material = x.material) :
    y.lawful n :=
  h.lawful hx (by rw [hm, hys, ← hxs]; exact hx.2.1) fun h0 => absurd h0 hn

theorem Slot.distinct_empty (x : Slot) : Slot.empty.distinct x := fun h => absurd rfl h

theorem Slot.distinct_comm (h : x.distinct y) : y.distinct x :=
  fun hy hx ⟨h1, h2, h3⟩ => h hx hy ⟨h1.symm, h2.symm, h3.symm⟩

theorem Slot.state_of_isActive (h : x.isActive = true) : x.state = .active ∧ x.erasePending = false := by
  simpa [Slot.isActive] using h

theorem Slot.not_writes_of_state (h : x.state ≠ .active) (g : Generation) : ¬x.writes g :=
  fun ⟨_, _, _, ha⟩ => h (Slot.state_of_isActive ha).1

theorem Slot.not_writes_of_erasePending (h : x.erasePending = true) (g : Generation) : ¬x.writes g :=
  fun ⟨_, _, _, ha⟩ => by rw [(Slot.state_of_isActive ha).2] at h; cases h

/-- A slot that holds material is in a state that keeps it, with no erase pending (R82). -/
theorem Slot.holdsMaterial_iff : x.holdsMaterial = true ↔ x.state.keepsMaterial = true ∧ x.erasePending = false := by
  unfold Slot.holdsMaterial
  cases x.state <;> cases x.erasePending <;> simp [SlotState.keepsMaterial]

theorem Slot.state_of_holdsMaterial (h : x.holdsMaterial = true) : x.state ≠ .empty ∧ x.state ≠ .partLoaded := by
  have hk := (Slot.holdsMaterial_iff.mp h).1
  constructor <;> intro he <;> rw [he] at hk <;> cases hk

/-- Slot 0 is EMPTY, ACTIVE or FAULTED, so it is ROOT and no generation's slot (R81). -/
theorem Slot.lawful.not_writes_zero (h : x.lawful 0) (g : Generation) : ¬x.writes g := by
  obtain ⟨-, -, hrole, -, -⟩ := h
  rintro ⟨hr, -, -, ha⟩
  have hroot := (hrole (by rw [(Slot.state_of_isActive ha).1]; decide)).1.mpr rfl
  rw [hr] at hroot
  cases hroot

/-! ### The laws after a change of one slot -/

theorem State.managementLawful_of_nothing (ht : t.mgmt.twoPart = .idle) (hi : t.mgmt.inHand = none) :
    t.managementLawful := by
  refine ⟨fun f hf => ?_, fun h n hh => ?_⟩
  · rw [ht] at hf
    cases hf
  · rw [hi] at hh
    cases hh

/-- A slot that is no load's moves on and keeps its erase pending. -/
theorem State.managementLawful_of_slot (h : s.managementLawful) (hs : ∀ m, t.slot m = if m = n then y else s.slot m)
    (ht : t.mgmt.twoPart = s.mgmt.twoPart) (hi : t.mgmt.inHand = s.mgmt.inHand)
    (hp : (s.slot n).state ≠ .partLoaded) (he : (s.slot n).erasePending = true → y.erasePending = true) :
    t.managementLawful := by
  obtain ⟨hload, herase⟩ := h
  refine ⟨fun f hf => ?_, fun w m hw hm => ?_⟩
  · obtain ⟨h0, hstate, hpend⟩ := hload f (ht ▸ hf)
    have hne : f.slot ≠ n := fun hfn => hp (hfn ▸ hstate)
    rw [hs, if_neg hne]
    exact ⟨h0, hstate, hpend⟩
  · obtain ⟨hpend, htwo⟩ := herase w m (hi ▸ hw) hm
    refine ⟨?_, ht.trans htwo⟩
    rw [hs]
    split
    · subst_vars
      exact he hpend
    · exact hpend

/-- One slot alone becomes y. -/
theorem State.keysLawful_of_slot (h : s.keysLawful) (hs : ∀ m, t.slot m = if m = n then y else s.slot m)
    (hy : y.lawful n) (hd : ∀ m, m ≠ n → y.distinct (s.slot m)) (hlock : t.keys.rootLock = s.keys.rootLock)
    (h0 : n = 0 → y.state = .empty ∨ y.erasePending = true → s.keys.rootLock = false)
    (hg : ∀ g, t.keys.writeGen = some g → s.keys.writeGen = some g ∧ ((s.slot n).writes g → y.writes g))
    (hm : t.managementLawful) : t.keysLawful := by
  obtain ⟨⟨hslot, hdist, hroot, hgen⟩, -⟩ := h
  refine ⟨⟨fun m => ?_, fun m k hmk => ?_, fun hr => ?_, fun g hw => ?_⟩, hm⟩
  · show (t.slot m).lawful m
    rw [hs]
    split
    · subst_vars; exact hy
    · exact hslot m
  · show (t.slot m).distinct (t.slot k)
    rw [hs, hs]
    by_cases hmn : m = n <;> by_cases hkn : k = n
    · exact absurd (hmn.trans hkn.symm) hmk
    · rw [if_pos hmn, if_neg hkn]
      exact hd k hkn
    · rw [if_neg hmn, if_pos hkn]
      exact Slot.distinct_comm (hd m hmn)
    · rw [if_neg hmn, if_neg hkn]
      exact hdist m k hmk
  · rw [hlock]
    change (t.slot 0).state = .empty ∨ (t.slot 0).erasePending = true at hr
    rw [hs] at hr
    split at hr
    · exact h0 (Eq.symm ‹_›) hr
    · exact hroot hr
  · obtain ⟨hw, hwrites⟩ := hg g hw
    obtain ⟨m, hr, hi, hk, ha⟩ := hgen g hw
    refine ⟨m, show (t.slot m).writes g from ?_⟩
    rw [hs]
    split
    · rename_i hmn
      subst hmn
      exact hwrites ⟨hr, hi, hk, ha⟩
    · exact ⟨hr, hi, hk, ha⟩

/-- One slot that is in use moves on under the same key. -/
theorem State.keysLawful_of_sameKey (h : s.keysLawful) (hs : ∀ m, t.slot m = if m = n then y else s.slot m)
    (hk : (s.slot n).SameKey y) (hy : y.lawful n) (hlock : t.keys.rootLock = s.keys.rootLock)
    (h0 : n = 0 → y.erasePending = true → s.keys.rootLock = false)
    (hg : ∀ g, t.keys.writeGen = some g → s.keys.writeGen = some g ∧ ((s.slot n).writes g → y.writes g))
    (hm : t.managementLawful) : t.keysLawful :=
  State.keysLawful_of_slot h hs hy (fun m hmn => hk.distinct (h.1.2.1 n m (Ne.symm hmn))) hlock
    (fun hn hr => h0 hn (hr.resolve_left hk.after)) hg hm

/-- One slot that is no generation's becomes EMPTY. -/
theorem State.keysLawful_of_emptied (h : s.keysLawful) (hs : ∀ m, t.slot m = if m = n then Slot.empty else s.slot m)
    (hn : n = 0 → s.keys.rootLock = false) (hw : ∀ g, ¬(s.slot n).writes g)
    (hlock : t.keys.rootLock = s.keys.rootLock) (hgen : t.keys.writeGen = s.keys.writeGen) (hm : t.managementLawful) :
    t.keysLawful :=
  State.keysLawful_of_slot h hs (Slot.lawful_empty n) (fun _ _ => Slot.distinct_empty _) hlock (fun h0 _ => hn h0)
    (fun g hg => ⟨hgen ▸ hg, fun hx => absurd hx (hw g)⟩) hm

/-- The laws read the slots, the lock, the write generation and the management unit alone. -/
theorem State.keysLawful_of_eq (h : s.keysLawful) (hs : t.keys.slots = s.keys.slots)
    (hl : t.keys.rootLock = s.keys.rootLock) (hg : t.keys.writeGen = s.keys.writeGen)
    (hi : t.mgmt.inHand = s.mgmt.inHand) (ht : t.mgmt.twoPart = s.mgmt.twoPart) : t.keysLawful := by
  unfold State.keysLawful KeyStore.lawful State.managementLawful State.slot at h ⊢
  rwa [hs, hl, hg, hi, ht]

/-! ### What keeps the keys -/

/-- t has the device state, the level of RESET and the INIT check list of s, and keeps the laws of the keys. -/
structure KeepsKeys (s t : State) : Prop where
  device : t.device = s.device
  reset : t.lines.reset = s.lines.reset
  initCheck : t.keys.initCheck = s.keys.initCheck
  laws : s.keysLawful → t.keysLawful

namespace KeepsKeys

theorem refl (s : State) : KeepsKeys s s := ⟨rfl, rfl, rfl, id⟩

theorem trans {s t u : State} (h : KeepsKeys s t) (k : KeepsKeys t u) : KeepsKeys s u :=
  ⟨k.device.trans h.device, k.reset.trans h.reset, k.initCheck.trans h.initCheck, k.laws ∘ h.laws⟩

theorem of_keyed {s t : State} (h : t.keyed = s.keyed) : KeepsKeys s t :=
  ⟨State.device_of_keyed h, State.reset_of_keyed h, State.initCheck_of_keyed h, fun hs =>
    State.keysLawful_of_eq hs (State.slots_of_keyed h) (State.rootLock_of_keyed h) (State.writeGen_of_keyed h)
      (State.inHand_of_keyed h) (State.twoPart_of_keyed h)⟩

theorem of_jobsOnly {s t : State} (h : JobsOnly s t) : KeepsKeys s t := of_keyed h.keyed

/-- What the laws do not read follows. -/
theorem keyed {s t u : State} (h : KeepsKeys s t) (k : u.keyed = t.keyed) : KeepsKeys s u := h.trans (of_keyed k)

/-- A meaning that acts where its condition holds and changes nothing elsewhere (log 1). -/
theorem ite {s t : State} {p : Prop} [Decidable p] (h : p → KeepsKeys s t) : KeepsKeys s (if p then t else s) := by
  split
  · exact h ‹_›
  · exact refl s

/-- What each step of a walk through a list keeps, the walk keeps. -/
theorem foldl {α : Type} {f : State → α → State} (h : ∀ s a, KeepsKeys s (f s a)) (l : List α) (s : State) :
    KeepsKeys s (l.foldl f s) := by
  induction l generalizing s with
  | nil => exact refl s
  | cons a l ih => exact (h s a).trans (ih _)

end KeepsKeys

/-! ### The end of a request (R106, R114, R166) -/

/-- The end of a request leaves none in hand. -/
theorem State.finish_keyed (s : State) (st : Status) (data : List Byte) :
    (s.finish st data).keyed = { s.keyed with inHand := none } := by
  unfold State.finish
  split
  · rename_i hi
    unfold State.keyed
    rw [hi]
  · exact State.sendResponse_keyed _ _

theorem State.finish_keepsKeys (s : State) (st : Status) (data : List Byte) : KeepsKeys s (s.finish st data) := by
  refine .trans (t := { s with mgmt := { s.mgmt with inHand := none } }) ⟨rfl, rfl, rfl, fun h => ?_⟩
    (.of_keyed (s.finish_keyed st data))
  exact ⟨h.1, h.2.1, nofun⟩

theorem State.clearTwoPart_keepsKeys (s : State) : KeepsKeys s s.clearTwoPart :=
  ⟨rfl, rfl, rfl, fun h => ⟨h.1, nofun, fun w m hw hm => ⟨(h.2.2 w m hw hm).1, rfl⟩⟩⟩

/-- A load that is discarded leaves its slot EMPTY (R106). -/
theorem State.discardTwoPart_keepsKeys (s : State) : KeepsKeys s s.discardTwoPart := by
  unfold State.discardTwoPart
  split
  · exact .refl s
  · exact s.clearTwoPart_keepsKeys
  · rename_i f hf
    refine ⟨rfl, rfl, rfl, fun h => ?_⟩
    obtain ⟨hne, hstate, -⟩ := h.2.1 f hf
    refine State.keysLawful_of_emptied h (n := f.slot) (fun m => State.slot_changeSlot s f.slot m Slot.empty)
      (fun h0 => absurd h0 hne) (Slot.not_writes_of_state (by rw [hstate]; decide)) rfl rfl ⟨nofun, fun w m hw hm => ?_⟩
    exact absurd (hf.symm.trans (h.2.2 w m hw hm).2) nofun

theorem State.failLoad_keepsKeys (s : State) (st : Status) : KeepsKeys s (s.failLoad st) :=
  s.discardTwoPart_keepsKeys.trans (State.finish_keepsKeys _ _ _)

/-! ### Withdrawals (section 5.5) -/

theorem State.clearWriteGenOf_keyed (s : State) (x : Slot) : (s.clearWriteGenOf x).keyed =
    { s.keyed with writeGen := (s.clearWriteGenOf x).keys.writeGen } := by
  unfold State.clearWriteGenOf State.setWriteGen
  (repeat' split) <;> rfl

/-- What is left as the record write generation is not the slot's (R91). -/
theorem State.clearWriteGenOf_writeGen (s : State) (x : Slot) {g : Generation}
    (h : (s.clearWriteGenOf x).keys.writeGen = some g) : s.keys.writeGen = some g ∧ ¬x.writes g := by
  unfold State.clearWriteGenOf State.setWriteGen at h
  split at h
  · split at h
    · rename_i hn
      exact absurd (hn.symm.trans h) nofun
    · cases h
  · rename_i hx
    refine ⟨h, fun ⟨hr, _, hg, _⟩ => hx ⟨hr, ?_⟩⟩
    rw [h, hg]

theorem State.dropCacheOf_keyed (s : State) (x : Slot) : (s.dropCacheOf x).keyed = s.keyed := by
  rw [State.dropCacheOf_eq]
  rfl

theorem State.jobRemoved_keepsKeys (s : State) (j : Job) : KeepsKeys s (s.jobRemoved j) := by
  unfold State.jobRemoved
  split
  · exact .of_jobsOnly ((s.setOutstanding_jobsOnly _).trans (State.scrubTest_jobsOnly _))
  · exact s.failLoad_keepsKeys _
  · rename_i c _
    have hleft := KeepsKeys.of_jobsOnly (s.jobLeft_jobsOnly c)
    dsimp only
    split
    · exact hleft.keyed (State.endNoWrite_keyed _ c)
    · exact hleft.keyed (State.settleCheck_keyed _ c _)
    all_goals exact hleft

theorem State.masterLost_keyed (s : State) (n : SlotNo) (c : ContextNo) : (s.masterLost n c).keyed = s.keyed := by
  unfold State.masterLost
  repeat' split
  · exact s.endPass_keyed c _
  · rfl
  · rfl

theorem State.foldl_masterLost_keyed (s : State) (n : SlotNo) (l : List ContextNo) :
    (l.foldl (fun s c => s.masterLost n c) s).keyed = s.keyed := by
  induction l generalizing s with
  | nil => rfl
  | cons c l ih => exact (ih _).trans (s.masterLost_keyed n c)

/-- The part as the laws read it when the write generation, the cache, the engines and the queue have been told. -/
theorem State.lossBegun_keyed (s : State) (n : SlotNo) (x : Slot) :
    (s.lossBegun n x).keyed = (s.clearWriteGenOf x).keyed := State.dropCacheOf_keyed _ x

/-- A withdrawal by loss keeps the keys that the notice to the write generation keeps. -/
theorem State.withdrawLoss_keepsKeys {s t : State} {n : SlotNo} {x : Slot} (h : KeepsKeys s (t.clearWriteGenOf x)) :
    KeepsKeys s (t.withdrawLoss n x) := by
  have hheard : KeepsKeys s (t.lossHeard n x) :=
    (h.keyed (t.lossBegun_keyed n x)).trans (.foldl State.jobRemoved_keepsKeys _ _)
  rw [State.withdrawLoss_eq]
  split
  · exact hheard.keyed (State.foldl_masterLost_keyed _ n _)
  · exact hheard

/-- A slot in use that moves on under its key, and is a record write generation's no longer (R91). -/
theorem State.clearWriteGenOf_keepsKeys {s t : State} {n : SlotNo} {y : Slot} (ht : t.keyed = (s.changeSlot n y).keyed)
    (hk : (s.slot n).SameKey y) (hy : (s.slot n).lawful n → y.lawful n)
    (h0 : n = 0 → y.erasePending = true → s.keys.rootLock = false)
    (hm : s.managementLawful → (s.changeSlot n y).managementLawful) :
    KeepsKeys s (t.clearWriteGenOf (s.slot n)) := by
  have hu : (t.clearWriteGenOf (s.slot n)).keyed =
      { (s.changeSlot n y).keyed with writeGen := (t.clearWriteGenOf (s.slot n)).keys.writeGen } :=
    (t.clearWriteGenOf_keyed _).trans (by rw [ht])
  generalize hg : (t.clearWriteGenOf (s.slot n)).keys.writeGen = g at hu
  refine .trans (t := { s.changeSlot n y with keys := { (s.changeSlot n y).keys with writeGen := g } })
    ⟨rfl, rfl, rfl, fun h => ?_⟩ (.of_keyed hu)
  refine State.keysLawful_of_sameKey h (fun m => State.slot_changeSlot s n m y) hk (hy (h.1.1 n)) rfl h0
    (fun g' hg' => ?_) (hm h.2)
  obtain ⟨h1, h2⟩ := t.clearWriteGenOf_writeGen (s.slot n) (hg.trans hg')
  exact ⟨(State.writeGen_of_keyed ht).symm.trans h1, fun hx => absurd hx h2⟩

/-- A slot in use that moves on under its key, and stays that of the generations that it is of. -/
theorem State.changeSlot_keepsKeys {s : State} {n : SlotNo} {y : Slot} (hk : (s.slot n).SameKey y)
    (hy : (s.slot n).lawful n → y.lawful n) (h0 : n = 0 → y.erasePending = true → s.keys.rootLock = false)
    (hg : ∀ g, (s.slot n).writes g → y.writes g) (hm : s.managementLawful → (s.changeSlot n y).managementLawful) :
    KeepsKeys s (s.changeSlot n y) :=
  ⟨rfl, rfl, rfl, fun h => State.keysLawful_of_sameKey h (fun m => State.slot_changeSlot s n m y) hk (hy (h.1.1 n)) rfl h0
    (fun g hw => ⟨hw, hg g⟩) (hm h.2)⟩

/-- A check that fails: the slot keeps its key, without material (R102). -/
theorem State.faultSlot_keepsKeys {s : State} {n : SlotNo} (hn : (s.slot n).holdsMaterial = true) :
    KeepsKeys s (s.faultSlot n) := by
  obtain ⟨hempty, hpart⟩ := Slot.state_of_holdsMaterial hn
  obtain ⟨-, hpend⟩ := Slot.holdsMaterial_iff.mp hn
  exact State.withdrawLoss_keepsKeys (State.clearWriteGenOf_keepsKeys (State.raise_keyed _ _)
    ⟨hempty, nofun, rfl, rfl, rfl⟩
    (fun h => Slot.SameKey.lawful ⟨hempty, nofun, rfl, rfl, rfl⟩ h rfl fun _ => rfl)
    (fun _ hp => absurd (hpend.symm.trans hp) nofun)
    fun h => State.managementLawful_of_slot h (fun m => State.slot_changeSlot s n m _) rfl rfl hpart id)

theorem State.judgeScrub_keepsKeys (s : State) (n : SlotNo) (out : Option Block) : KeepsKeys s (s.judgeScrub n out) := by
  unfold State.judgeScrub
  split
  · exact .refl s
  · dsimp only
    split
    · rename_i r hn
      obtain ⟨hempty, hpart⟩ := Slot.state_of_holdsMaterial hn
      split
      · refine ⟨rfl, rfl, rfl, fun h => ?_⟩
        have hs : ∀ m, (s.setSlot n { s.slot n with lastCheck := s.clock.laneTime }).slot m =
            if m = n then { s.slot n with lastCheck := s.clock.laneTime } else s.slot m := fun m => State.slot_setSlot s n m _
        have hk : (s.slot n).SameKey { s.slot n with lastCheck := s.clock.laneTime } := ⟨hempty, hempty, rfl, rfl, rfl⟩
        refine State.keysLawful_of_sameKey h hs hk (hk.lawful_of_state (h.1.1 n) rfl rfl) rfl
          (fun hn hp => h.1.2.2.1 (.inr (hn ▸ hp))) (fun g hg => ⟨hg, id⟩)
          (State.managementLawful_of_slot h.2 hs rfl rfl hpart id)
      · exact State.faultSlot_keepsKeys hn
    · exact .refl s

end Sys2Proof.Machine
end

section
/-! SUPPORT. What keeps the laws of the key store, continued: the calendar walk, the ends of management jobs, and the key
requests (R84 to R86, R108 to R119). -/

namespace Sys2Proof.Machine

/-! ### The calendar walk (R84 to R86) -/

/-- A walk takes a general slot from one state that keeps material to another. -/
theorem State.walkSlot_keepsKeys (m : Minute) (s : State) {n : SlotNo} (hn : n ≠ 0) : KeepsKeys s (s.walkSlot m n) := by
  have moved : ∀ {st : SlotState}, (s.slot n).state.keepsMaterial = true → st.keepsMaterial = true →
      (s.slot n).SameKey { s.slot n with state := st } ∧
      ((s.slot n).lawful n → ({ s.slot n with state := st } : Slot).lawful n) ∧
      (s.managementLawful → (s.changeSlot n { s.slot n with state := st }).managementLawful) := by
    intro st hx hst
    have hk : (s.slot n).SameKey { s.slot n with state := st } :=
      ⟨fun h => by (rw [h] at hx; cases hx), fun h => by (rw [show st = .empty from h] at hst; cases hst), rfl, rfl, rfl⟩
    exact ⟨hk, fun h => hk.lawful_of_keeps h hn hx hst rfl, fun h => State.managementLawful_of_slot h
      (fun k => State.slot_changeSlot s n k _) rfl rfl (fun h => by (rw [h] at hx; cases hx)) id⟩
  unfold State.walkSlot
  dsimp only
  split
  · rename_i hx
    have hstate : (s.slot n).state.keepsMaterial = true := by
      cases hs : (s.slot n).state <;> simp_all [Slot.expiresAt, SlotState.keepsMaterial]
    obtain ⟨hk, hy, hm⟩ := moved (st := .expired) hstate rfl
    unfold State.expireSlot
    dsimp only
    split
    · rename_i hst
      refine .keyed (State.changeSlot_keepsKeys hk hy (fun h0 => absurd h0 hn) (fun g hw => ?_) hm) (State.raise_keyed _ _)
      exact absurd hw (Slot.not_writes_of_state (by rw [hst]; decide) g)
    · exact .keyed (.trans (State.clearWriteGenOf_keepsKeys rfl hk hy (fun h0 => absurd h0 hn) hm)
        (.trans (.of_keyed (State.dropCacheOf_keyed _ _)) (.of_jobsOnly (State.tellEngines_jobsOnly _ _))))
        (State.raise_keyed _ _)
  · split
    · rename_i hx
      have hst : (s.slot n).state = .staged := by
        cases hs : (s.slot n).state <;> simp_all [Slot.activatesAt]
      obtain ⟨hk, hy, hm⟩ := moved (st := .active) (by rw [hst]; rfl) rfl
      refine State.changeSlot_keepsKeys hk hy (fun h0 => absurd h0 hn) (fun g hw => ?_) hm
      exact absurd hw (Slot.not_writes_of_state (by rw [hst]; decide) g)
    · exact .refl s

theorem State.walk_keepsKeys (s : State) (m : Minute) : KeepsKeys s (s.walk m) := by
  have walked : ∀ (l : List SlotNo) (u : State), (∀ n ∈ l, n ≠ 0) → KeepsKeys u (l.foldl (State.walkSlot m) u) := by
    intro l
    induction l with
    | nil => exact fun u _ => .refl u
    | cons n l ih =>
      exact fun u h => (u.walkSlot_keepsKeys m (h n List.mem_cons_self)).trans
        (ih _ fun k hk => h k (List.mem_cons_of_mem n hk))
  refine walked _ s fun n hn => ?_
  rw [show allSlots.drop 1 = (List.finRange 127).map Fin.succ by unfold allSlots; rw [List.finRange_succ]; rfl] at hn
  obtain ⟨k, -, rfl⟩ := List.mem_map.mp hn
  exact Fin.succ_ne_zero k

/-! ### The ends of management jobs (R109, R113, R114) -/

theorem State.unwrapEnd_keepsKeys (s : State) (j : Job) (out : Option Block) : KeepsKeys s (s.unwrapEnd j out) := by
  unfold State.unwrapEnd
  split
  · exact .of_keyed (State.arrive_keyed _ _)
  · exact s.failLoad_keepsKeys _

/-- A load that is accepted makes its slot STAGED (R114). -/
theorem State.accepted_keepsKeys {s : State} {f : LoadFields} (hf : s.mgmt.twoPart = .load f) (k : Key) :
    KeepsKeys s (s.changeSlot f.slot ((s.slot f.slot).accepted k f.kcv s.clock.laneTime)).clearTwoPart := by
  refine ⟨rfl, rfl, rfl, fun h => ?_⟩
  obtain ⟨hne, hstate, -⟩ := h.2.1 f hf
  have hk : (s.slot f.slot).SameKey ((s.slot f.slot).accepted k f.kcv s.clock.laneTime) :=
    ⟨by rw [hstate]; decide, nofun, rfl, rfl, rfl⟩
  refine State.keysLawful_of_sameKey h (fun m => State.slot_changeSlot s f.slot m _) hk
    (hk.lawful (h.1.1 _) rfl fun h0 => absurd h0 hne) rfl (fun h0 => absurd h0 hne) (fun g hw => ⟨hw, fun hx => ?_⟩)
    ⟨nofun, fun w m hw hm => absurd (hf.symm.trans (h.2.2 w m hw hm).2) nofun⟩
  exact absurd hx (Slot.not_writes_of_state (by rw [hstate]; decide) g)

theorem State.kcvEnd_keepsKeys (s : State) (j : Job) (out : Option Block) : KeepsKeys s (s.kcvEnd j out) := by
  unfold State.kcvEnd
  split
  · rename_i f k hf _
    split
    · exact s.failLoad_keepsKeys _
    · split
      · exact ((State.accepted_keepsKeys hf k).keyed (State.scrubTest_keyed _)).trans (State.finish_keepsKeys _ _ _)
      · exact (s.discardTwoPart_keepsKeys.keyed (State.raise_keyed _ _)).trans (State.finish_keepsKeys _ _ _)
  · exact s.failLoad_keepsKeys _

/-- The root that a COMBINE makes is a lawful slot 0 (R81, R109). -/
theorem rootSlot_lawful (k : Key) (kcv : Kcv) (t : Tick) : (rootSlot k kcv t).lawful 0 :=
  ⟨nofun, rfl, fun _ => ⟨⟨fun _ => rfl, fun _ => rfl⟩, nofun⟩, fun _ => rfl, nofun⟩

/-- No other slot is ROOT (R81). -/
theorem rootSlot_distinct {n : SlotNo} {x : Slot} (h : x.lawful n) (hn : n ≠ 0) (k : Key) (kcv : Kcv) (t : Tick) :
    (rootSlot k kcv t).distinct x :=
  fun _ hx ⟨hr, _⟩ => hn ((h.2.2.1 hx).1.mp hr.symm)

theorem State.rooted_keepsKeys {s : State} {tag code : Byte} {kcv : Kcv}
    (hi : s.mgmt.inHand = some { tag, code, work := .rootPart2 kcv }) (k : Key) :
    KeepsKeys s (s.changeSlot 0 (rootSlot k kcv s.clock.laneTime)).clearTwoPart := by
  refine ⟨rfl, rfl, rfl, fun h => State.keysLawful_of_slot h (fun m => State.slot_changeSlot s 0 m _)
    (rootSlot_lawful _ _ _) (fun m hm => rootSlot_distinct (h.1.1 m) hm _ _ _) rfl ?_ (fun g hw => ⟨hw, fun hx => ?_⟩)
    ⟨nofun, fun w m hw hm => ?_⟩⟩
  · rintro - (he | he) <;> cases he
  · exact absurd hx ((h.1.1 0).not_writes_zero g)
  · obtain rfl := Option.some.inj (hi.symm.trans hw)
    cases hm

theorem State.combineEnd_keepsKeys (s : State) (j : Job) (out : Option Block) : KeepsKeys s (s.combineEnd j out) := by
  unfold State.combineEnd
  split
  · rename_i hi _
    split
    · exact ((State.rooted_keepsKeys hi _).keyed (State.scrubTest_keyed _)).trans (State.finish_keepsKeys _ _ _)
    · exact (s.clearTwoPart_keepsKeys.keyed (State.raise_keyed _ _)).trans (State.finish_keepsKeys _ _ _)
  · exact s.clearTwoPart_keepsKeys.trans (State.finish_keepsKeys _ _ _)

/-! ### Taking a request (R107, R165) -/

theorem State.take_keepsKeys (s : State) (fits : Byte → Bool) {judge : Request → State → State}
    (h : ∀ q t, t.mgmt.inHand = none → KeepsKeys t (judge q t)) : KeepsKeys s (s.take fits judge) := by
  unfold State.take
  split
  · rename_i q hq
    have hi : s.mgmt.inHand = none := by
      unfold State.takeable State.managementFree at hq
      split at hq
      · cases hq
      · split at hq
        · simp_all
        · cases hq
    exact .trans (t := s.popRequest) (.of_keyed rfl) (h _ _ hi)
  · exact .refl s

theorem underOrder_keepsKeys {judge : Request → State → State} (h : ∀ q t, t.noLoad → KeepsKeys t (judge q t))
    (q : Request) (s : State) (hi : s.mgmt.inHand = none) : KeepsKeys s (underOrder judge q s) := by
  unfold underOrder
  split
  · exact h q s ⟨‹_›, hi⟩
  · exact s.discardTwoPart_keepsKeys.keyed (State.respond_keyed _ _ _ _)

theorem outsideInit_keepsKeys {judge : Request → State → State} {q : Request} {s : State}
    (h : KeepsKeys s (judge q s)) : KeepsKeys s (outsideInit judge q s) := by
  unfold outsideInit
  split
  · exact .of_keyed (s.respond_keyed _ _ _)
  · exact h

theorem State.takeRequest_keepsKeys (s : State) (code : Byte) {judge : Request → State → State}
    (h : ∀ q t, t.noLoad → KeepsKeys t (judge q t)) : KeepsKeys s (s.takeRequest code judge) :=
  s.take_keepsKeys _ (underOrder_keepsKeys fun q t ht => outsideInit_keepsKeys (h q t ht))

/-! ### The key requests (R108 to R119) -/

variable {s : State} {q : Request}

theorem judgeRootPart1_keepsKeys (q : Request) (s : State) (hm : s.noLoad) : KeepsKeys s (judgeRootPart1 q s) := by
  unfold judgeRootPart1
  repeat' split
  · exact .of_keyed (s.respond_keyed _ _ _)
  · exact .of_keyed (s.respond_keyed _ _ _)
  · refine .keyed (t := { s with mgmt := { s.mgmt with twoPart := .root (blockAt q.params 0) } })
      ⟨rfl, rfl, rfl, fun h => ⟨h.1, nofun, fun w m hw => ?_⟩⟩ (State.respond_keyed _ _ _ _)
    exact absurd (hm.2.symm.trans hw) nofun

/-- A request that comes to hold the unit for anything but an erase (R105). -/
theorem State.takeInHand_keepsKeys (s : State) (q : Request) {w : HeldWork} (hw : ∀ n, w ≠ .erase n) :
    KeepsKeys s (s.takeInHand q w) :=
  ⟨rfl, rfl, rfl, fun h => ⟨h.1, h.2.1, fun v n hv hn => by
    obtain rfl := Option.some.inj hv
    exact absurd hn (hw n)⟩⟩

theorem judgeRootPart2_keepsKeys (q : Request) (s : State) (_hi : s.mgmt.inHand = none) :
    KeepsKeys s (judgeRootPart2 q s) := by
  unfold judgeRootPart2
  split
  · exact outsideInit_keepsKeys (.keyed (s.takeInHand_keepsKeys q (fun _ h => by cases h)) (State.arrive_keyed _ _))
  all_goals exact s.discardTwoPart_keepsKeys.keyed (State.respond_keyed _ _ _ _)

theorem judgeKeyLoadB_keepsKeys (q : Request) (s : State) (_hi : s.mgmt.inHand = none) :
    KeepsKeys s (judgeKeyLoadB q s) := by
  have refused : ∀ st, KeepsKeys s (s.discardTwoPart.respond q st) := fun st =>
    s.discardTwoPart_keepsKeys.keyed (State.respond_keyed _ _ _ _)
  unfold judgeKeyLoadB
  repeat' split
  · refine outsideInit_keepsKeys ?_
    unfold startUnwrap
    split
    · exact .keyed (s.takeInHand_keepsKeys q (fun _ h => by cases h)) (State.arrive_keyed _ _)
    · exact refused _
  · exact refused _
  · exact refused _
  · exact refused _

/-- The lock is set only over an ACTIVE root (R110). -/
theorem judgeLockRoot_keepsKeys (q : Request) (s : State) : KeepsKeys s (judgeLockRoot q s) := by
  unfold judgeLockRoot
  split
  · rename_i ha
    obtain ⟨hs, hp⟩ := Slot.state_of_isActive ha
    refine .keyed (t := { s with keys := { s.keys with rootLock := true } }) ⟨rfl, rfl, rfl, fun h => ?_⟩
      (State.respond_keyed _ _ _ _)
    refine ⟨⟨h.1.1, h.1.2.1, fun hr => ?_, h.1.2.2.2⟩, h.2⟩
    rcases hr with hr | hr
    · exact absurd (hs.symm.trans hr) nofun
    · exact absurd (hp.symm.trans hr) nofun
  · exact .of_keyed (s.respond_keyed _ _ _)

theorem roleOf_ne_root (b : Byte) : roleOf b ≠ some .root := by
  unfold roleOf
  repeat' split
  all_goals nofun

/-- The slot that a KEY-LOAD-A claims is lawful (R111 check 3). -/
theorem KeyLoadA.claimed_lawful {a : KeyLoadA} (h : a.fieldsGood = true) {n : SlotNo} (hn : n ≠ 0) :
    a.claimed.lawful n := by
  simp only [KeyLoadA.fieldsGood, Bool.and_eq_true, Bool.or_eq_true, bne_iff_ne, beq_iff_eq] at h
  obtain ⟨⟨⟨⟨⟨⟨hrole, -⟩, -⟩, -⟩, -⟩, hrecord⟩, -⟩ := h
  refine ⟨nofun, rfl, fun _ => ⟨⟨fun hr => absurd hr (roleOf_ne_root _), fun h0 => absurd h0 hn⟩, fun hr => ?_⟩,
    fun h0 => absurd h0 hn, fun hr => hrecord.resolve_left fun hne => hne hr⟩
  rw [show roleOf a.role = none from hr] at hrole
  cases hrole

/-- No slot has the role, issuer and generation sought (R80). -/
theorem State.findSlot_eq_none {role : Role} {issuer : Issuer} {g : Generation}
    (h : s.findSlot role issuer g = none) (n : SlotNo) (hs : (s.slot n).state ≠ .empty) :
    ¬((s.slot n).role = some role ∧ (s.slot n).issuer = issuer ∧ (s.slot n).generation = g) := by
  have hn := List.find?_eq_none.mp h n (List.mem_finRange n)
  simpa [hs] using hn

/-- A KEY-LOAD-A that is no duplicate claims a key that no slot has (R111 check 4). -/
theorem KeyLoadA.claimed_distinct {a : KeyLoadA} (hf : a.fieldsGood = true) (h : s.duplicates a = false) (m : SlotNo) :
    a.claimed.distinct (s.slot m) := by
  rintro - hm ⟨hr, hi, hg⟩
  unfold State.duplicates at h
  split at h
  · rename_i role hrole
    have hn : s.findSlot role a.issuer (a.generation.setWidth 4) = none := by
      rwa [Option.isSome_eq_false_iff, Option.isNone_iff_eq_none] at h
    exact State.findSlot_eq_none hn m hm ⟨hr.symm.trans hrole, hi.symm, hg.symm⟩
  · rename_i hrole
    simp [KeyLoadA.fieldsGood, hrole] at hf

theorem ne_zero_of_filter {o : Option SlotNo} {n : SlotNo} (h : o.filter (· ≠ 0) = some n) : n ≠ 0 := by
  simpa using (Option.filter_eq_some_iff.mp h).2

/-- A load that is begun claims its slot (R112). -/
theorem State.claim_keepsKeys {n : SlotNo} {a : KeyLoadA} (hm : s.noLoad) (hn : n ≠ 0) (he : (s.slot n).state = .empty)
    (hf : a.fieldsGood = true) (hd : s.duplicates a = false) :
    KeepsKeys s { s.changeSlot n a.claimed with
      mgmt := { (s.changeSlot n a.claimed).mgmt with twoPart := .load (a.fields n) } } := by
  refine ⟨rfl, rfl, rfl, fun h => State.keysLawful_of_slot h (fun m => State.slot_changeSlot s n m _)
    (KeyLoadA.claimed_lawful hf hn) (fun m _ => KeyLoadA.claimed_distinct hf hd m) rfl (fun h0 => absurd h0 hn)
    (fun g hw => ⟨hw, fun hx => absurd hx (Slot.not_writes_of_state (by rw [he]; decide) g)⟩)
    ⟨fun f hload => ?_, fun w m hw => absurd (hm.2.symm.trans hw) nofun⟩⟩
  obtain rfl := TwoPart.load.inj hload
  show n ≠ 0 ∧ ((s.changeSlot n a.claimed).slot n).state = .partLoaded ∧
    ((s.changeSlot n a.claimed).slot n).erasePending = false
  rw [State.slot_changeSlot_self]
  exact ⟨hn, rfl, rfl⟩

theorem judgeKeyLoadA_keepsKeys (q : Request) (s : State) (hm : s.noLoad) : KeepsKeys s (judgeKeyLoadA q s) := by
  unfold judgeKeyLoadA
  dsimp only
  split
  · exact .of_keyed (s.respond_keyed _ _ _)
  · rename_i n hn
    repeat' split
    · exact .of_keyed (s.respond_keyed _ _ _)
    · exact .of_keyed (s.respond_keyed _ _ _)
    · exact .of_keyed (s.respond_keyed _ _ _)
    · exact .of_keyed (s.respond_keyed _ _ _)
    · refine .keyed (State.claim_keepsKeys hm (ne_zero_of_filter hn) ?_ ?_ ?_) (State.respond_keyed _ _ _ _)
      · exact not_not.mp ‹_›
      · simpa using ‹¬(!(keyLoadAOf q.params).fieldsGood) = true›
      · simpa using ‹¬s.duplicates (keyLoadAOf q.params) = true›

/-- An ACTIVATE that passes its checks finds the slot STAGED (R115). -/
theorem State.staged_of_activateRefusal {x : Slot} (h : s.activateRefusal x = none) : x.state = .staged := by
  unfold State.activateRefusal at h
  split at h
  · cases h
  · rename_i hst
    exact not_not.mp fun hs => hst (.inl hs)

theorem judgeActivate_keepsKeys (q : Request) (s : State) : KeepsKeys s (judgeActivate q s) := by
  unfold judgeActivate
  split
  · exact .of_keyed (s.respond_keyed _ _ _)
  · rename_i n hn
    split
    · exact .of_keyed (s.respond_keyed _ _ _)
    · rename_i hr
      have hst := State.staged_of_activateRefusal hr
      have hk : (s.slot n).SameKey { s.slot n with state := .active } := ⟨by rw [hst]; decide, nofun, rfl, rfl, rfl⟩
      refine .keyed (State.changeSlot_keepsKeys hk
        (fun h => hk.lawful_of_keeps h (ne_zero_of_filter hn) (by rw [hst]; rfl) rfl rfl)
        (fun h0 => absurd h0 (ne_zero_of_filter hn)) (fun g hw => ?_)
        fun h => State.managementLawful_of_slot h (fun k => State.slot_changeSlot s n k _) rfl rfl (by rw [hst]; decide) id)
        (State.respond_keyed _ _ _ _)
      exact absurd hw (Slot.not_writes_of_state (by rw [hst]; decide) g)

theorem judgeRetire_keepsKeys (q : Request) (s : State) : KeepsKeys s (judgeRetire q s) := by
  unfold judgeRetire
  split
  · exact .of_keyed (s.respond_keyed _ _ _)
  · rename_i n hn
    dsimp only
    split
    · rename_i ha
      obtain ⟨hst, -⟩ := Slot.state_of_isActive ha
      have hk : (s.slot n).SameKey { s.slot n with state := .retiring } := ⟨by rw [hst]; decide, nofun, rfl, rfl, rfl⟩
      exact .keyed (State.clearWriteGenOf_keepsKeys rfl hk
        (fun h => hk.lawful_of_keeps h (ne_zero_of_filter hn) (by rw [hst]; rfl) rfl rfl)
        (fun h0 => absurd h0 (ne_zero_of_filter hn))
        fun h => State.managementLawful_of_slot h (fun k => State.slot_changeSlot s n k _) rfl rfl (by rw [hst]; decide) id)
        (State.respond_keyed _ _ _ _)
    · exact .of_keyed (s.respond_keyed _ _ _)

/-! ### The record write generation (R117) -/

theorem State.setWriteGen_keepsKeys {g : Option Generation} (h : ∀ k, g = some k → s.recordActive k = true) :
    KeepsKeys s (s.setWriteGen g) := by
  unfold State.setWriteGen
  split
  · exact .refl s
  · refine ⟨rfl, rfl, rfl, fun hs => ⟨⟨hs.1.1, hs.1.2.1, hs.1.2.2.1, fun k hk => ?_⟩, hs.2⟩⟩
    have ha := h k hk
    unfold State.recordActive at ha
    split at ha
    · rename_i n hn
      obtain ⟨hrole, hgen⟩ := State.findSlot_spec hn
      exact ⟨n, hrole, (hs.1.1 n).2.2.2.2 hrole, hgen, ha⟩
    · cases ha

theorem judgeSelectWriteGen_keepsKeys (q : Request) (s : State) : KeepsKeys s (judgeSelectWriteGen q s) := by
  unfold judgeSelectWriteGen
  dsimp only
  repeat' split
  · exact .keyed (State.setWriteGen_keepsKeys fun _ h => by cases h) (State.respond_keyed _ _ _ _)
  · exact .keyed (State.setWriteGen_keepsKeys fun k hk => Option.some.inj hk ▸ ‹_›) (State.respond_keyed _ _ _ _)
  · exact .of_keyed (s.respond_keyed _ _ _)
  · exact .of_keyed (s.respond_keyed _ _ _)

/-! ### ERASE (R118, R119) -/

/-- A slot with its erase pending, and no load: the withdrawal by loss keeps the laws. -/
theorem State.beginErase_keepsKeys {n : SlotNo} (hm : s.noLoad) (he : (s.slot n).state ≠ .empty)
    (h0 : n = 0 → s.keys.rootLock = false) : KeepsKeys s (s.beginErase n) := by
  have hk : (s.slot n).SameKey { s.slot n with erasePending := true } := ⟨he, he, rfl, rfl, rfl⟩
  exact State.withdrawLoss_keepsKeys (State.clearWriteGenOf_keepsKeys rfl hk (fun h => hk.lawful_of_state h rfl rfl)
    (fun hn _ => h0 hn) fun _ => State.managementLawful_of_nothing hm.1 hm.2)

theorem PassesGoOn.keyed {own : ContextNo → Prop} {s t : State} (h : PassesGoOn own s t) : t.keyed = s.keyed := by
  rw [h.rest]
  rfl

/-- An erase that is begun finds nothing pending, and leaves the slot erase pending. -/
theorem State.beginErase_pending {n : SlotNo} (hm : s.noLoad) : (s.beginErase n).noLoad ∧
    ((s.beginErase n).slot n).erasePending = true ∧ (s.beginErase n).keys.rootLock = s.keys.rootLock := by
  have hloses : (s.changeSlot n { s.slot n with erasePending := true }).loses n (s.slot n) :=
    ⟨hm, rfl, by rw [State.slot_changeSlot_self]; rfl, by rw [State.slot_changeSlot_self], by rw [State.slot_changeSlot_self]⟩
  have hk := (State.withdrawLoss_passesGoOn hloses).keyed.trans
    ((State.lossBegun_keyed _ n (s.slot n)).trans (State.clearWriteGenOf_keyed _ _))
  change (s.beginErase n).keyed = _ at hk
  refine ⟨⟨(congrArg Keyed.twoPart hk).trans hm.1, (congrArg Keyed.inHand hk).trans hm.2⟩, ?_, congrArg Keyed.rootLock hk⟩
  rw [show (s.beginErase n).slot n = (s.changeSlot n { s.slot n with erasePending := true }).slot n from
    congrArg (fun k => tableGet (Keyed.slots k) n) hk, State.slot_changeSlot_self]

/-- An erase completes: its slot, erase pending, becomes EMPTY, and nothing is in hand or pending (R119). -/
theorem State.emptySlot_lawful {t : State} {n : SlotNo} (h : s.keysLawful) (hp : (s.slot n).erasePending = true)
    (ht : t.keyed = { (s.emptySlot n).keyed with inHand := none, twoPart := .idle }) : t.keysLawful :=
  State.keysLawful_of_emptied h (n := n)
    (fun m => (congrArg (fun k => tableGet (Keyed.slots k) m) ht).trans (State.slot_changeSlot s n m Slot.empty))
    (fun hn => h.1.2.2.1 (.inr (hn ▸ hp))) (Slot.not_writes_of_erasePending hp) (congrArg Keyed.rootLock ht)
    (congrArg Keyed.writeGen ht) (State.managementLawful_of_nothing (congrArg Keyed.twoPart ht) (congrArg Keyed.inHand ht))

theorem judgeErase_keepsKeys (q : Request) (s : State) (hm : s.noLoad) : KeepsKeys s (judgeErase q s) := by
  unfold judgeErase
  split
  · exact .of_keyed (s.respond_keyed _ _ _)
  · rename_i n _
    repeat' split
    · exact .of_keyed (s.respond_keyed _ _ _)
    · exact .of_keyed (s.respond_keyed _ _ _)
    · rename_i he hl
      have hbegun := State.beginErase_keepsKeys (n := n) hm he
        fun hn => Bool.eq_false_iff.mpr fun hlock => hl ⟨hn, hlock⟩
      obtain ⟨hload, hp, -⟩ := State.beginErase_pending (n := n) hm
      refine hbegun.trans ?_
      dsimp only
      split
      · refine ⟨rfl, rfl, rfl, fun h => ⟨h.1, h.2.1, fun w m hw hm => ?_⟩⟩
        obtain rfl := Option.some.inj hw
        obtain rfl := HeldWork.erase.inj hm
        exact ⟨hp, hload.1⟩
      · refine .keyed (t := (s.beginErase n).emptySlot n) ⟨rfl, rfl, rfl, fun h => ?_⟩ (State.respond_keyed _ _ _ _)
        refine State.emptySlot_lawful h hp ?_
        rw [← hload.1, ← hload.2]
        rfl

theorem State.eraseDue_eq_some {n : SlotNo} (h : s.eraseDue = some n) :
    ∃ w, s.mgmt.inHand = some w ∧ w.work = .erase n := by
  unfold State.eraseDue at h
  split at h
  · split at h
    · cases h
    · exact ⟨_, ‹_›, congrArg HeldWork.erase (Option.some.inj h)⟩
  · cases h

theorem execEraseCompletion_keepsKeys (s : State) : ∃ t, execEraseCompletion s = .next t ∧ KeepsKeys s t := by
  refine ⟨_, rfl, ?_⟩
  split
  · rename_i n hn
    have hk := (s.emptySlot n).finish_keyed .ok [BitVec.ofNat 8 n.val]
    refine ⟨congrArg Keyed.device hk, congrArg Keyed.reset hk, congrArg Keyed.initCheck hk, fun h => ?_⟩
    obtain ⟨w, hw, hwork⟩ := State.eraseDue_eq_some hn
    obtain ⟨hp, htwo⟩ := h.2.2 w n hw hwork
    refine State.emptySlot_lawful h hp (hk.trans ?_)
    rw [← htwo]
    rfl
  · exact .refl s

end Sys2Proof.Machine
end

section
/-! SUPPORT. What keeps the laws of the key store, concluded: the other requests, the ends of scrubs, the wipes, the
resets, and so every command (R83, R87, R92, R100, R123, R178 to R183). -/

namespace Sys2Proof.Machine

variable {s t : State} {n : SlotNo}

/-! ### The status requests (chapters 2, 9 and 10) -/

theorem judgeClearEvents_keyed (q : Request) (s : State) : (judgeClearEvents q s).keyed = s.keyed := by
  unfold judgeClearEvents
  split
  · exact State.respond_keyed _ _ _ _
  · exact s.respond_keyed _ _ _

theorem judgeSetAlertMask_keyed (q : Request) (s : State) : (judgeSetAlertMask q s).keyed = s.keyed := by
  unfold judgeSetAlertMask
  split
  · exact State.respond_keyed _ _ _ _
  · exact s.respond_keyed _ _ _

theorem judgeSetProfile_keyed (q : Request) (s : State) : (judgeSetProfile q s).keyed = s.keyed := by
  unfold judgeSetProfile
  dsimp only
  repeat' split
  · exact s.respond_keyed _ _ _
  · exact s.respond_keyed _ _ _
  · exact State.respond_keyed _ _ _ _

theorem judgeSetTiming_keyed (q : Request) (s : State) : (judgeSetTiming q s).keyed = s.keyed := by
  have changed : ∀ (s : State) old, (s.timingChanged old).keyed = s.keyed := by
    intro s old
    unfold State.timingChanged
    dsimp only
    repeat' split
    · exact (State.noteOverdue_jobsOnly _).keyed
    · rfl
    · exact (State.noteOverdue_jobsOnly _).keyed
    · rfl
  exact (State.respond_keyed _ _ _ _).trans (changed { s with profile := s.profile.update (setTimingOf q.params) } _)

theorem judgeReadSlot_keyed (q : Request) (s : State) : (judgeReadSlot q s).keyed = s.keyed := by
  unfold judgeReadSlot
  split
  · exact s.respond_keyed _ _ _
  · exact s.respond_keyed _ _ _

theorem judgeSetCalendar_keepsKeys (q : Request) (s : State) : KeepsKeys s (judgeSetCalendar q s) :=
  .keyed (.trans (t := { s with clock := { s.clock with
    calendarSet := true, minute := BitVec.ofNat 32 (field q.params 0 4), minuteTimer := 0, advanceDue := false } })
    (.of_keyed rfl) (State.walk_keepsKeys _ _)) (State.respond_keyed _ _ _ _)

theorem State.advanceCalendar_keepsKeys (s : State) : KeepsKeys s s.advanceCalendar := by
  unfold State.advanceCalendar
  dsimp only
  split
  · exact .of_keyed rfl
  · exact .trans (t := { s with clock := { s.clock with advanceDue := false, minute := s.clock.minute + 1 } })
      (.of_keyed rfl) (State.walk_keepsKeys _ _)

/-! ### The end of any job (R100, R131 to R133) -/

/-- The laws of the keys hold after the end of a scrub, whatever follows it (R100, R103). -/
theorem State.afterScrub_keysLawful (h : s.keysLawful) : s.afterScrub.keysLawful := by
  obtain ⟨d, l, hj⟩ := s.afterScrub_frame
  exact (KeepsKeys.of_jobsOnly hj).laws h

theorem State.scrubEnd_keysLawful (h : s.keysLawful) (j : Job) (out : Option Block) :
    (s.scrubEnd j out).keysLawful := by
  unfold State.scrubEnd
  split
  · exact State.afterScrub_keysLawful ((s.judgeScrub_keepsKeys _ out).laws h)
  all_goals exact State.afterScrub_keysLawful h

/-- The end of a scrub that no INIT check waits for. -/
theorem State.scrubEnd_keepsKeys (h : s.device ≠ .init ∨ s.keys.initCheck = []) (j : Job) (out : Option Block) :
    KeepsKeys s (s.scrubEnd j out) := by
  unfold State.scrubEnd
  split
  · rename_i n _
    have hk := s.judgeScrub_keepsKeys n out
    exact hk.trans (.of_jobsOnly (State.afterScrub_jobsOnly (by rw [hk.device, hk.initCheck]; exact h)))
  all_goals exact .of_jobsOnly (State.afterScrub_jobsOnly h)

/-- The end of a job that is no scrub. -/
theorem State.deliver_keepsKeys (s : State) {j : Job} (hk : j.kind ≠ .scrub) (out : Option Block) :
    KeepsKeys s (s.deliver j out) := by
  unfold State.deliver
  cases h : j.kind with
  | derive => exact .of_keyed (s.deriveEnd_keyed j out)
  | session => exact .of_keyed (s.sessionEnd_keyed j out)
  | ra => exact .of_keyed (s.raEnd_keyed j out)
  | ta => exact .of_keyed (s.taEnd_keyed j out)
  | wa => exact .of_keyed (s.waEnd_keyed j out)
  | ca => exact .of_keyed (s.caEnd_keyed j out)
  | recordCompute => exact .of_keyed (s.computeEnd_keyed j out)
  | recordVerify => exact .of_keyed (s.verifyEnd_keyed j out)
  | unwrap => exact s.unwrapEnd_keepsKeys j out
  | kcv => exact s.kcvEnd_keepsKeys j out
  | combine => exact s.combineEnd_keepsKeys j out
  | scrub => exact absurd h hk

theorem State.deliver_of_scrub {j : Job} (h : j.kind = .scrub) (out : Option Block) :
    s.deliver j out = s.scrubEnd j out := by
  unfold State.deliver
  rw [h]

theorem State.deliver_keysLawful (h : s.keysLawful) (j : Job) (out : Option Block) : (s.deliver j out).keysLawful := by
  by_cases hk : j.kind = .scrub
  · rw [State.deliver_of_scrub hk]
    exact State.scrubEnd_keysLawful h j out
  · exact (s.deliver_keepsKeys hk out).laws h

/-- The completion of a job keeps what its owner's action keeps (R132). -/
theorem State.completeJob_keepsKeys (s : State) (e : EngineNo) (kind : JobKind)
    {act : Job → Option Block → State → State} (h : ∀ j out, KeepsKeys s (act j out s)) :
    KeepsKeys s (s.completeJob e kind act) := by
  unfold State.completeJob
  split
  · split
    · exact (h _ _).trans (.of_jobsOnly (State.afterEnd_jobsOnly _ e))
    · exact .refl s
  all_goals exact .refl s

theorem State.completeScrub_keysLawful (h : s.keysLawful) (e : EngineNo) :
    (s.completeJob e .scrub State.scrubEnd).keysLawful := by
  unfold State.completeJob
  split
  · split
    · exact (KeepsKeys.of_jobsOnly (State.afterEnd_jobsOnly _ e)).laws (State.scrubEnd_keysLawful h _ _)
    · exact h
  all_goals exact h

theorem State.completeOpening_keysLawful (h : s.keysLawful) (e : EngineNo) : (s.completeOpening e).keysLawful := by
  unfold State.completeOpening
  dsimp only
  repeat' split
  · exact (KeepsKeys.of_jobsOnly (State.afterEnd_jobsOnly _ e)).laws (State.deliver_keysLawful h _ _)
  all_goals exact h

/-- The end of an opening that no INIT check waits for. -/
theorem State.completeOpening_keepsKeys (h : s.device ≠ .init ∨ s.keys.initCheck = []) (e : EngineNo) :
    KeepsKeys s (s.completeOpening e) := by
  unfold State.completeOpening
  dsimp only
  repeat' split
  · rename_i j _ _
    refine .trans ?_ (.of_jobsOnly (State.afterEnd_jobsOnly _ e))
    by_cases hk : j.kind = .scrub
    · rw [State.deliver_of_scrub hk]
      exact State.scrubEnd_keepsKeys h j none
    · exact s.deliver_keepsKeys hk none
  · exact .of_jobsOnly (s.setEngine_jobsOnly _ _)
  all_goals exact .refl s

/-! ### Wipes and resets (R83, R87, R92, R123, R179, R181 to R183) -/

/-- A part without keys and without a request in hand. -/
theorem State.keysLawful_of_empty (hs : ∀ n, s.slot n = Slot.empty) (hl : s.keys.rootLock = false)
    (hg : s.keys.writeGen = none) (ht : s.mgmt.twoPart = .idle) (hi : s.mgmt.inHand = none) : s.keysLawful := by
  refine ⟨⟨fun n => ?_, fun n m _ => ?_, fun _ => hl, fun g h => absurd (hg.symm.trans h) nofun⟩,
    State.managementLawful_of_nothing ht hi⟩
  · show (s.slot n).lawful n
    rw [hs]
    exact Slot.lawful_empty n
  · show (s.slot n).distinct (s.slot m)
    rw [hs]
    exact Slot.distinct_empty _

theorem State.wipe_keyed (s : State) : s.wipe.keyed =
    { device := if s.device = .hold then .hold else .maintenance, reset := s.lines.reset
      slots := Vector.replicate 128 Slot.empty, rootLock := false, writeGen := none, initCheck := []
      inHand := none, twoPart := .idle } := by
  rw [State.wipe_eq, State.raise_keyed]
  rfl

theorem State.wipe_keysLawful (s : State) : s.wipe.keysLawful :=
  State.keysLawful_of_empty s.wipe_slot (congrArg Keyed.rootLock s.wipe_keyed) (congrArg Keyed.writeGen s.wipe_keyed)
    (congrArg Keyed.twoPart s.wipe_keyed) (congrArg Keyed.inHand s.wipe_keyed)

theorem State.wipes_keysLawful (h : s.keysLawful) (k : Nat) : (s.wipes k).keysLawful := by
  induction k generalizing s with
  | zero => exact h
  | succ k ih => exact ih s.wipe_keysLawful

/-- Each slot is kept or becomes EMPTY, the ACTIVE slot of the write generation is kept, and nothing is in hand. -/
theorem State.keysLawful_of_kept (h : s.keysLawful) (hs : ∀ n, t.slot n = s.slot n ∨ t.slot n = Slot.empty)
    (hl : t.keys.rootLock = s.keys.rootLock)
    (h0 : t.slot 0 = s.slot 0 ∨ (s.slot 0).erasePending = true)
    (hg : ∀ g, t.keys.writeGen = some g → ∃ n, (t.slot n).writes g) (ht : t.mgmt.twoPart = .idle)
    (hi : t.mgmt.inHand = none) : t.keysLawful := by
  obtain ⟨⟨hslot, hdist, hroot, -⟩, -⟩ := h
  refine ⟨⟨fun n => ?_, fun n m hnm => ?_, fun hr => ?_, hg⟩, State.managementLawful_of_nothing ht hi⟩
  · show (t.slot n).lawful n
    rcases hs n with h | h <;> rw [h]
    · exact hslot n
    · exact Slot.lawful_empty n
  · show (t.slot n).distinct (t.slot m)
    rcases hs n with h | h <;> rw [h]
    · rcases hs m with k | k <;> rw [k]
      · exact hdist n m hnm
      · exact Slot.distinct_comm (Slot.distinct_empty _)
    · exact Slot.distinct_empty _
  · rw [hl]
    rcases h0 with h0 | h0
    · change (t.slot 0).state = .empty ∨ (t.slot 0).erasePending = true at hr
      rw [h0] at hr
      exact hroot hr
    · exact hroot (.inr h0)

theorem Slot.atHold_cases (n : SlotNo) (x : Slot) : x.atHold n = x ∨ x.atHold n = Slot.empty := by
  unfold Slot.atHold
  repeat' split
  · exact .inr rfl
  · exact .inl rfl
  · exact .inl rfl
  · exact .inr rfl

theorem KeyStore.atHold_rootLock (k : KeyStore) : k.atHold.rootLock = k.rootLock := by
  unfold KeyStore.atHold
  dsimp only

theorem State.enterHold_slot (s : State) (n : SlotNo) : s.enterHold.slot n = (s.slot n).atHold n :=
  tableGet_tableMap _ _ _

/-- The write generation that HOLD entry keeps has its slot ACTIVE (R87, R92). -/
theorem keptWriteGen_eq_some {slots : Vector Slot 128} {w : Option Generation} {g : Generation}
    (h : keptWriteGen slots w = some g) : w = some g ∧
      ∃ n, (tableGet slots n).role = some .record ∧ (tableGet slots n).generation = g ∧
        (tableGet slots n).isActive = true := by
  obtain ⟨hw, hany⟩ := Option.filter_eq_some_iff.mp h
  obtain ⟨n, -, hn⟩ := List.any_eq_true.mp hany
  simp only [Bool.and_eq_true, beq_iff_eq] at hn
  exact ⟨hw, n, hn.1.1, hn.1.2, hn.2⟩

theorem State.enterHold_keysLawful (h : s.keysLawful) : s.enterHold.keysLawful := by
  have hslot : ∀ n, s.enterHold.slot n = s.slot n ∨ s.enterHold.slot n = Slot.empty := fun n => by
    rw [State.enterHold_slot]
    exact Slot.atHold_cases n _
  refine State.keysLawful_of_kept h hslot (KeyStore.atHold_rootLock _) ?_ (fun g hg => ?_) rfl rfl
  · rw [State.enterHold_slot]
    unfold Slot.atHold
    split
    · exact .inr ‹_›
    · exact .inl (if_pos rfl)
  · obtain ⟨-, n, hr, hgen, ha⟩ := keptWriteGen_eq_some hg
    refine ⟨n, hr, ?_, hgen, ha⟩
    rcases hslot n with hn | hn
    · rw [hn]
      exact (h.1.1 n).2.2.2.2 (show (s.slot n).role = _ from hn ▸ hr)
    · rw [hn]
      rfl

theorem Slot.atLaneReset_cases (x : Slot) : x.atLaneReset = x ∨ x.atLaneReset = Slot.empty := by
  unfold Slot.atLaneReset
  split
  · exact .inr rfl
  · exact .inl rfl

theorem KeyStore.atLaneReset_rootLock (k : KeyStore) : k.atLaneReset.rootLock = k.rootLock := by
  unfold KeyStore.atLaneReset
  dsimp only

theorem KeyStore.atLaneReset_writeGen (k : KeyStore) : k.atLaneReset.writeGen = k.writeGen := by
  unfold KeyStore.atLaneReset
  dsimp only

theorem State.resetLane_slot (s : State) (n : SlotNo) : s.resetLane.slot n = (s.slot n).atLaneReset :=
  tableGet_tableMap _ _ _

/-- An ACTIVE slot is kept (R83). -/
theorem Slot.atLaneReset_of_isActive {x : Slot} (h : x.isActive = true) : x.atLaneReset = x := by
  obtain ⟨hs, hp⟩ := Slot.state_of_isActive h
  simp [Slot.atLaneReset, hs, hp]

theorem State.resetLane_keysLawful (h : s.keysLawful) : s.resetLane.keysLawful := by
  refine State.keysLawful_of_kept h (fun n => ?_) (KeyStore.atLaneReset_rootLock _) ?_ (fun g hg => ?_) rfl rfl
  · rw [State.resetLane_slot]
    exact Slot.atLaneReset_cases _
  · rw [State.resetLane_slot]
    unfold Slot.atLaneReset
    split
    · rename_i hx
      refine .inr (hx.resolve_left fun hp => ?_)
      have hroot := (h.1.1 0).2.2.2.1 rfl
      rw [show (tableGet s.keys.slots 0).state = .partLoaded from hp] at hroot
      cases hroot
    · exact .inl rfl
  · obtain ⟨n, hr, hi, hgen, ha⟩ := h.1.2.2.2 g ((KeyStore.atLaneReset_writeGen _).symm.trans hg)
    refine ⟨n, ?_⟩
    rw [State.resetLane_slot, Slot.atLaneReset_of_isActive (x := s.slot n) ha]
    exact ⟨hr, hi, hgen, ha⟩

theorem State.continueInitCheck_keysLawful (h : s.keysLawful) : s.continueInitCheck.keysLawful := by
  unfold State.continueInitCheck
  split
  · exact (KeepsKeys.of_jobsOnly (State.scrubTest_jobsOnly _)).laws h
  · exact (KeepsKeys.of_jobsOnly (s.issueScrub_jobsOnly _ _)).laws h

/-- The part in INIT with its check list, no check of it issued yet (R103). -/
def State.initBegun (s : State) : State :=
  { s with
    device := .init
    keys := { s.keys with initCheck := allSlots.filter fun n => (s.slot n).holdsMaterial, outstanding := none }
    lines := { s.lines with zeroiseLatched := 0 } }

theorem State.enterInit_eq (s : State) : s.enterInit = State.wipes s.lines.zeroiseLatched s.initBegun.continueInitCheck := by
  rfl

theorem State.enterInit_keysLawful (h : s.keysLawful) : s.enterInit.keysLawful :=
  State.wipes_keysLawful (State.continueInitCheck_keysLawful (s := s.initBegun) h) _

theorem State.powerOn_keysLawful (s : State) : s.powerOn.keysLawful := by
  have h : s.powerOnBlocks.keysLawful :=
    State.keysLawful_of_empty (fun n => tableGet_replicate _ n) rfl rfl rfl rfl
  unfold State.powerOn
  dsimp only
  repeat' split
  · exact State.enterHold_keysLawful h
  · exact h
  · exact State.enterInit_keysLawful h

theorem State.exitHold_keysLawful (h : s.keysLawful) : s.exitHold.keysLawful := by
  unfold State.exitHold
  dsimp only
  split
  · exact h
  · exact State.enterInit_keysLawful h

/-! ### The lines, and the requests that move the part (R122, R177, R178 to R182) -/

theorem State.leaveHold_keysLawful (h : s.keysLawful) : s.leaveHold.keysLawful := by
  unfold State.leaveHold
  split
  · exact State.exitHold_keysLawful h
  · exact h

theorem State.assertZeroise_keysLawful (h : s.keysLawful) : s.assertZeroise.keysLawful := by
  unfold State.assertZeroise
  split
  · exact h
  · exact s.wipe_keysLawful

theorem State.assertSupplyFail_keysLawful (h : s.keysLawful) : s.assertSupplyFail.keysLawful := by
  unfold State.assertSupplyFail
  dsimp only
  repeat' split
  · exact h
  · exact h
  · exact State.enterHold_keysLawful (s := s.setLines _) h

theorem State.deassertSupplyFail_keysLawful (h : s.keysLawful) : s.deassertSupplyFail.keysLawful := by
  unfold State.deassertSupplyFail
  split
  · exact State.leaveHold_keysLawful (s := s.setLines _) h
  · exact h

theorem State.assertWake_keysLawful (h : s.keysLawful) : s.assertWake.keysLawful := by
  unfold State.assertWake
  split
  · exact h
  · exact State.leaveHold_keysLawful (s := s.setLines _) h

theorem State.assertReset_keysLawful (h : s.keysLawful) : s.assertReset.keysLawful := by
  unfold State.assertReset
  dsimp only
  repeat' split
  · exact h
  · exact h
  · exact State.resetLane_keysLawful (s := s.setLines _) h

theorem State.deassertReset_keysLawful (h : s.keysLawful) : s.deassertReset.keysLawful := by
  unfold State.deassertReset
  dsimp only
  repeat' split
  · exact h
  · exact State.enterInit_keysLawful (s := { s with clock := _, lines := _, events := _ }) h
  · exact h

theorem State.respond_keysLawful (h : s.keysLawful) (q : Request) (st : Status) (data : List Byte) :
    (s.respond q st data).keysLawful := (KeepsKeys.of_keyed (s.respond_keyed q st data)).laws h

/-- A request keeps the laws where its judgement keeps them (R165). -/
theorem State.take_keysLawful {fits : Byte → Bool} {judge : Request → State → State}
    (h : ∀ q t, t.keysLawful → (judge q t).keysLawful) (hs : s.keysLawful) : (s.take fits judge).keysLawful := by
  unfold State.take
  split
  · exact h _ _ hs
  · exact hs

theorem outsideInit_keysLawful {judge : Request → State → State} (h : ∀ q t, t.keysLawful → (judge q t).keysLawful)
    (q : Request) (s : State) (hs : s.keysLawful) : (outsideInit judge q s).keysLawful := by
  unfold outsideInit
  split
  · exact State.respond_keysLawful hs _ _ _
  · exact h q s hs

theorem State.takeRequest_keysLawful {code : Byte} {judge : Request → State → State}
    (h : ∀ q t, t.keysLawful → (judge q t).keysLawful) (hs : s.keysLawful) : (s.takeRequest code judge).keysLawful := by
  refine State.take_keysLawful (fun q t ht => ?_) hs
  unfold underOrder
  split
  · exact outsideInit_keysLawful h q t ht
  · exact State.respond_keysLawful (t.discardTwoPart_keepsKeys.laws ht) _ _ _

theorem judgeSetService_keysLawful (q : Request) (s : State) (h : s.keysLawful) : (judgeSetService q s).keysLawful := by
  unfold judgeSetService
  split
  · unfold judgeServiceOff
    refine State.respond_keysLawful ?_ _ _ _
    split
    · exact (KeepsKeys.of_jobsOnly (State.scrubTest_jobsOnly _)).laws (s := { s with device := .maintenance }) h
    · exact h
  · split
    · unfold judgeServiceOn
      split
      · exact State.respond_keysLawful (s := { s with device := .service }) h _ _ _
      · exact State.respond_keysLawful h _ _ _
    · exact State.respond_keysLawful h _ _ _

theorem judgeHold_keysLawful (q : Request) (s : State) (h : s.keysLawful) : (judgeHold q s).keysLawful :=
  State.respond_keysLawful (State.enterHold_keysLawful h) _ _ _

theorem judgeZeroise_keysLawful (q : Request) (s : State) (_h : s.keysLawful) : (judgeZeroise q s).keysLawful :=
  State.respond_keysLawful s.wipe_keysLawful _ _ _

/-! ### Every command -/

/-- A command that may move the part to another device state, or end a check of INIT. -/
def movesPart : Instr → Bool
  | .openCompletion _ | .scrubJobCompletion _ | .setService | .hold | .zeroise | .zeroiseLine | .supplyFail | .wake
  | .supplyFailDeasserted | .laneReset | .resetDeasserted | .powerOnReset => true
  | _ => false

theorem execConfirmationDeadline_keepsKeys (h : Byte) (s : State) :
    ∃ t, execConfirmationDeadline h s = .next t ∧ KeepsKeys s t := by
  refine ⟨_, rfl, ?_⟩
  repeat' split
  · exact .of_keyed (State.reportFailed_keyed _ _)
  · exact .refl s
  · exact .refl s

theorem State.uplink_keepsKeys (s : State) (kind : Byte) (f : PortFrame) {act : State → State}
    (h : (act s).keyed = s.keyed) : KeepsKeys s (s.uplink kind f act) :=
  .of_keyed (s.uplink_keyed kind f h)

theorem execOther_keepsKeys (kind : Byte) (f : PortFrame) (s : State) :
    ∃ t, execOther kind f s = .next t ∧ KeepsKeys s t := by
  unfold execOther
  repeat' split
  · exact ⟨_, rfl, s.uplink_keepsKeys _ f (s.offerTagFrame_keyed _ _ (s.judgeHello_keyed _))⟩
  · exact ⟨_, rfl, s.uplink_keepsKeys _ f (s.offerTagFrame_keyed _ _ (s.judgeData_keyed _))⟩
  · exact ⟨_, rfl, s.uplink_keepsKeys _ f (s.offerTagFrame_keyed _ _ (s.judgeCommit_keyed _))⟩
  · exact ⟨_, rfl, s.uplink_keepsKeys _ f rfl⟩
  · exact ⟨_, rfl, s.uplink_keepsKeys _ f (s.takeSent_keyed _)⟩
  · exact ⟨_, rfl, s.uplink_keepsKeys _ f (s.takeSendFailed_keyed _)⟩
  · exact ⟨_, rfl, s.uplink_keepsKeys _ f (s.forward_keyed _ _)⟩

/-- Every other command leaves the device state, the level of RESET and the INIT check list, and keeps the laws. -/
theorem exec_keepsKeys {i : Instr} (hi : movesPart i = false) (s : State) : ∃ t, exec i s = .next t ∧ KeepsKeys s t := by
  cases i with
  | hello f => exact ⟨_, rfl, s.uplink_keepsKeys _ f (s.offerTagFrame_keyed _ _ (s.judgeHello_keyed _))⟩
  | data f => exact ⟨_, rfl, s.uplink_keepsKeys _ f (s.offerTagFrame_keyed _ _ (s.judgeData_keyed _))⟩
  | commit f => exact ⟨_, rfl, s.uplink_keepsKeys _ f (s.offerTagFrame_keyed _ _ (s.judgeCommit_keyed _))⟩
  | other kind f => exact execOther_keepsKeys kind f s
  | credit f => exact ⟨_, rfl, s.uplink_keepsKeys _ f rfl⟩
  | sent f => exact ⟨_, rfl, s.uplink_keepsKeys _ f (s.takeSent_keyed _)⟩
  | sendFailed f => exact ⟨_, rfl, s.uplink_keepsKeys _ f (s.takeSendFailed_keyed _)⟩
  | downlinkSendStart => exact ⟨_, rfl, .ite fun _ => .of_keyed rfl⟩
  | downlinkFrameOut => exact ⟨_, rfl, .of_keyed rfl⟩
  | confirmationDeadline h => exact execConfirmationDeadline_keepsKeys h s
  | downPassthrough f => exact ⟨_, rfl, .of_keyed (s.laneFrame_keyed _ f)⟩
  | deriveJobCompletion e => exact ⟨_, rfl, s.completeJob_keepsKeys e _ fun j o => .of_keyed (s.deriveEnd_keyed j o)⟩
  | sessionJobCompletion e => exact ⟨_, rfl, s.completeJob_keepsKeys e _ fun j o => .of_keyed (s.sessionEnd_keyed j o)⟩
  | raJobCompletion e => exact ⟨_, rfl, s.completeJob_keepsKeys e _ fun j o => .of_keyed (s.raEnd_keyed j o)⟩
  | taJobCompletion e => exact ⟨_, rfl, s.completeJob_keepsKeys e _ fun j o => .of_keyed (s.taEnd_keyed j o)⟩
  | recordCodeComputeCompletion e =>
    exact ⟨_, rfl, s.completeJob_keepsKeys e _ fun j o => .of_keyed (s.computeEnd_keyed j o)⟩
  | recordCodeVerifyCompletion e =>
    exact ⟨_, rfl, s.completeJob_keepsKeys e _ fun j o => .of_keyed (s.verifyEnd_keyed j o)⟩
  | waJobCompletion e => exact ⟨_, rfl, s.completeJob_keepsKeys e _ fun j o => .of_keyed (s.waEnd_keyed j o)⟩
  | caJobCompletion e => exact ⟨_, rfl, s.completeJob_keepsKeys e _ fun j o => .of_keyed (s.caEnd_keyed j o)⟩
  | unwrapJobCompletion e => exact ⟨_, rfl, s.completeJob_keepsKeys e _ s.unwrapEnd_keepsKeys⟩
  | kcvJobCompletion e => exact ⟨_, rfl, s.completeJob_keepsKeys e _ s.kcvEnd_keepsKeys⟩
  | combineJobCompletion e => exact ⟨_, rfl, s.completeJob_keepsKeys e _ s.combineEnd_keepsKeys⟩
  | stepDeadlineExpiry c => exact ⟨_, rfl, .of_keyed (s.expireStep_keyed c)⟩
  | lifetimeDeadlineExpiry c => exact ⟨_, rfl, .of_keyed (s.expireLifetime_keyed c)⟩
  | recentPassAgeing => exact ⟨_, rfl, .of_keyed rfl⟩
  | slotOverdue n => exact ⟨_, rfl, .ite fun _ => .of_jobsOnly s.noteOverdue_jobsOnly⟩
  | eraseCompletion => exact execEraseCompletion_keepsKeys s
  | calendarAdvance => exact ⟨_, rfl, .ite fun _ => s.advanceCalendar_keepsKeys⟩
  | request f => exact ⟨_, rfl, .of_keyed (s.laneFrame_keyed _ f)⟩
  | unknownRequestCode =>
    exact ⟨_, rfl, s.take_keepsKeys _ (underOrder_keepsKeys fun _ t _ => .of_keyed (t.respond_keyed _ _ _))⟩
  | readStatus => exact ⟨_, rfl, s.take_keepsKeys _ (underOrder_keepsKeys fun q t _ => .of_keyed (t.respond_keyed q _ _))⟩
  | readCounters => exact ⟨_, rfl, s.takeRequest_keepsKeys _ fun _ t _ => .of_keyed (t.respond_keyed _ _ _)⟩
  | clearEvents => exact ⟨_, rfl, s.takeRequest_keepsKeys _ fun q t _ => .of_keyed (judgeClearEvents_keyed q t)⟩
  | setAlertMask => exact ⟨_, rfl, s.takeRequest_keepsKeys _ fun q t _ => .of_keyed (judgeSetAlertMask_keyed q t)⟩
  | setProfile => exact ⟨_, rfl, s.takeRequest_keepsKeys _ fun q t _ => .of_keyed (judgeSetProfile_keyed q t)⟩
  | setTiming => exact ⟨_, rfl, s.takeRequest_keepsKeys _ fun q t _ => .of_keyed (judgeSetTiming_keyed q t)⟩
  | setCalendar => exact ⟨_, rfl, s.takeRequest_keepsKeys _ fun q t _ => judgeSetCalendar_keepsKeys q t⟩
  | rootPart1 => exact ⟨_, rfl, s.takeRequest_keepsKeys _ judgeRootPart1_keepsKeys⟩
  | rootPart2 => exact ⟨_, rfl, s.take_keepsKeys _ judgeRootPart2_keepsKeys⟩
  | lockRoot => exact ⟨_, rfl, s.takeRequest_keepsKeys _ fun q t _ => judgeLockRoot_keepsKeys q t⟩
  | keyLoadA => exact ⟨_, rfl, s.takeRequest_keepsKeys _ judgeKeyLoadA_keepsKeys⟩
  | keyLoadB => exact ⟨_, rfl, s.take_keepsKeys _ judgeKeyLoadB_keepsKeys⟩
  | activate => exact ⟨_, rfl, s.takeRequest_keepsKeys _ fun q t _ => judgeActivate_keepsKeys q t⟩
  | retire => exact ⟨_, rfl, s.takeRequest_keepsKeys _ fun q t _ => judgeRetire_keepsKeys q t⟩
  | erase => exact ⟨_, rfl, s.takeRequest_keepsKeys _ judgeErase_keepsKeys⟩
  | selectWriteGen => exact ⟨_, rfl, s.takeRequest_keepsKeys _ fun q t _ => judgeSelectWriteGen_keepsKeys q t⟩
  | readSlot => exact ⟨_, rfl, s.takeRequest_keepsKeys _ fun q t _ => .of_keyed (judgeReadSlot_keyed q t)⟩
  | laneSendStart => exact ⟨_, rfl, .ite fun _ => .of_keyed s.startLaneSend_keyed⟩
  | laneFrameOut => exact ⟨_, rfl, .of_keyed rfl⟩
  | lrdyAsserted => exact ⟨_, rfl, .of_keyed rfl⟩
  | lrdyDeasserted => exact ⟨_, rfl, .of_keyed rfl⟩
  | wakeDeasserted => exact ⟨_, rfl, .of_keyed rfl⟩
  | laneFrameOfOutgoingClass cls f => exact ⟨_, rfl, .of_keyed (s.laneFrame_keyed cls f)⟩
  | _ => cases hi

/-- Every command keeps the laws of the keys. -/
theorem exec_keysLawful (i : Instr) {s : State} (h : s.keysLawful) : ∃ t, exec i s = .next t ∧ t.keysLawful := by
  cases hi : movesPart i with
  | false =>
    obtain ⟨t, ht, hk⟩ := exec_keepsKeys hi s
    exact ⟨t, ht, hk.laws h⟩
  | true =>
    cases i with
    | openCompletion e => exact ⟨_, rfl, State.completeOpening_keysLawful h e⟩
    | scrubJobCompletion e => exact ⟨_, rfl, State.completeScrub_keysLawful h e⟩
    | setService => exact ⟨_, rfl, State.takeRequest_keysLawful judgeSetService_keysLawful h⟩
    | hold => exact ⟨_, rfl, State.takeRequest_keysLawful judgeHold_keysLawful h⟩
    | zeroise => exact ⟨_, rfl, State.take_keysLawful (outsideInit_keysLawful judgeZeroise_keysLawful) h⟩
    | zeroiseLine => exact ⟨_, rfl, State.assertZeroise_keysLawful h⟩
    | supplyFail => exact ⟨_, rfl, State.assertSupplyFail_keysLawful h⟩
    | wake => exact ⟨_, rfl, State.assertWake_keysLawful h⟩
    | supplyFailDeasserted => exact ⟨_, rfl, State.deassertSupplyFail_keysLawful h⟩
    | laneReset => exact ⟨_, rfl, State.assertReset_keysLawful h⟩
    | resetDeasserted => exact ⟨_, rfl, State.deassertReset_keysLawful h⟩
    | powerOnReset => exact ⟨_, rfl, s.powerOn_keysLawful⟩
    | _ => cases hi

end Sys2Proof.Machine
end

section
/-! SUPPORT. What keeps the law of the INIT check: outside MAINTENANCE and SERVICE no command but the scrubs of the check
adds a job (R97, R99, R103, R176). -/

namespace Sys2Proof.Machine

variable {s t : State} {n : SlotNo}

/-! ### Jobs that stay (R127) -/

/-- No job has joined the queue or an engine, and none has left an engine. -/
structure JobsRest (s t : State) : Prop where
  queue : t.cipher.queue.Sublist s.cipher.queue
  engines : ∀ e, (t.engine e).job? = (s.engine e).job?

namespace JobsRest

theorem of_cipher (h : t.cipher = s.cipher) : JobsRest s t :=
  ⟨by rw [h], fun e => by unfold State.engine; rw [h]⟩

theorem refl (s : State) : JobsRest s s := of_cipher rfl

theorem trans {s t u : State} (h : JobsRest s t) (k : JobsRest t u) : JobsRest s u :=
  ⟨k.queue.trans h.queue, fun e => (k.engines e).trans (h.engines e)⟩

/-- The work, after an update that leaves engines and queue. -/
theorem after {s t u : State} (k : JobsRest t u) (h : t.cipher = s.cipher) : JobsRest s u := (of_cipher h).trans k

end JobsRest

/-- Outside MAINTENANCE and SERVICE the key store issues no scrub of its own (R99). -/
theorem State.scrubTest_of_not_working (h : s.working = false) : s.scrubTest = s := by
  unfold State.scrubTest
  rw [h]
  rfl

theorem State.working_of_keyed (h : t.keyed = s.keyed) : t.working = s.working := by
  unfold State.working State.live
  rw [State.device_of_keyed h, State.reset_of_keyed h]

theorem State.attemptRelease_jobsRest (s : State) (z : ZoneNo) : JobsRest s (s.attemptRelease z) := by
  obtain ⟨-, hq, he⟩ := State.releaseHeads_jobs (s.openList z).length z s
  exact ⟨by rw [State.attemptRelease, hq], he⟩

theorem State.dropQueuedJob_jobsRest (hw : s.working = false) (c : ContextNo) : JobsRest s (s.dropQueuedJob c) := by
  unfold State.dropQueuedJob
  rw [State.scrubTest_of_not_working]
  · exact ⟨List.filter_sublist, fun _ => rfl⟩
  · exact hw

/-- The end of a pass removes its queued job at most (R53). -/
theorem State.endPass_jobsRest (hw : s.working = false) (c : ContextNo) (r : PassResult) : JobsRest s (s.endPass c r) := by
  cases hx : s.context c with
  | none =>
    rw [State.endPass_of_free hx]
    exact .refl s
  | some x =>
    have hc : JobsRest s (s.concludes c x r) := by
      unfold State.concludes
      dsimp only
      split
      · have hu : ((s.setContext c (some (x.concluded r s.clock.laneTime))).withdrawFrames c).working = false := hw
        exact .after (State.dropQueuedJob_jobsRest hu c) rfl
      · exact .of_cipher rfl
    rw [State.endPass_eq hx]
    refine hc.trans (.after (State.attemptRelease_jobsRest _ _) ?_)
    exact (State.handRecent_cipher _ _ _).trans (State.offerClose_cipher _ _ _ _)

theorem State.queueStep_cipher (s : State) (c : ContextNo) : (s.queueStep c).cipher = s.cipher := by
  unfold State.queueStep
  repeat' split
  · rfl
  · rfl
  · rfl

theorem State.retryOrEnd_jobsRest (hw : s.working = false) (c : ContextNo) : JobsRest s (s.retryOrEnd c) := by
  unfold State.retryOrEnd
  repeat' split
  · exact .refl s
  · exact .of_cipher (State.queueStep_cipher _ _)
  · exact State.endPass_jobsRest hw c _

theorem State.expireStep_jobsRest (hw : s.working = false) (c : ContextNo) : JobsRest s (s.expireStep c) := by
  unfold State.expireStep
  repeat' split
  · exact .after (State.retryOrEnd_jobsRest (s := s.modContext c _) hw c) rfl
  · exact .refl s
  · exact .refl s

theorem State.expireLifetime_jobsRest (hw : s.working = false) (c : ContextNo) : JobsRest s (s.expireLifetime c) := by
  unfold State.expireLifetime
  repeat' split
  · exact State.endPass_jobsRest hw c _
  · exact .refl s
  · exact .refl s

theorem State.reportFailed_jobsRest (hw : s.working = false) (o : Option ContextNo) :
    JobsRest s (s.reportFailed o) := by
  unfold State.reportFailed
  repeat' split
  · exact .refl s
  · exact State.retryOrEnd_jobsRest hw _
  · exact .refl s
  · exact .refl s

theorem State.reportSent_jobsRest (hw : s.working = false) (o : Option ContextNo) (tick : Tick) :
    JobsRest s (s.reportSent o tick) := by
  unfold State.reportSent
  repeat' split
  · exact .refl s
  · exact .after (State.expireStep_jobsRest (s := s.setContext _ _) hw _) rfl
  · exact .refl s
  · exact .refl s

theorem State.takeSent_jobsRest (hw : s.working = false) (p : List Byte) : JobsRest s (s.takeSent p) := by
  unfold State.takeSent
  split
  · exact .refl s
  · exact .after (State.reportSent_jobsRest (s := s.removeConfirm _) hw _ _) rfl

theorem State.takeSendFailed_jobsRest (hw : s.working = false) (p : List Byte) : JobsRest s (s.takeSendFailed p) := by
  unfold State.takeSendFailed
  split
  · exact .refl s
  · exact .after (State.reportFailed_jobsRest (s := s.removeConfirm _) hw _) rfl

theorem State.releaseStalled_jobsRest (s : State) : JobsRest s s.releaseStalled := by
  unfold State.releaseStalled
  dsimp only
  repeat' split
  · exact .refl s
  · exact .after (State.attemptRelease_jobsRest _ _) rfl
  · exact .of_cipher rfl

theorem State.startLaneSend_jobsRest (s : State) : JobsRest s s.startLaneSend := by
  unfold State.startLaneSend State.enterHeld
  repeat' split
  · exact .of_cipher rfl
  · exact .of_cipher rfl
  · exact .after (State.releaseStalled_jobsRest _) rfl
  · exact .refl s

theorem State.forward_cipher (s : State) (kind : Byte) (p : List Byte) : (s.forward kind p).cipher = s.cipher := by
  unfold State.forward
  split
  · rfl
  · exact s.raise_cipher _

theorem State.portAnswer_cipher (s : State) (tag code : Byte) (st : Status) :
    (s.portAnswer tag code st).cipher = s.cipher := by
  unfold State.portAnswer
  split
  · rfl
  · exact s.raise_cipher _

theorem State.laneFrame_cipher (s : State) (cls : Byte) (f : PortFrame) : (s.laneFrame cls f).cipher = s.cipher := by
  unfold State.laneFrame State.offerPassthrough State.arriveRequest
  repeat' split
  · rfl
  · rfl
  · exact s.raise_cipher _
  · exact s.raise_cipher _
  · rfl
  · exact s.portAnswer_cipher _ _ _
  · exact s.portAnswer_cipher _ _ _
  · exact s.raise_cipher _
  · exact s.raise_cipher _

/-! ### The calendar walk (R138) -/

theorem Engine.job?_atExpiry (n : SlotNo) (x : Engine) : (x.atExpiry n).job? = x.job? := by
  obtain ⟨st, cl, lo⟩ := x
  unfold Engine.atExpiry
  cases st <;> dsimp only <;> split <;> rfl

theorem State.clearWriteGenOf_cipher (s : State) (x : Slot) : (s.clearWriteGenOf x).cipher = s.cipher := by
  unfold State.clearWriteGenOf State.setWriteGen
  (repeat' split) <;> rfl

theorem State.dropCacheOf_cipher (s : State) (x : Slot) : (s.dropCacheOf x).cipher = s.cipher := by
  rw [State.dropCacheOf_eq]

theorem State.withdrawExpiry_jobsRest (s : State) (n : SlotNo) (x : Slot) : JobsRest s (s.withdrawExpiry n x) := by
  refine .after (t := (s.clearWriteGenOf x).dropCacheOf x) ⟨List.Sublist.refl _, fun e => ?_⟩
    ((State.dropCacheOf_cipher _ x).trans (s.clearWriteGenOf_cipher x))
  exact (congrArg Engine.job? (State.engine_tellEngines _ _ e)).trans (Engine.job?_atExpiry n _)

theorem State.walkSlot_jobsRest (m : Minute) (s : State) (n : SlotNo) : JobsRest s (s.walkSlot m n) := by
  unfold State.walkSlot State.expireSlot
  dsimp only
  repeat' split
  · exact .of_cipher (State.raise_cipher _ _)
  · have hc : JobsRest s (s.changeSlot n { s.slot n with state := .expired }) := .of_cipher rfl
    exact (hc.trans (State.withdrawExpiry_jobsRest _ n (s.slot n))).trans (.of_cipher (State.raise_cipher _ _))
  · exact .of_cipher rfl
  · exact .refl s

theorem State.walk_jobsRest (s : State) (m : Minute) : JobsRest s (s.walk m) := by
  unfold State.walk
  generalize allSlots.drop 1 = l
  induction l generalizing s with
  | nil => exact .refl s
  | cons n l ih => exact (s.walkSlot_jobsRest m n).trans (ih _)

theorem Slot.walked_holdsMaterial (m : Minute) (x : Slot) : (x.walked m).holdsMaterial = x.holdsMaterial := by
  rw [Slot.walked_eq]
  unfold Slot.holdsMaterial Slot.expiresAt Slot.activatesAt
  cases hs : x.state <;> (repeat' split) <;> simp_all

/-! ### The law of the INIT check -/

/-- The law reads the device state, RESET, the check list, which slots hold material, the management unit and the jobs. -/
structure Rests (s t : State) : Prop where
  device : t.device = s.device
  reset : t.lines.reset = s.lines.reset
  initCheck : t.keys.initCheck = s.keys.initCheck
  inHand : t.mgmt.inHand = s.mgmt.inHand
  twoPart : t.mgmt.twoPart = s.mgmt.twoPart
  material : ∀ n, (t.slot n).holdsMaterial = (s.slot n).holdsMaterial
  jobs : JobsRest s t

theorem Rests.of_keyed (h : t.keyed = s.keyed) (hj : JobsRest s t) : Rests s t :=
  ⟨State.device_of_keyed h, State.reset_of_keyed h, State.initCheck_of_keyed h, State.inHand_of_keyed h,
    State.twoPart_of_keyed h, fun n => by rw [State.slot_of_keyed h], hj⟩

theorem Rests.refl (s : State) : Rests s s := .of_keyed rfl (.refl s)

theorem Rests.trans {s t u : State} (h : Rests s t) (k : Rests t u) : Rests s u :=
  ⟨k.device.trans h.device, k.reset.trans h.reset, k.initCheck.trans h.initCheck, k.inHand.trans h.inHand,
    k.twoPart.trans h.twoPart, fun n => (k.material n).trans (h.material n), h.jobs.trans k.jobs⟩

theorem State.heldInReset_of_eq (hd : t.device = s.device) (hr : t.lines.reset = s.lines.reset) :
    t.heldInReset = s.heldInReset := by
  unfold State.heldInReset
  rw [hd, hr]

theorem JobsRest.stands (h : JobsRest s t) {j : Job} (hj : t.jobStands j) : s.jobStands j :=
  hj.imp (fun hq => h.queue.subset hq) fun ⟨e, he⟩ => ⟨e, (h.engines e).symm.trans he⟩

theorem Rests.initLawful (h : Rests s t) (hs : s.initLawful) : t.initLawful := by
  obtain ⟨hout, hnodup, hmat, hheld, hin⟩ := hs
  unfold State.initLawful
  rw [h.device, h.initCheck, State.heldInReset_of_eq h.device h.reset, h.inHand, h.twoPart]
  refine ⟨hout, hnodup, fun m hm => (h.material m).trans (hmat m hm), hheld, fun hd => ?_⟩
  obtain ⟨hi, ht, hcount, hjobs⟩ := hin hd
  refine ⟨hi, ht, ?_, fun j hj => hjobs j (h.jobs.stands hj)⟩
  simp only [h.jobs.engines]
  have := h.jobs.queue.length_le
  omega

/-- In MAINTENANCE and SERVICE the law asks for an empty check list alone. -/
theorem KeepsKeys.initLawful (h : KeepsKeys s t) (hd : s.device ≠ .init) (hh : s.device ≠ .hold) (hs : s.initLawful) :
    t.initLawful := by
  obtain ⟨hout, -, -, hheld, -⟩ := hs
  unfold State.initLawful
  rw [h.device, h.initCheck, State.heldInReset_of_eq h.device h.reset, hout hd]
  exact ⟨fun _ => rfl, List.nodup_nil, nofun, fun hr => absurd (hheld hr).1 hd, fun ho => (ho.elim hd hh).elim⟩

end Sys2Proof.Machine
end

section
/-! SUPPORT. What keeps the law of the INIT check, continued: a command that does not move the part, in INIT and in HOLD
(R40, R99, R165, R176, R179). -/

namespace Sys2Proof.Machine

variable {s t : State}

/-! ### In INIT and in HOLD -/

/-- The part is in INIT or in HOLD. -/
def State.resting (s : State) : Prop := s.device = .init ∨ s.device = .hold

theorem State.not_working_of_resting (h : s.resting) : s.working = false := by
  unfold State.working
  rcases h with h | h <;> rw [h] <;> simp

theorem State.init_of_live (h : s.resting) (hl : s.live = true) : s.device = .init := by
  refine h.resolve_right fun hh => ?_
  rw [State.live, hh] at hl
  cases hl

/-- The one job that may stand is a scrub of the check (R103). -/
theorem State.initLawful.scrubs (hs : s.initLawful) (hd : s.resting) {j : Job} (hj : s.jobStands j) :
    j.kind = .scrub ∧ s.keys.initCheck.head?.map KeyId.slot = some j.key :=
  (hs.2.2.2.2 hd).2.2.2 j hj

theorem State.initLawful.nothing (hs : s.initLawful) (hd : s.resting) :
    s.mgmt.inHand = none ∧ s.mgmt.twoPart = .idle :=
  ⟨(hs.2.2.2.2 hd).1, (hs.2.2.2.2 hd).2.1⟩

/-- No engine completes a job of another kind. -/
theorem State.completeJob_of_resting (hs : s.initLawful) (hd : s.resting) (e : EngineNo) {kind : JobKind}
    (hk : kind ≠ .scrub) (act : Job → Option Block → State → State) : s.completeJob e kind act = s := by
  unfold State.completeJob
  split
  · rename_i r j he
    split
    · rename_i hj
      have hstands : s.jobStands j := .inr ⟨e, by unfold Engine.job?; rw [he]⟩
      exact absurd (hj.symm.trans (hs.scrubs hd hstands).1) hk
    · rfl
  all_goals rfl

/-! ### Requests (R165, R170) -/

theorem State.respond_rests (s : State) (q : Request) (st : Status) (data : List Byte) :
    Rests s (s.respond q st data) := .of_keyed (s.respond_keyed q st data) (.of_cipher (s.sendResponse_cipher _))

theorem State.take_rests (hs : s.initLawful) (hd : s.resting) (fits : Byte → Bool)
    {judge : Request → State → State}
    (h : ∀ q t, t.device = .init → t.mgmt.twoPart = .idle → Rests t (judge q t)) : Rests s (s.take fits judge) := by
  unfold State.take
  split
  · rename_i q hq
    have hl : s.live = true := by
      unfold State.takeable State.managementFree at hq
      split at hq
      · cases hq
      · split at hq
        · simp_all
        · cases hq
    have hpop : Rests s s.popRequest := .of_keyed rfl (.of_cipher rfl)
    exact hpop.trans (h q _ (State.init_of_live hd hl) (hs.nothing hd).2)
  · exact .refl s

theorem underOrder_of_idle {judge : Request → State → State} (ht : s.mgmt.twoPart = .idle) (q : Request) :
    underOrder judge q s = judge q s := if_pos ht

theorem outsideInit_of_init {judge : Request → State → State} (hd : s.device = .init) (q : Request) :
    outsideInit judge q s = s.respond q .state := if_pos hd

/-- In INIT a request under the two-part order is refused with STATE (R165 test 3). -/
theorem State.takeRequest_rests (hs : s.initLawful) (hd : s.resting) (code : Byte) (judge : Request → State → State) :
    Rests s (s.takeRequest code judge) :=
  State.take_rests hs hd _ fun q t hi ht => by
    rw [underOrder_of_idle ht, outsideInit_of_init hi]
    exact t.respond_rests q _ _

/-- A partner whose first part is not pending is refused with ORDER (R107). -/
theorem State.discard_rests (ht : s.mgmt.twoPart = .idle) (q : Request) (st : Status) :
    Rests s (s.discardTwoPart.respond q st) := by
  rw [State.discardTwoPart_idle ht]
  exact s.respond_rests q st []

theorem judgeRootPart2_rests (q : Request) (s : State) (ht : s.mgmt.twoPart = .idle) :
    Rests s (judgeRootPart2 q s) := by
  unfold judgeRootPart2
  rw [ht]
  exact State.discard_rests ht q _

theorem judgeKeyLoadB_rests (q : Request) (s : State) (ht : s.mgmt.twoPart = .idle) : Rests s (judgeKeyLoadB q s) := by
  unfold judgeKeyLoadB
  rw [ht]
  exact State.discard_rests ht q _

theorem judgeReadStatus_rests (q : Request) (s : State) : Rests s (judgeReadStatus q s) :=
  (s.respond_rests q _ _).trans (.of_keyed rfl (.of_cipher rfl))

/-! ### Uplink frames (R1, R40) -/

theorem State.uplink_rests (hd : s.resting) (kind : Byte) (f : PortFrame) {act : State → State}
    (h : isTagKind kind = false → Rests s (act s)) : Rests s (s.uplink kind f act) := by
  unfold State.uplink
  split
  · exact .refl s
  · rename_i hl
    have hi := State.init_of_live hd (by simpa using hl)
    split
    · exact .refl s
    · rename_i hk
      have hk : isTagKind kind = false := by simpa [hi] using hk
      split
      · exact h hk
      · exact .of_keyed (s.raise_keyed _) (.of_cipher (s.raise_cipher _))

theorem State.takeSent_rests (hd : s.resting) (p : List Byte) : Rests s (s.takeSent p) :=
  .of_keyed (s.takeSent_keyed p) (State.takeSent_jobsRest (State.not_working_of_resting hd) p)

theorem State.takeSendFailed_rests (hd : s.resting) (p : List Byte) : Rests s (s.takeSendFailed p) :=
  .of_keyed (s.takeSendFailed_keyed p) (State.takeSendFailed_jobsRest (State.not_working_of_resting hd) p)

theorem State.takeCredit_rests (s : State) (p : List Byte) : Rests s (s.takeCredit p) := .of_keyed rfl (.of_cipher rfl)

theorem execOther_rests (hd : s.resting) (kind : Byte) (f : PortFrame) :
    ∃ t, execOther kind f s = .next t ∧ Rests s t := by
  unfold execOther
  repeat' split
  · exact ⟨_, rfl, State.uplink_rests hd _ f nofun⟩
  · exact ⟨_, rfl, State.uplink_rests hd _ f nofun⟩
  · exact ⟨_, rfl, State.uplink_rests hd _ f nofun⟩
  · exact ⟨_, rfl, State.uplink_rests hd _ f fun _ => s.takeCredit_rests _⟩
  · exact ⟨_, rfl, State.uplink_rests hd _ f fun _ => State.takeSent_rests hd _⟩
  · exact ⟨_, rfl, State.uplink_rests hd _ f fun _ => State.takeSendFailed_rests hd _⟩
  · exact ⟨_, rfl, State.uplink_rests hd _ f fun _ => .of_keyed (s.forward_keyed _ _) (.of_cipher (s.forward_cipher _ _))⟩

/-! ### The other commands -/

theorem State.laneFrame_rests (s : State) (cls : Byte) (f : PortFrame) : Rests s (s.laneFrame cls f) :=
  .of_keyed (s.laneFrame_keyed cls f) (.of_cipher (s.laneFrame_cipher cls f))

/-- A meaning that acts where its condition holds and changes nothing elsewhere (log 1). -/
theorem Rests.ite {p : Prop} [Decidable p] (h : p → Rests s t) : Rests s (if p then t else s) := by
  split
  · exact h ‹_›
  · exact refl s

theorem execConfirmationDeadline_rests (hd : s.resting) (h : Byte) :
    ∃ t, execConfirmationDeadline h s = .next t ∧ Rests s t := by
  refine ⟨_, rfl, ?_⟩
  repeat' split
  · exact .of_keyed (State.reportFailed_keyed _ _)
      (.after (State.reportFailed_jobsRest (s := s.removeConfirm _) (State.not_working_of_resting hd) _) rfl)
  · exact .refl s
  · exact .refl s

/-- With nothing in hand no erase completes (R119). -/
theorem execEraseCompletion_rests (hs : s.initLawful) (hd : s.resting) :
    ∃ t, execEraseCompletion s = .next t ∧ Rests s t := by
  refine ⟨_, rfl, ?_⟩
  split
  · rename_i n hn
    obtain ⟨w, hw, -⟩ := State.eraseDue_eq_some hn
    exact absurd ((hs.nothing hd).1.symm.trans hw) nofun
  · exact .refl s

theorem State.noteOverdue_of_resting (hd : s.resting) : s.noteOverdue = s := by
  unfold State.noteOverdue
  rw [State.not_working_of_resting hd]
  rfl

theorem State.walk_rests (s : State) (m : Minute) : Rests s (s.walk m) := by
  have hk := s.walk_keepsKeys m
  have hm : (s.walk m).mgmt = s.mgmt := by rw [(s.walk_calendarOnly m).rest]
  refine ⟨hk.device, hk.reset, hk.initCheck, by rw [hm], by rw [hm], fun n => ?_, s.walk_jobsRest m⟩
  rw [State.walk_slot]
  split
  · rename_i h
    rw [h]
  · exact Slot.walked_holdsMaterial m _

theorem State.advanceCalendar_rests (s : State) : Rests s s.advanceCalendar := by
  unfold State.advanceCalendar
  dsimp only
  split
  · exact .of_keyed rfl (.of_cipher rfl)
  · exact .trans (t := { s with clock := { s.clock with advanceDue := false, minute := s.clock.minute + 1 } })
      (.of_keyed rfl (.of_cipher rfl)) (State.walk_rests _ _)

/-- In INIT and in HOLD a command that does not move the part adds no job and leaves what the law reads. -/
theorem exec_rests {i : Instr} (hi : movesPart i = false) (hs : s.initLawful) (hd : s.resting) :
    ∃ t, exec i s = .next t ∧ Rests s t := by
  have hw := State.not_working_of_resting hd
  have ended : ∀ (e : EngineNo) (kind : JobKind) (act : Job → Option Block → State → State), kind ≠ .scrub →
      Rests s (s.completeJob e kind act) := fun e kind act hk => by
    rw [State.completeJob_of_resting hs hd e hk]
    exact .refl s
  cases i with
  | hello f => exact ⟨_, rfl, State.uplink_rests hd _ f nofun⟩
  | data f => exact ⟨_, rfl, State.uplink_rests hd _ f nofun⟩
  | commit f => exact ⟨_, rfl, State.uplink_rests hd _ f nofun⟩
  | other kind f => exact execOther_rests hd kind f
  | credit f => exact ⟨_, rfl, State.uplink_rests hd _ f fun _ => s.takeCredit_rests _⟩
  | sent f => exact ⟨_, rfl, State.uplink_rests hd _ f fun _ => State.takeSent_rests hd _⟩
  | sendFailed f => exact ⟨_, rfl, State.uplink_rests hd _ f fun _ => State.takeSendFailed_rests hd _⟩
  | downlinkSendStart => exact ⟨_, rfl, .ite fun _ => .of_keyed rfl (.of_cipher rfl)⟩
  | downlinkFrameOut => exact ⟨_, rfl, .of_keyed rfl (.of_cipher rfl)⟩
  | confirmationDeadline h => exact execConfirmationDeadline_rests hd h
  | downPassthrough f => exact ⟨_, rfl, s.laneFrame_rests _ f⟩
  | deriveJobCompletion e => exact ⟨_, rfl, ended e _ _ (by decide)⟩
  | sessionJobCompletion e => exact ⟨_, rfl, ended e _ _ (by decide)⟩
  | raJobCompletion e => exact ⟨_, rfl, ended e _ _ (by decide)⟩
  | taJobCompletion e => exact ⟨_, rfl, ended e _ _ (by decide)⟩
  | recordCodeComputeCompletion e => exact ⟨_, rfl, ended e _ _ (by decide)⟩
  | recordCodeVerifyCompletion e => exact ⟨_, rfl, ended e _ _ (by decide)⟩
  | waJobCompletion e => exact ⟨_, rfl, ended e _ _ (by decide)⟩
  | caJobCompletion e => exact ⟨_, rfl, ended e _ _ (by decide)⟩
  | unwrapJobCompletion e => exact ⟨_, rfl, ended e _ _ (by decide)⟩
  | kcvJobCompletion e => exact ⟨_, rfl, ended e _ _ (by decide)⟩
  | combineJobCompletion e => exact ⟨_, rfl, ended e _ _ (by decide)⟩
  | stepDeadlineExpiry c => exact ⟨_, rfl, .of_keyed (s.expireStep_keyed c) (State.expireStep_jobsRest hw c)⟩
  | lifetimeDeadlineExpiry c =>
    exact ⟨_, rfl, .of_keyed (s.expireLifetime_keyed c) (State.expireLifetime_jobsRest hw c)⟩
  | recentPassAgeing => exact ⟨_, rfl, .of_keyed rfl (.of_cipher rfl)⟩
  | slotOverdue n => exact ⟨_, rfl, .ite fun _ => by rw [State.noteOverdue_of_resting hd]; exact .refl s⟩
  | eraseCompletion => exact execEraseCompletion_rests hs hd
  | calendarAdvance => exact ⟨_, rfl, .ite fun _ => s.advanceCalendar_rests⟩
  | request f => exact ⟨_, rfl, s.laneFrame_rests _ f⟩
  | unknownRequestCode =>
    refine ⟨_, rfl, State.take_rests hs hd _ fun q t _ ht => ?_⟩
    rw [underOrder_of_idle ht]
    exact t.respond_rests q _ _
  | readStatus =>
    refine ⟨_, rfl, State.take_rests hs hd _ fun q t _ ht => ?_⟩
    rw [underOrder_of_idle ht]
    exact judgeReadStatus_rests q t
  | rootPart2 => exact ⟨_, rfl, State.take_rests hs hd _ fun q t _ ht => judgeRootPart2_rests q t ht⟩
  | keyLoadB => exact ⟨_, rfl, State.take_rests hs hd _ fun q t _ ht => judgeKeyLoadB_rests q t ht⟩
  | laneSendStart => exact ⟨_, rfl, .ite fun _ => .of_keyed s.startLaneSend_keyed s.startLaneSend_jobsRest⟩
  | laneFrameOut => exact ⟨_, rfl, .of_keyed rfl (.of_cipher rfl)⟩
  | lrdyAsserted => exact ⟨_, rfl, .of_keyed rfl (.of_cipher rfl)⟩
  | lrdyDeasserted => exact ⟨_, rfl, .of_keyed rfl (.of_cipher rfl)⟩
  | wakeDeasserted => exact ⟨_, rfl, .of_keyed rfl (.of_cipher rfl)⟩
  | laneFrameOfOutgoingClass cls f => exact ⟨_, rfl, s.laneFrame_rests cls f⟩
  | readCounters | clearEvents | setAlertMask | setProfile | setTiming | setCalendar | rootPart1 | lockRoot | keyLoadA
  | activate | retire | erase | selectWriteGen | readSlot => exact ⟨_, rfl, State.takeRequest_rests hs hd _ _⟩
  | _ => cases hi

end Sys2Proof.Machine
end

section
/-! PROOF. What keeps the law of the INIT check, concluded: the scrubs of the check, the commands that move the part, and
so every step (R97, R100, R103, R123, R176 to R183). -/

namespace Sys2Proof.Machine

variable {s t u : State} {n k : SlotNo} {e : EngineNo} {j : Job} {off : Option EngineNo}

/-! ### The one job of the check (R97, R103) -/

theorem Engine.isIdle_eq (x : Engine) : x.isIdle = x.job?.isNone := by
  unfold Engine.isIdle Engine.job?
  cases x.state <;> rfl

theorem Engine.isIdle_of_job? {x : Engine} (h : x.job? = some j) : x.isIdle = false := by
  rw [Engine.isIdle_eq, h]
  rfl

/-- No job waits, and no engine but `off` holds one. -/
def State.onlyOn (s : State) (off : Option EngineNo) : Prop :=
  s.cipher.queue = [] ∧ ∀ d, (s.engine d).isIdle = true ↔ off ≠ some d

/-- The one job of the part, engine `off` left out of account, is j: it waits alone, or an engine holds it alone. -/
def State.soleJob (s : State) (off : Option EngineNo) (j : Job) : Prop :=
  (s.cipher.queue = [] ∧ ∃ d, off ≠ some d ∧ (s.engine d).job? = some j ∧
    ∀ d', d' ≠ d → off ≠ some d' → (s.engine d').isIdle = true) ∨
  (s.cipher.queue = [j] ∧ ∀ d, off ≠ some d → (s.engine d).isIdle = true)

theorem State.dispatch_soleJob (hq : s.cipher.queue = []) (hi : ∀ d, off ≠ some d → (s.engine d).isIdle = true)
    (he : off ≠ some e) (j : Job) : (s.dispatch e j).soleJob off j := by
  refine .inl ⟨(s.dispatch_queue e j).trans hq, e, he, s.dispatch_job e j, fun d hd ho => ?_⟩
  rw [State.dispatch_engine_ne _ hd]
  exact hi d ho

theorem State.arrive_soleJob (h : s.onlyOn off) (j : Job) : (s.arrive j).soleJob off j := by
  obtain ⟨hq, hi⟩ := h
  unfold State.arrive
  split
  · rename_i d hd
    exact State.dispatch_soleJob hq (fun d => (hi d).mpr) ((hi d).mp (State.idleEngineFor_isIdle hd)) j
  · exact .inr ⟨by rw [hq]; rfl, fun d => (hi d).mpr⟩

/-- The engine that ends its job may take the one that waits (R132, R134). -/
theorem State.afterEnd_soleJob (h : s.soleJob (some e) j) (hj : j.ofContext = false) :
    (s.afterEnd e).soleJob none j := by
  have hother : ∀ d, d ≠ e → (s.engineEnd e).engine d = s.engine d := fun d hd => tableGet_tableSet_ne _ _ hd
  have hidle : ((s.engineEnd e).engine e).isIdle = true := by
    rw [show (s.engineEnd e).engine e = _ from State.engine_setEngine_self s e _]
    cases (s.engine e).state with
    | busy r k =>
      dsimp only
      split <;> rfl
    | _ => rfl
  unfold State.afterEnd
  rcases h with ⟨hq, d, hd, hjob, hi⟩ | ⟨hq, hi⟩
  · have hde : d ≠ e := fun h => hd (congrArg some h.symm)
    have harb : (s.engineEnd e).arbitrate e = s.engineEnd e :=
      ((s.engineEnd e).arbitrate_cases e).resolve_right fun ⟨_, k, hk, _⟩ => by
        rw [show (s.engineEnd e).cipher.queue = [] from hq] at hk
        cases hk
    rw [harb]
    refine .inl ⟨hq, d, nofun, (congrArg Engine.job? (hother d hde)).trans hjob, fun d' hd' _ => ?_⟩
    by_cases he : d' = e
    · rw [he]
      exact hidle
    · rw [hother d' he]
      exact hi d' hd' fun h => he (Option.some.inj h).symm
  · have hall : ∀ d, ((s.engineEnd e).engine d).isIdle = true := fun d => by
      by_cases he : d = e
      · rw [he]
        exact hidle
      · rw [hother d he]
        exact hi d fun h => he (Option.some.inj h).symm
    unfold State.arbitrate
    split
    · exact .inr ⟨hq, fun d _ => hall d⟩
    · rename_i i _
      rw [show (s.engineEnd e).cipher.queue = [j] from hq]
      cases i with
      | zero =>
        rw [List.getElem?_cons_zero]
        dsimp only
        unfold State.afterLeaving
        rw [hj]
        exact State.dispatch_soleJob (s := (s.engineEnd e).setJobs []) rfl (fun d _ => hall d) (fun h => by cases h) j
      | succ i => exact .inr ⟨hq, fun d _ => hall d⟩

theorem State.soleJob.eq (h : s.soleJob none j) {k : Job} (hk : s.jobStands k) : k = j := by
  rcases h with ⟨hq, d, -, hd, hi⟩ | ⟨hq, hi⟩ <;> rcases hk with hk | ⟨f, hf⟩
  · rw [hq] at hk
    cases hk
  · by_cases hfd : f = d
    · subst hfd
      exact Option.some.inj (hf.symm.trans hd)
    · exact absurd ((Engine.isIdle_of_job? hf).symm.trans (hi f hfd nofun)) nofun
  · rw [hq] at hk
    exact List.mem_singleton.mp hk
  · exact absurd ((Engine.isIdle_of_job? hf).symm.trans (hi f nofun)) nofun

theorem countP_allEngines_le_one {p : EngineNo → Bool} {d : EngineNo} (h : ∀ f, p f = true → f = d) :
    allEngines.countP p ≤ 1 :=
  (List.countP_mono_left fun f _ hf => by simpa using h f hf).trans
    (List.nodup_iff_count_le_one.mp (List.nodup_finRange 4) d)

theorem State.soleJob.count (h : s.soleJob none j) :
    s.cipher.queue.length + allEngines.countP (fun e => (s.engine e).job?.isSome) ≤ 1 := by
  rcases h with ⟨hq, d, -, -, hi⟩ | ⟨hq, hi⟩
  · have := countP_allEngines_le_one (p := fun e => (s.engine e).job?.isSome) (d := d) fun f hf => by
      by_contra hfd
      have := hi f hfd nofun
      rw [Engine.isIdle_eq, Option.isNone_iff_eq_none] at this
      simp [this] at hf
    rwa [hq, List.length_nil, Nat.zero_add]
  · have h0 : allEngines.countP (fun e => (s.engine e).job?.isSome) = 0 := List.countP_eq_zero.mpr fun f _ => by
      have := hi f nofun
      rw [Engine.isIdle_eq, Option.isNone_iff_eq_none] at this
      simp [this]
    rw [hq, h0]
    rfl

/-- One job at most stands: where an engine holds one, it is alone. -/
theorem State.onlyOn_of_count
    (h : s.cipher.queue.length + allEngines.countP (fun e => (s.engine e).job?.isSome) ≤ 1)
    (he : (s.engine e).job? = some j) : s.onlyOn (some e) := by
  have hpos : 0 < allEngines.countP fun e => (s.engine e).job?.isSome :=
    List.countP_pos_iff.mpr ⟨e, List.mem_finRange e, by rw [he]; rfl⟩
  refine ⟨List.length_eq_zero_iff.mp (by omega), fun d => ?_⟩
  rw [Engine.isIdle_eq]
  constructor
  · intro hd hed
    rw [← Option.some.inj hed, he] at hd
    cases hd
  · intro hd
    cases hj : (s.engine d).job? with
    | none => rfl
    | some k =>
      have hmem : ∀ f, (s.engine f).job?.isSome = true → f ∈ allEngines.filter fun e => (s.engine e).job?.isSome :=
        fun f hf => List.mem_filter.mpr ⟨List.mem_finRange f, hf⟩
      have hsub : [e, d] ⊆ allEngines.filter fun e => (s.engine e).job?.isSome := by
        exact List.cons_subset.mpr ⟨hmem e (by rw [he]; rfl), List.cons_subset.mpr ⟨hmem d (by rw [hj]; rfl),
          List.nil_subset _⟩⟩
      have hlen := (List.subperm_of_subset (by simpa using fun h => hd (congrArg some h)) hsub).length_le
      rw [← List.countP_eq_length_filter] at hlen
      simp only [List.length_cons, List.length_nil] at hlen
      omega

/-! ### A check is issued, or the part is in MAINTENANCE (R103, R176) -/

/-- The part out of the check, or in it with the scrub of the head as its one job, engine `off` left out of account. -/
def State.checked (s : State) (off : Option EngineNo) : Prop :=
  s.lines.reset = false ∧
  ((s.device = .maintenance ∧ s.keys.initCheck = []) ∨
    (s.device = .init ∧ s.mgmt.inHand = none ∧ s.mgmt.twoPart = .idle ∧ s.keys.initCheck.Nodup ∧
      (∀ m ∈ s.keys.initCheck, (s.slot m).holdsMaterial = true) ∧
      ∃ k more, s.keys.initCheck = k :: more ∧ s.soleJob off (scrubJob k true)))

theorem State.checked.initLawful (h : s.checked none) : s.initLawful := by
  obtain ⟨hr, h⟩ := h
  have hheld : s.heldInReset ≠ true := by simp [State.heldInReset, hr]
  rcases h with ⟨hd, hl⟩ | ⟨hd, hi, ht, hn, hm, k, more, hl, hj⟩
  · refine ⟨fun _ => hl, by rw [hl]; exact List.nodup_nil, by rw [hl]; nofun, fun h => absurd h hheld, ?_⟩
    rw [hd]
    rintro (h | h) <;> cases h
  · refine ⟨fun h => absurd hd h, hn, hm, fun h => absurd h hheld, fun _ => ⟨hi, ht, hj.count, fun j hs => ?_⟩⟩
    rw [hj.eq hs, hl]
    exact ⟨rfl, rfl⟩

theorem State.checked.afterEnd (h : s.checked (some e)) : (s.afterEnd e).checked none := by
  obtain ⟨hr, h⟩ := h
  have hjobs : JobsOnly s (s.afterEnd e) := State.afterEnd_jobsOnly s e
  refine ⟨by rw [hjobs.lines]; exact hr, h.imp (fun h => ?_) fun ⟨hd, hi, ht, hn, hm, k, more, hl, hj⟩ => ?_⟩
  · rw [hjobs.device, hjobs.initCheck]
    exact h
  · rw [hjobs.device, hjobs.initCheck, hjobs.mgmt]
    exact ⟨hd, hi, ht, hn, fun m hx => by rw [hjobs.slot]; exact hm m hx, k, more, hl, State.afterEnd_soleJob hj rfl⟩

/-- The part with a lawful check list and no job but that of engine `off`. -/
structure State.checks (s : State) (off : Option EngineNo) : Prop where
  device : s.device = .init
  reset : s.lines.reset = false
  inHand : s.mgmt.inHand = none
  twoPart : s.mgmt.twoPart = .idle
  nodup : s.keys.initCheck.Nodup
  material : ∀ m ∈ s.keys.initCheck, (s.slot m).holdsMaterial = true
  onlyOn : s.onlyOn off

theorem State.checks.continueInitCheck (h : s.checks off) : s.continueInitCheck.checked off := by
  unfold State.continueInitCheck
  split
  · rename_i hl
    have hj := State.scrubTest_jobsOnly { s with device := .maintenance }
    exact ⟨by unfold State.enterMaintenance; rw [hj.lines]; exact h.reset,
      .inl ⟨by unfold State.enterMaintenance; rw [hj.device], by unfold State.enterMaintenance; rw [hj.initCheck]; exact hl⟩⟩
  · rename_i k more hl
    have hj := s.issueScrub_jobsOnly k true
    have hsole := State.arrive_soleJob (s := s.setOutstanding (some { slot := k, forced := true, running := false }))
      h.onlyOn (scrubJob k true)
    refine ⟨by rw [hj.lines]; exact h.reset, .inr ?_⟩
    rw [hj.device, hj.initCheck, hj.mgmt]
    exact ⟨h.device, h.inHand, h.twoPart, h.nodup, fun m hm => by rw [hj.slot]; exact h.material m hm, k, more, hl,
      hsole⟩

/-! ### A scrub of the check ends (R100, R102, R103) -/

theorem Engine.isIdle_atLoss (n : SlotNo) (x : Engine) : (x.atLoss n).isIdle = x.isIdle := by
  obtain ⟨st, cl, lo⟩ := x
  unfold Engine.atLoss
  cases st <;> dsimp only <;> split <;> rfl

theorem JobsRest.onlyOn (h : JobsRest s t) (hs : s.onlyOn off) : t.onlyOn off :=
  ⟨List.sublist_nil.mp (hs.1 ▸ h.queue), fun d => by rw [Engine.isIdle_eq, h.engines, ← Engine.isIdle_eq]; exact hs.2 d⟩

theorem State.onlyOn_of_cipher (h : t.cipher = s.cipher) (hs : s.onlyOn off) : t.onlyOn off :=
  JobsRest.onlyOn (.of_cipher h) hs

theorem State.foldl_masterLost_jobsRest (hw : s.working = false) (n : SlotNo) (l : List ContextNo) :
    JobsRest s (l.foldl (fun s c => s.masterLost n c) s) := by
  induction l generalizing s with
  | nil => exact .refl s
  | cons c l ih =>
    have hc : JobsRest s (s.masterLost n c) := by
      unfold State.masterLost
      repeat' split
      · exact State.endPass_jobsRest hw c _
      · exact .refl s
      · exact .refl s
    exact hc.trans (ih (by rw [State.working_of_keyed (s.masterLost_keyed n c)]; exact hw))

/-- With no job queued, a withdrawal by loss in INIT tells no owner and issues no job. -/
theorem State.withdrawLoss_onlyOn (hw : s.working = false) (hs : s.onlyOn off) (n : SlotNo) (x : Slot) :
    (s.withdrawLoss n x).onlyOn off ∧ (s.withdrawLoss n x).keyed = (s.clearWriteGenOf x).keyed := by
  have hheard : s.lossHeard n x = s.lossBegun n x := by
    unfold State.lossHeard
    rw [hs.1]
    rfl
  have hkeyed := s.lossBegun_keyed n x
  have honly : (s.lossBegun n x).onlyOn off := by
    have hcipher : ((s.clearWriteGenOf x).dropCacheOf x).cipher = s.cipher :=
      (State.dropCacheOf_cipher _ x).trans (s.clearWriteGenOf_cipher x)
    refine ⟨?_, fun d => ?_⟩
    · show (((s.clearWriteGenOf x).dropCacheOf x).cipher.queue.filter _) = []
      rw [hcipher, hs.1]
      rfl
    · rw [show (s.lossBegun n x).engine d = (((s.clearWriteGenOf x).dropCacheOf x).engine d).atLoss n from
        State.engine_tellEngines _ _ d, Engine.isIdle_atLoss]
      exact (State.onlyOn_of_cipher hcipher hs).2 d
  rw [State.withdrawLoss_eq, hheard]
  split
  · have hwb : (s.lossBegun n x).working = false := by
      rw [State.working_of_keyed hkeyed]
      unfold State.working State.live at hw ⊢
      rwa [show (s.clearWriteGenOf x).device = s.device from congrArg Keyed.device (s.clearWriteGenOf_keyed x),
        show (s.clearWriteGenOf x).lines.reset = s.lines.reset from congrArg Keyed.reset (s.clearWriteGenOf_keyed x)]
    exact ⟨(State.foldl_masterLost_jobsRest hwb n _).onlyOn honly,
      (State.foldl_masterLost_keyed _ n _).trans hkeyed⟩
  · exact ⟨honly, hkeyed⟩

/-- What the judgement of a scrub in INIT leaves: no other slot, no request and no job is touched (R100, R102). -/
theorem State.judgeScrub_onlyOn (hw : s.working = false) (hs : s.onlyOn off) (n : SlotNo) (out : Option Block) :
    (s.judgeScrub n out).onlyOn off ∧ (s.judgeScrub n out).mgmt.inHand = s.mgmt.inHand ∧
      (s.judgeScrub n out).mgmt.twoPart = s.mgmt.twoPart ∧ ∀ m, m ≠ n → (s.judgeScrub n out).slot m = s.slot m := by
  unfold State.judgeScrub
  split
  · exact ⟨hs, rfl, rfl, fun _ _ => rfl⟩
  · dsimp only
    split
    · split
      · exact ⟨hs, rfl, rfl, fun m hm => (State.slot_setSlot _ _ _ _).trans (if_neg hm)⟩
      · unfold State.faultSlot
        dsimp only
        generalize hy : ({ s.slot n with state := .faulted, material := none } : Slot) = y
        have hk := (s.changeSlot n y).raise_keyed .scrubFault
        obtain ⟨h1, h2⟩ := State.withdrawLoss_onlyOn (s := (s.changeSlot n y).raise .scrubFault) (off := off)
          (by rw [State.working_of_keyed hk]; exact hw)
          (State.onlyOn_of_cipher (State.raise_cipher _ _) hs) n (s.slot n)
        have h3 := h2.trans ((State.clearWriteGenOf_keyed _ _).trans (by rw [hk]))
        refine ⟨h1, congrArg Keyed.inHand h3, congrArg Keyed.twoPart h3, fun m hm => ?_⟩
        exact (congrArg (fun k => tableGet (Keyed.slots k) m) h3).trans ((State.slot_changeSlot s n m y).trans (if_neg hm))
    · exact ⟨hs, rfl, rfl, fun _ _ => rfl⟩

/-- With the scrub of the head over, the check goes on with the rest of its list (R103). -/
theorem State.afterScrub_of_head {l : List SlotNo} (hd : s.device = .init) (hl : s.keys.initCheck = n :: l) :
    s.afterScrub = State.continueInitCheck
      { s with keys := { s.keys with outstanding := none, initCheck := l } } := by
  unfold State.afterScrub
  dsimp only
  rw [if_pos ⟨hd, by show s.keys.initCheck ≠ []; rw [hl]; nofun⟩]
  show State.continueInitCheck
    { s with keys := { s.keys with outstanding := none, initCheck := s.keys.initCheck.drop 1 } } = _
  rw [hl]
  rfl

/-- The end of the check's scrub on engine e, judged or not, leaves the law (R103, R176). -/
theorem State.scrubEnd_checked (hs : s.initLawful) (hd : s.device = .init) (hj : (s.engine e).job? = some j)
    (out : Option Block) : ((s.scrubEnd j out).afterEnd e).initLawful := by
  have hw := State.not_working_of_resting (s := s) (.inl hd)
  obtain ⟨-, hkey⟩ := hs.scrubs (.inl hd) (.inr ⟨e, hj⟩)
  obtain ⟨-, hnodup, hmat, hheld, hin⟩ := hs
  obtain ⟨hi, ht, hcount, -⟩ := hin (.inl hd)
  cases hl : s.keys.initCheck with
  | nil =>
    rw [hl] at hkey
    cases hkey
  | cons n l =>
    rw [hl] at hkey hnodup hmat
    obtain ⟨hn, hnodup⟩ := List.nodup_cons.mp hnodup
    have hreset : s.lines.reset = false := by
      cases hr : s.lines.reset with
      | false => rfl
      | true =>
        have := (hheld (by simp [State.heldInReset, hr, hd])).2
        rw [hl] at this
        cases this
    have hkeeps := s.judgeScrub_keepsKeys n out
    obtain ⟨honly, hi', ht', hslot⟩ := State.judgeScrub_onlyOn hw (State.onlyOn_of_count hcount hj) n out
    have hend : s.scrubEnd j out = (s.judgeScrub n out).afterScrub := by
      unfold State.scrubEnd
      rw [← Option.some.inj hkey]
    rw [hend, State.afterScrub_of_head (hkeeps.device.trans hd) (hkeeps.initCheck.trans hl)]
    refine (State.checks.continueInitCheck (s := { s.judgeScrub n out with
      keys := { (s.judgeScrub n out).keys with outstanding := none, initCheck := l } }) ⟨hkeeps.device.trans hd, hkeeps.reset.trans hreset, hi'.trans hi, ht'.trans ht,
      hnodup, fun m hm => ?_, honly⟩).afterEnd.initLawful
    have hmn : m ≠ n := fun h => hn (h ▸ hm)
    show ((s.judgeScrub n out).slot m).holdsMaterial = true
    rw [hslot m hmn]
    exact hmat m (List.mem_cons_of_mem n hm)

/-- In HOLD no job stands (R179). -/
theorem State.initLawful.no_job_in_hold (hs : s.initLawful) (hd : s.device = .hold) : ¬s.jobStands j := by
  intro hj
  have h := (hs.scrubs (.inr hd) hj).2
  rw [hs.1 (by rw [hd]; decide)] at h
  cases h

theorem State.completeScrub_initLawful (hs : s.initLawful) (e : EngineNo) :
    (s.completeJob e .scrub State.scrubEnd).initLawful := by
  by_cases hd : s.device = .init
  · unfold State.completeJob
    split
    · rename_i r j he
      split
      · exact State.scrubEnd_checked hs hd (by unfold Engine.job?; rw [he]) _
      · exact hs
    all_goals exact hs
  · by_cases hh : s.device = .hold
    · unfold State.completeJob
      split
      · rename_i r j he
        exact absurd (.inr ⟨e, by unfold Engine.job?; rw [he]⟩) (hs.no_job_in_hold (j := j) hh)
      all_goals exact hs
    · exact (s.completeJob_keepsKeys e .scrub (State.scrubEnd_keepsKeys (.inl hd))).initLawful hd hh hs

/-- An opening that ends leaves the engine its job, or ends the check's scrub (R131). -/
theorem State.completeOpening_initLawful (hs : s.initLawful) (e : EngineNo) : (s.completeOpening e).initLawful := by
  by_cases hd : s.resting
  · unfold State.completeOpening
    dsimp only
    split
    · rename_i r j he
      have hjob : (s.engine e).job? = some j := by unfold Engine.job?; rw [he]
      split
      · have hi : s.device = .init := hd.resolve_right fun hh => hs.no_job_in_hold hh (.inr ⟨e, hjob⟩)
        rw [State.deliver_of_scrub (hs.scrubs hd (.inr ⟨e, hjob⟩)).1]
        exact State.scrubEnd_checked hs hi hjob none
      · refine Rests.initLawful (s := s) (.of_keyed rfl ⟨List.Sublist.refl _, fun d => ?_⟩) hs
        by_cases hde : d = e
        · rw [hde, State.engine_setEngine_self, hjob]
          rfl
        · exact congrArg Engine.job? (tableGet_tableSet_ne _ _ hde)
    all_goals exact hs
  · exact (State.completeOpening_keepsKeys (.inl fun h => hd (.inl h)) e).initLawful (fun h => hd (.inl h))
      (fun h => hd (.inr h)) hs

/-! ### Wipes and resets (R123, R178 to R183) -/

/-- The part without a job, a check list, a request in hand or a first part. -/
structure State.bare (s : State) : Prop where
  queue : s.cipher.queue = []
  engines : ∀ e, (s.engine e).isIdle = true
  initCheck : s.keys.initCheck = []
  inHand : s.mgmt.inHand = none
  twoPart : s.mgmt.twoPart = .idle

theorem State.bare.initLawful (h : s.bare) (hr : s.heldInReset = true → s.device = .init) : s.initLawful := by
  have hnone : ∀ e, (s.engine e).job? = none := fun e => by
    have := h.engines e
    rwa [Engine.isIdle_eq, Option.isNone_iff_eq_none] at this
  unfold State.initLawful
  rw [h.initCheck, h.queue, h.inHand, h.twoPart]
  refine ⟨fun _ => rfl, List.nodup_nil, nofun, fun hh => ⟨hr hh, rfl⟩, fun _ => ⟨rfl, rfl, ?_, fun j hj => ?_⟩⟩
  · simp [hnone]
  · rcases hj with hj | ⟨e, he⟩
    · rw [h.queue] at hj
      cases hj
    · rw [hnone] at he
      cases he

theorem State.engines_cleared (h : s.cipher = Cipher.cleared) (e : EngineNo) : (s.engine e).isIdle = true := by
  unfold State.engine
  rw [h, show tableGet Cipher.cleared.engines e = Engine.closed from tableGet_replicate _ _]
  rfl

theorem State.bare_of_cleared (hc : s.cipher = Cipher.cleared) (hl : s.keys.initCheck = [])
    (hi : s.mgmt.inHand = none) (ht : s.mgmt.twoPart = .idle) : s.bare :=
  ⟨by rw [hc]; rfl, State.engines_cleared hc, hl, hi, ht⟩

/-- A lawful part in HOLD, or held in reset, is bare. -/
theorem State.initLawful.bare (hs : s.initLawful) (hd : s.device = .hold ∨ s.heldInReset = true) : s.bare := by
  have hlist : s.keys.initCheck = [] :=
    hd.elim (fun h => hs.1 (by rw [h]; decide)) fun h => (hs.2.2.2.1 h).2
  have hrest : s.resting := hd.elim .inr fun h => .inl (hs.2.2.2.1 h).1
  have hno : ∀ j, ¬s.jobStands j := fun j hj => by
    have h := (hs.scrubs hrest hj).2
    rw [hlist] at h
    cases h
  refine ⟨List.eq_nil_iff_forall_not_mem.mpr fun j hj => hno j (.inl hj), fun e => ?_, hlist, (hs.nothing hrest).1,
    (hs.nothing hrest).2⟩
  rw [Engine.isIdle_eq]
  cases he : (s.engine e).job? with
  | none => rfl
  | some j => exact absurd (.inr ⟨e, he⟩) (hno j)

theorem State.wipe_bare (s : State) : s.wipe.bare :=
  State.bare_of_cleared (by rw [State.wipe_eq, State.raise_cipher]; rfl) (congrArg Keyed.initCheck s.wipe_keyed)
    (congrArg Keyed.inHand s.wipe_keyed) (congrArg Keyed.twoPart s.wipe_keyed)

theorem State.wipe_initLawful (h : s.lines.reset = false ∨ s.device = .hold) : s.wipe.initLawful := by
  refine s.wipe_bare.initLawful fun hh => ?_
  have hd : s.wipe.device = if s.device = .hold then .hold else .maintenance := congrArg Keyed.device s.wipe_keyed
  have hr : s.wipe.lines.reset = s.lines.reset := congrArg Keyed.reset s.wipe_keyed
  unfold State.heldInReset at hh
  rw [hd, hr] at hh
  rcases h with h | h <;> simp [h] at hh

theorem State.wipes_initLawful (hs : s.initLawful) (hr : s.lines.reset = false) (k : Nat) : (s.wipes k).initLawful := by
  induction k generalizing s with
  | zero => exact hs
  | succ k ih => exact ih (State.wipe_initLawful (.inl hr)) ((congrArg Keyed.reset s.wipe_keyed).trans hr)

/-- INIT entry from a part without a job (R103, R182). -/
theorem State.enterInit_initLawful (hq : s.cipher.queue = []) (he : ∀ e, (s.engine e).isIdle = true)
    (hi : s.mgmt.inHand = none) (ht : s.mgmt.twoPart = .idle) (hr : s.lines.reset = false) :
    s.enterInit.initLawful := by
  have hchecks : s.initBegun.checks none := by
    refine ⟨rfl, hr, hi, ht, ?_, fun m hm => ?_, hq, fun d => ⟨nofun, fun _ => he d⟩⟩
    · exact List.Nodup.filter _ (List.nodup_finRange 128)
    · exact (List.mem_filter.mp hm).2
  rw [State.enterInit_eq]
  exact State.wipes_initLawful hchecks.continueInitCheck.initLawful hchecks.continueInitCheck.1 _

theorem KeyStore.atHold_initCheck (k : KeyStore) : k.atHold.initCheck = [] := by
  unfold KeyStore.atHold
  dsimp only

theorem KeyStore.atLaneReset_initCheck (k : KeyStore) : k.atLaneReset.initCheck = [] := by
  unfold KeyStore.atLaneReset
  dsimp only

theorem State.not_heldInReset_of_hold (h : s.device = .hold) : s.heldInReset = false := by
  simp [State.heldInReset, h]

theorem State.enterHold_initLawful (s : State) : s.enterHold.initLawful :=
  (State.bare_of_cleared (s := s.enterHold) rfl (KeyStore.atHold_initCheck _) rfl rfl).initLawful fun h =>
    absurd ((State.not_heldInReset_of_hold (s := s.enterHold) rfl).symm.trans h) nofun

theorem State.resetLane_initLawful (s : State) : s.resetLane.initLawful :=
  (State.bare_of_cleared (s := s.resetLane) rfl (KeyStore.atLaneReset_initCheck _) rfl rfl).initLawful fun _ => rfl

theorem State.powerOn_initLawful (s : State) : s.powerOn.initLawful := by
  have hbare : s.powerOnBlocks.bare := State.bare_of_cleared rfl rfl rfl rfl
  unfold State.powerOn
  dsimp only
  repeat' split
  · exact State.enterHold_initLawful _
  · exact hbare.initLawful fun _ => rfl
  · rename_i hr
    exact State.enterInit_initLawful hbare.queue hbare.engines hbare.inHand hbare.twoPart (by simpa using hr)

/-! ### The lines (R122, R178 to R182) -/

theorem State.assertZeroise_initLawful (hs : s.initLawful) : s.assertZeroise.initLawful := by
  unfold State.assertZeroise
  split
  · exact Rests.initLawful (s := s) (.of_keyed rfl (.of_cipher rfl)) hs
  · rename_i hh
    refine State.wipe_initLawful ?_
    simpa [State.heldInReset, or_iff_not_imp_left] using hh

theorem State.assertSupplyFail_initLawful (hs : s.initLawful) : s.assertSupplyFail.initLawful := by
  unfold State.assertSupplyFail
  dsimp only
  repeat' split
  · exact hs
  · exact Rests.initLawful (s := s) (.of_keyed rfl (.of_cipher rfl)) hs
  · exact State.enterHold_initLawful _

theorem State.exitHold_initLawful (hs : s.initLawful) (hd : s.device = .hold) : s.exitHold.initLawful := by
  have hbare := hs.bare (.inl hd)
  unfold State.exitHold
  dsimp only
  split
  · exact State.bare.initLawful ⟨hbare.queue, hbare.engines, hbare.initCheck, hbare.inHand, hbare.twoPart⟩ fun _ => rfl
  · rename_i hr
    exact State.enterInit_initLawful hbare.queue hbare.engines hbare.inHand hbare.twoPart (by simpa using hr)

theorem State.leaveHold_initLawful (hs : s.initLawful) : s.leaveHold.initLawful := by
  unfold State.leaveHold
  split
  · exact State.exitHold_initLawful hs (‹_ ∧ _›).1
  · exact hs

/-- A change of a line other than RESET (R163, R180, R181). -/
theorem State.setLines_initLawful (hs : s.initLawful) {f : Lines → Lines} (hf : (f s.lines).reset = s.lines.reset) :
    (s.setLines f).initLawful :=
  Rests.initLawful (s := s) ⟨rfl, hf, rfl, rfl, rfl, fun _ => rfl, .of_cipher rfl⟩ hs

theorem State.deassertSupplyFail_initLawful (hs : s.initLawful) : s.deassertSupplyFail.initLawful := by
  unfold State.deassertSupplyFail
  split
  · exact State.leaveHold_initLawful (State.setLines_initLawful hs rfl)
  · exact hs

theorem State.assertWake_initLawful (hs : s.initLawful) : s.assertWake.initLawful := by
  unfold State.assertWake
  split
  · exact hs
  · exact State.leaveHold_initLawful (State.setLines_initLawful hs rfl)

theorem State.assertReset_initLawful (hs : s.initLawful) : s.assertReset.initLawful := by
  unfold State.assertReset
  dsimp only
  repeat' split
  · exact hs
  · rename_i hd
    have hbare := hs.bare (.inl hd)
    refine State.bare.initLawful ⟨hbare.queue, hbare.engines, hbare.initCheck, hbare.inHand, hbare.twoPart⟩ fun h => ?_
    rw [State.not_heldInReset_of_hold hd] at h
    cases h
  · exact State.resetLane_initLawful _

theorem State.deassertReset_initLawful (hs : s.initLawful) : s.deassertReset.initLawful := by
  unfold State.deassertReset
  dsimp only
  repeat' split
  · rename_i hd
    have hbare := hs.bare (.inl hd)
    refine State.bare.initLawful ⟨hbare.queue, hbare.engines, hbare.initCheck, hbare.inHand, hbare.twoPart⟩ fun h => ?_
    rw [State.not_heldInReset_of_hold hd] at h
    cases h
  · rename_i hr hd
    have hd : s.device ≠ .hold := hd
    have hbare := hs.bare (.inr (by simp [State.heldInReset, hr, hd]))
    exact State.enterInit_initLawful hbare.queue hbare.engines hbare.inHand hbare.twoPart rfl
  · exact hs

/-! ### The requests that move the part (R121, R177, R178) -/

theorem State.respond_initLawful (hs : s.initLawful) (q : Request) (st : Status) (data : List Byte) :
    (s.respond q st data).initLawful := (s.respond_rests q st data).initLawful hs

/-- A request keeps the law where its judgement out of INIT does, the ports being live (R165). -/
theorem State.take_initLawful (hs : s.initLawful) (fits : Byte → Bool) {judge : Request → State → State}
    (h : ∀ q t, t.live = true → t.initLawful → (judge q t).initLawful) : (s.take fits judge).initLawful := by
  unfold State.take
  split
  · rename_i q hq
    have hl : s.live = true := by
      unfold State.takeable State.managementFree at hq
      split at hq
      · cases hq
      · split at hq
        · simp_all
        · cases hq
    exact h q s.popRequest hl (Rests.initLawful (s := s) (.of_keyed rfl (.of_cipher rfl)) hs)
  · exact hs

theorem outsideInit_initLawful {judge : Request → State → State} {q : Request} {s : State} (hs : s.initLawful)
    (h : s.device ≠ .init → (judge q s).initLawful) : (outsideInit judge q s).initLawful := by
  unfold outsideInit
  split
  · exact State.respond_initLawful hs _ _ _
  · exact h ‹_›

theorem State.discardTwoPart_initLawful (hs : s.initLawful) : s.discardTwoPart.initLawful := by
  by_cases hd : s.resting
  · rw [State.discardTwoPart_idle (hs.nothing hd).2]
    exact hs
  · exact s.discardTwoPart_keepsKeys.initLawful (fun h => hd (.inl h)) (fun h => hd (.inr h)) hs

theorem State.takeRequest_initLawful (hs : s.initLawful) (code : Byte) {judge : Request → State → State}
    (h : ∀ q t, t.live = true → t.device ≠ .init → t.initLawful → (judge q t).initLawful) :
    (s.takeRequest code judge).initLawful :=
  State.take_initLawful hs _ fun q t hl ht => by
    unfold underOrder
    split
    · exact outsideInit_initLawful ht fun hd => h q t hl hd ht
    · exact State.respond_initLawful (State.discardTwoPart_initLawful ht) _ _ _

/-- A part that is in MAINTENANCE or SERVICE with its ports live, its check list empty. -/
theorem State.initLawful_of_working (hl : s.keys.initCheck = []) (hr : s.lines.reset = false)
    (hd : s.device = .maintenance ∨ s.device = .service) : s.initLawful := by
  unfold State.initLawful State.heldInReset
  rw [hl, hr]
  refine ⟨fun _ => rfl, List.nodup_nil, nofun, nofun, fun h => ?_⟩
  rcases hd with hd | hd <;> rw [hd] at h <;> rcases h with h | h <;> cases h

theorem judgeSetService_initLawful (q : Request) (s : State) (hl : s.live = true) (hd : s.device ≠ .init)
    (hs : s.initLawful) : (judgeSetService q s).initLawful := by
  have hlist := hs.1 hd
  have hr : s.lines.reset = false := by simp_all [State.live]
  unfold judgeSetService
  split
  · unfold judgeServiceOff
    refine State.respond_initLawful ?_ _ _ _
    split
    · have hj := State.scrubTest_jobsOnly { s with device := .maintenance }
      exact State.initLawful_of_working (hj.initCheck.trans hlist) (by unfold State.enterMaintenance; rw [hj.lines]; exact hr)
        (.inl hj.device)
    · exact hs
  · split
    · unfold judgeServiceOn
      split
      · exact State.respond_initLawful (State.initLawful_of_working (s := { s with device := .service }) hlist hr (.inr rfl)) _ _ _
      · exact State.respond_initLawful hs _ _ _
    · exact State.respond_initLawful hs _ _ _

theorem judgeHold_initLawful (q : Request) (s : State) : (judgeHold q s).initLawful :=
  State.respond_initLawful s.enterHold_initLawful _ _ _

theorem judgeZeroise_initLawful (q : Request) (s : State) (hl : s.live = true) : (judgeZeroise q s).initLawful :=
  State.respond_initLawful (State.wipe_initLawful (.inl (by simp_all [State.live]))) _ _ _

/-! ### Every command, and every step -/

/-- Every command keeps the law of the INIT check. -/
theorem exec_initLawful (i : Instr) (hs : s.initLawful) : ∃ t, exec i s = .next t ∧ t.initLawful := by
  cases hi : movesPart i with
  | false =>
    by_cases hd : s.resting
    · obtain ⟨t, ht, hr⟩ := exec_rests hi hs hd
      exact ⟨t, ht, hr.initLawful hs⟩
    · obtain ⟨t, ht, hk⟩ := exec_keepsKeys hi s
      exact ⟨t, ht, hk.initLawful (fun h => hd (.inl h)) (fun h => hd (.inr h)) hs⟩
  | true =>
    cases i with
    | openCompletion e => exact ⟨_, rfl, State.completeOpening_initLawful hs e⟩
    | scrubJobCompletion e => exact ⟨_, rfl, State.completeScrub_initLawful hs e⟩
    | setService => exact ⟨_, rfl, State.takeRequest_initLawful hs _ judgeSetService_initLawful⟩
    | hold => exact ⟨_, rfl, State.takeRequest_initLawful hs _ fun q t _ _ _ => judgeHold_initLawful q t⟩
    | zeroise =>
      exact ⟨_, rfl, State.take_initLawful hs _ fun q t hl ht =>
        outsideInit_initLawful ht fun _ => judgeZeroise_initLawful q t hl⟩
    | zeroiseLine => exact ⟨_, rfl, State.assertZeroise_initLawful hs⟩
    | supplyFail => exact ⟨_, rfl, State.assertSupplyFail_initLawful hs⟩
    | wake => exact ⟨_, rfl, State.assertWake_initLawful hs⟩
    | supplyFailDeasserted => exact ⟨_, rfl, State.deassertSupplyFail_initLawful hs⟩
    | laneReset => exact ⟨_, rfl, State.assertReset_initLawful hs⟩
    | resetDeasserted => exact ⟨_, rfl, State.deassertReset_initLawful hs⟩
    | powerOnReset => exact ⟨_, rfl, s.powerOn_initLawful⟩
    | _ => cases hi

/-- What every command keeps, and a tick and the queue of commands do not touch, every step keeps. -/
theorem step_keeps_law {P : State → Prop} (hexec : ∀ i {s : State}, P s → ∃ t, exec i s = .next t ∧ P t)
    (hpending : ∀ {s : State} rest, P s → P { s with pending := rest }) (htick : ∀ {s : State}, P s → P s.tick)
    (hst : step s = .next t) (hs : P s) : P t := by
  have run : ∀ i {u : State}, P u → exec i u = .next t → P t := by
    intro i u hu hi
    obtain ⟨v, hv, hp⟩ := hexec i hu
    rw [hi] at hv
    exact Host.Outcome.next.inj hv ▸ hp
  unfold step at hst
  split at hst
  · exact run _ (hpending _ hs) hst
  · split at hst
    · exact run _ hs hst
    · exact Host.Outcome.next.inj hst ▸ htick hs

/-- Settles O7: each law is kept by every command, the keys' by the rule of each operation on the key store and the
management unit, the INIT check's because outside MAINTENANCE and SERVICE only its own scrub runs. -/
theorem stepKeepsKeyLaws : Obligations.StepKeepsKeyLaws :=
  fun _ _ hst =>
    ⟨step_keeps_law (P := State.keysLawful) (fun i _ h => exec_keysLawful i h) (fun _ h => h) (fun h => h) hst,
      step_keeps_law (P := State.initLawful) (fun i _ h => exec_initLawful i h) (fun _ h => h) (fun h => h) hst⟩

end Sys2Proof.Machine
end

section
/-! PROOF. An overdue slot, and the key requests that only move a slot: ACTIVATE and RETIRE (R91, R98, R99, R115,
R116). -/

namespace Sys2Proof.Machine

variable {s : State} {q : Request} {rest : List Request} {n : SlotNo} {b : Byte}

/-- Settles O34, by what the key store does for a slot that is overdue. -/
theorem overdueForcesScrub : Obligations.OverdueForcesScrub := fun _ _ hw hn =>
  ⟨_, congrArg Host.Outcome.next (if_pos hn), State.noteOverdue_noted hw hn⟩

/-! ### The slot number of a request for a general slot (R115, R116) -/

theorem slotOf_general_eq_none (h : b = 0 ∨ 127 < b.toNat) : (slotOf b).filter (· ≠ 0) = none := by
  rcases h with rfl | h
  · rfl
  · rw [slotOf_eq_none h]
    rfl

theorem slotOf_general_eq_some (h : b.toNat = n.val) (hn : n ≠ 0) : (slotOf b).filter (· ≠ 0) = some n := by
  rw [slotOf_eq_some h]
  simp [hn]

/-! ### ACTIVATE (R115) -/

theorem State.exec_activate (ht : s.takes q rest) (hu : s.unhindered) (hc : q.code = 0x15#8) :
    exec .activate s = .next (judgeActivate q (s.left rest)) :=
  congrArg Host.Outcome.next (State.takeRequest_of_takes ht hc hu.1 hu.2 judgeActivate)

/-- What the checks refuse is answered so. -/
theorem judgeActivate_refused (ht : s.takes q rest) (hb : (byteAt q.params 0).toNat = n.val) (hn : n ≠ 0) {st : Status}
    (hst : st.carriesData = false) (h : s.activateRefusal (s.slot n) = some st) :
    judgeActivate q (s.left rest) = (s.left rest).answered q st [] := by
  unfold judgeActivate
  rw [slotOf_general_eq_some hb hn]
  dsimp only
  rw [show (s.left rest).activateRefusal ((s.left rest).slot n) = some st from h]
  exact State.respond_refusal ht hst

/-- What passes the checks makes the slot ACTIVE. -/
theorem judgeActivate_passed (ht : s.takes q rest) (hb : (byteAt q.params 0).toNat = n.val) (hn : n ≠ 0)
    (h : s.activateRefusal (s.slot n) = none) :
    judgeActivate q (s.left rest) = { s.left rest with keys := { s.keys with
      slots := tableSet s.keys.slots n { s.slot n with state := .active }
      keyChange := true } }.answered q .ok [byteAt q.params 0, 3#8] := by
  unfold judgeActivate
  rw [slotOf_general_eq_some hb hn]
  dsimp only
  rw [show (s.left rest).activateRefusal ((s.left rest).slot n) = none from h]
  dsimp only
  rw [State.respond_of_room (by exact ht.2.2.2.2), slotByte_eq hb]
  rfl

/-- A slot before its valid-until has not reached it. -/
theorem Slot.not_reachedUntil {x : Slot} {m : Minute} (h : x.validUntil = 0xFFFFFFFF#32 ∨ m < x.validUntil) :
    x.reachedUntil m = false := by
  rcases h with h | h
  · simp [Slot.reachedUntil, h]
  · simp [Slot.reachedUntil, h]

/-! ### RETIRE (R116) -/

theorem State.exec_retire (ht : s.takes q rest) (hu : s.unhindered) (hc : q.code = 0x16#8) :
    exec .retire s = .next (judgeRetire q (s.left rest)) :=
  congrArg Host.Outcome.next (State.takeRequest_of_takes ht hc hu.1 hu.2 judgeRetire)

theorem judgeRetire_refused (ht : s.takes q rest) (hb : (byteAt q.params 0).toNat = n.val) (hn : n ≠ 0)
    (h : (s.slot n).isActive = false) : judgeRetire q (s.left rest) = (s.left rest).answered q .state [] := by
  unfold judgeRetire
  rw [slotOf_general_eq_some hb hn]
  dsimp only
  rw [if_neg (by rw [State.left_slot, h]; nofun)]
  exact State.respond_refusal ht rfl

theorem judgeRetire_passed (ht : s.takes q rest) (hb : (byteAt q.params 0).toNat = n.val) (hn : n ≠ 0)
    (h : (s.slot n).isActive = true) {g : Option Generation}
    (hg : g = if (s.slot n).role = some .record ∧ s.keys.writeGen = some (s.slot n).generation then none
      else s.keys.writeGen) :
    judgeRetire q (s.left rest) = { s.left rest with keys := { s.keys with
      slots := tableSet s.keys.slots n { s.slot n with state := .retiring }
      keyChange := true
      writeGen := g } }.answered q .ok [byteAt q.params 0, genByte g] := by
  unfold judgeRetire
  rw [slotOf_general_eq_some hb hn]
  dsimp only
  rw [if_pos (by exact h), State.clearWriteGenOf_eq (by rfl), State.respond_of_room (by exact ht.2.2.2.2),
    slotByte_eq hb]
  subst hg
  rfl

/-- Settles O48: the two refusals of the slot number, then the checks of ACTIVATE in order and the one of RETIRE. -/
theorem activateAndRetire : Obligations.ActivateAndRetire := by
  rintro s q rest b ht hu rfl
  refine ⟨fun hbad => ⟨fun hc => ?_, fun hc => ?_⟩, fun n hb hn he => ⟨fun hc => ?_, fun hc => ?_⟩⟩
  · rw [State.exec_activate ht hu hc, judgeActivate, slotOf_general_eq_none hbad]
    exact congrArg Host.Outcome.next (State.respond_refusal ht rfl)
  · rw [State.exec_retire ht hu hc, judgeRetire, slotOf_general_eq_none hbad]
    exact congrArg Host.Outcome.next (State.respond_refusal ht rfl)
  · rw [State.exec_activate ht hu hc]
    refine ⟨fun h => congrArg Host.Outcome.next (judgeActivate_refused ht hb hn rfl ?_),
      fun hst hcal hun hle => congrArg Host.Outcome.next (judgeActivate_refused ht hb hn rfl ?_),
      fun hst hcal hun => ⟨fun hfrom => congrArg Host.Outcome.next (judgeActivate_refused ht hb hn rfl ?_),
        fun hfrom => congrArg Host.Outcome.next (judgeActivate_passed ht hb hn ?_)⟩⟩
    · rcases h with h | h
      · simp [State.activateRefusal, h]
      · simp [State.activateRefusal, h]
    · simp [State.activateRefusal, hst, hcal, he, Slot.reachedUntil, hun, hle]
    · simp [State.activateRefusal, hst, hcal, he, Slot.not_reachedUntil hun, hfrom]
    · simp [State.activateRefusal, hst, hcal, he, Slot.not_reachedUntil hun, BitVec.not_lt.mpr hfrom]
  · rw [State.exec_retire ht hu hc]
    refine ⟨fun h => congrArg Host.Outcome.next (judgeRetire_refused ht hb hn ?_),
      fun h g hg => congrArg Host.Outcome.next (judgeRetire_passed ht hb hn ?_ hg)⟩
    · simp [Slot.isActive, h]
    · simp [Slot.isActive, h, he]

end Sys2Proof.Machine
end

section
/-! PROOF. READ-STATUS and SET-SERVICE (R99, R104, R170, R177). -/

namespace Sys2Proof.Machine

variable {s : State} {q : Request} {rest : List Request}

/-! ### READ-STATUS (R170) -/

/-- It is taken in INIT too, and answered from the part as it stands before the indicator is cleared. -/
theorem State.exec_readStatus (ht : s.takes q rest) (hp : s.mgmt.twoPart = .idle) (hc : q.code = 0x01#8) :
    exec .readStatus s = .next { (s.left rest).answered q .ok (s.left rest).statusData with
      keys := { s.keys with keyChange := false } } := by
  refine congrArg Host.Outcome.next ?_
  rw [State.take_of_takes ht (by simp [hc]), underOrder, if_pos (by exact hp), judgeReadStatus,
    State.respond_of_room (by exact ht.2.2.2.2)]
  rfl

/-- There are 32 contexts (section 1). -/
theorem State.freeContexts_le (s : State) : s.freeContexts ≤ 32 :=
  le_of_le_of_eq List.countP_le_length (List.length_finRange)

/-- Settles O39: the answer byte by byte from `State.statusData`. -/
theorem readStatusReports : Obligations.ReadStatusReports := by
  intro s q rest ht hp hc
  refine ⟨_, s.composeResponse q.tag q.code .ok s.statusData, State.exec_readStatus ht hp hc, rfl, rfl, rfl, rfl, rfl,
    rfl, rfl, rfl, fun h => ?_, fun h => ?_, fun h => ?_, rfl, ?_, ?_, ?_, rfl, ?_, rfl⟩
  · exact congrArg (fun x => some (rootByte x)) h
  · exact congrArg (fun x => some (rootByte x)) h
  · exact congrArg (fun x => some (rootByte x)) h
  · refine field_of_take rfl ?_
    split
    · exact toNat_lt_bytes _ (by decide)
    · decide
  · exact field_of_take rfl (toNat_lt_bytes _ (by decide))
  · exact field_of_take rfl (toNat_lt_bytes _ (by decide))
  · exact congrArg some (Nat.mod_eq_of_lt (lt_of_le_of_lt s.freeContexts_le (by decide)))

/-! ### SET-SERVICE (R177) -/

theorem State.exec_setService (ht : s.takes q rest) (hu : s.unhindered) (hc : q.code = 0x07#8) :
    exec .setService s = .next (judgeSetService q (s.left rest)) :=
  congrArg Host.Outcome.next (State.takeRequest_of_takes ht hc hu.1 hu.2 judgeSetService)

theorem judgeSetService_on (h : byteAt q.params 0 = 0x01#8) (s : State) : judgeSetService q s = judgeServiceOn q s := by
  rw [judgeSetService, if_neg (by rw [h]; decide), if_pos h]

theorem judgeSetService_off (h : byteAt q.params 0 = 0x00#8) (s : State) : judgeSetService q s = judgeServiceOff q s :=
  if_pos h

/-- What jobs alone change does not touch what an answer is composed of or where it stands (R166). -/
theorem JobsOnly.answered {t : State} (h : JobsOnly s t) (q : Request) (st : Status) (data : List Byte) :
    JobsOnly (s.answered q st data) (t.answered q st data) where
  rest := by
    have hlane : (t.answered q st data).lane = (s.answered q st data).lane := by
      simp only [State.answered, h.lane, h.events, show t.keys.keyChange = s.keys.keyChange by rw [h.keys]]
    rw [show t.answered q st data = { t with lane := (t.answered q st data).lane } from rfl, hlane]
    conv_lhs => rw [h.rest]
    rfl
  passes := h.passes
  contexts := h.contexts
  keys := h.keys

/-- An answer is nothing to the test for a scrub (R99). -/
theorem State.scrubTested.answered {t : State} (h : s.scrubTested t) (q : Request) (st : Status) (data : List Byte) :
    s.scrubTested (t.answered q st data) :=
  h

/-- Settles O44: the cells of the table, and the test for a scrub at the entry to MAINTENANCE. -/
theorem setServiceMoves : Obligations.SetServiceMoves := by
  rintro s q rest b ht hu hc rfl
  have hroom : s.lane.responses.length < 8 := ht.2.2.2.2
  rw [State.exec_setService ht hu hc]
  refine ⟨fun hb h => ?_, fun hb hd hcal => ?_, fun hb hd => ?_, fun hb hd => ?_, fun h0 h1 => ?_⟩
  · rw [judgeSetService_on hb, judgeServiceOn, if_pos (by exact h)]
    exact congrArg Host.Outcome.next (State.respond_of_room (by exact hroom) _ _ _)
  · rw [judgeSetService_on hb, judgeServiceOn, if_neg (by simp [hd, hcal])]
    exact congrArg Host.Outcome.next (State.respond_refusal ht rfl)
  · rw [judgeSetService_off hb, judgeServiceOff, if_neg (by simp [hd])]
    refine congrArg Host.Outcome.next ((State.respond_of_room (by exact hroom) _ _ _).trans ?_)
    rw [State.left_device, hd]
    rfl
  · have hj : JobsOnly { s.left rest with device := .maintenance } (s.left rest).enterMaintenance :=
      State.scrubTest_jobsOnly _
    have hoff : judgeSetService q (s.left rest) = (s.left rest).enterMaintenance.answered q .ok [1#8] := by
      rw [judgeSetService_off hb, judgeServiceOff, if_pos (by exact hd)]
      rw [State.respond_of_room (by rw [hj.lane]; exact hroom), hj.device]
      rfl
    rw [hoff]
    exact ⟨_, rfl, (hj.answered q .ok [1#8]).jobsApart none, (State.scrubTest_tested _).answered q .ok [1#8]⟩
  · rw [judgeSetService, if_neg h0, if_neg h1]
    exact congrArg Host.Outcome.next (State.respond_refusal ht rfl)

end Sys2Proof.Machine
end

section
/-! PROOF. HOLD entry (R87, R92, R178, R179). -/

namespace Sys2Proof.Machine

variable {s : State} {q : Request} {rest : List Request} {n : SlotNo}

/-! ### The key store at HOLD entry (R87, R92, R104) -/

theorem Slot.atHold_eq_empty {x : Slot}
    (h : x.erasePending = true ∨ (n ≠ 0 ∧ (x.retain = false ∨ x.state = .partLoaded))) :
    x.atHold n = Slot.empty := by
  unfold Slot.atHold
  rcases h with h | ⟨hn, h⟩
  · rw [if_pos h]
  · split
    · rfl
    · rw [if_neg]
      rcases h with h | h <;> simp [h]

theorem Slot.atHold_eq_self {x : Slot} (he : x.erasePending = false)
    (h : n = 0 ∨ (x.retain = true ∧ x.state ≠ .partLoaded)) :
    x.atHold n = x := by
  unfold Slot.atHold
  rw [if_neg (by simp [he])]
  rcases h with h | ⟨hr, hp⟩
  · rw [if_pos h]
  · split
    · rfl
    · rw [if_pos (by simp [hr, hp])]

theorem KeyStore.atHold_outstanding (k : KeyStore) : k.atHold.outstanding = none := by
  unfold KeyStore.atHold
  dsimp only

theorem KeyStore.atHold_writeGen (k : KeyStore) : k.atHold.writeGen = keptWriteGen k.atHold.slots k.writeGen := by
  unfold KeyStore.atHold
  dsimp only

/-- The write generation is kept exactly when some RECORD slot of it is ACTIVE (R87, R92). -/
theorem keptWriteGen_iff (slots : Vector Slot 128) (w : Option Generation) (g : Generation) :
    keptWriteGen slots w = some g ↔ w = some g ∧ ∃ n, (tableGet slots n).role = some .record ∧
      (tableGet slots n).generation = g ∧ (tableGet slots n).isActive = true := by
  refine ⟨keptWriteGen_eq_some, fun ⟨hw, n, hr, hg, ha⟩ => ?_⟩
  refine Option.filter_eq_some_iff.mpr ⟨hw, List.any_eq_true.mpr ⟨n, List.mem_finRange n, ?_⟩⟩
  simp [hr, hg, ha]

/-- A slot that has become EMPTY is seen. -/
theorem someEmptied_of {before after : Vector Slot 128} (hb : (tableGet before n).state ≠ .empty)
    (ha : (tableGet after n).state = .empty) : someEmptied before after = true :=
  List.any_eq_true.mpr ⟨n, List.mem_finRange n, by simp [hb, ha]⟩

theorem KeyStore.atHold_keyChange (k : KeyStore) (h : someEmptied k.slots k.atHold.slots = true) :
    k.atHold.keyChange = true := by
  have hk : k.atHold.keyChange =
      (k.keyChange || someEmptied k.slots k.atHold.slots || k.atHold.writeGen != k.writeGen) := by
    unfold KeyStore.atHold
    dsimp only
  simp [hk, h]

/-! ### The entries (R178) -/

/-- The part after HOLD entry, with what its response queue and its lines are then. -/
def State.inHold (s : State) (responses : List Answer) (lines : Lines) : State :=
  { s.enterHold with lane := { LanePort.cleared with responses }, lines }

theorem exec_supplyFail_inHold (hl : s.lines.supplyFail = false) (hd : s.device ≠ .hold) :
    exec .supplyFail s = .next (s.inHold [] { s.lines with supplyFail := true }) := by
  refine congrArg Host.Outcome.next ?_
  rw [State.assertSupplyFail, if_neg (by simp [hl])]
  exact if_neg hd

/-- Every context is either FREE or in use. -/
theorem State.used_contexts (s : State) :
    32 - s.freeContexts = allContexts.countP fun c => (s.context c).isSome := by
  have h : allContexts.length = 32 := List.length_finRange
  have hsum := allContexts.length_eq_countP_add_countP fun c => (s.context c).isNone
  have hsome : (allContexts.countP fun c => ¬(s.context c).isNone = true) =
      allContexts.countP fun c => (s.context c).isSome :=
    List.countP_congr fun c _ => by cases s.context c <;> simp
  unfold State.freeContexts
  omega

theorem exec_hold_inHold (hu : s.unhindered) (ht : s.takes q rest) (hc : q.code = 0x09#8) :
    exec .hold s = .next (s.inHold [.response { tag := q.tag, code := q.code, status := .ok
                                                attention := s.events.flags != 0
                                                keyChange := s.enterHold.keys.keyChange
                                                data := [BitVec.ofNat 8
                                                  (allContexts.countP fun c => (s.context c).isSome)] }] s.lines) := by
  refine congrArg Host.Outcome.next ?_
  rw [State.takeRequest_of_takes ht hc hu.1 hu.2, judgeHold,
    State.respond_of_room (s := (s.left rest).enterHold) (by exact Nat.zero_lt_succ 7),
    show (s.left rest).freeContexts = s.freeContexts from rfl, s.used_contexts]
  rfl

/-- Both commands enter HOLD, and differ in the response queue and the lines alone (R178). -/
theorem exec_inHold {i : Instr} (h : (i = .supplyFail ∧ s.lines.supplyFail = false ∧ s.device ≠ .hold) ∨
      (i = .hold ∧ s.unhindered ∧ ∃ q rest, s.takes q rest ∧ q.code = 0x09#8)) :
    ∃ responses lines, exec i s = .next (s.inHold responses lines) ∧
      (i = .supplyFail → responses = [] ∧ lines = { s.lines with supplyFail := true }) ∧
      (∀ q rest, i = .hold → s.lane.requests = q :: rest → lines = s.lines ∧ responses =
        [.response { tag := q.tag, code := q.code, status := .ok, attention := s.events.flags != 0
                     keyChange := s.enterHold.keys.keyChange
                     data := [BitVec.ofNat 8 (allContexts.countP fun c => (s.context c).isSome)] }]) := by
  rcases h with ⟨rfl, hl, hd⟩ | ⟨rfl, hu, q, rest, ht, hc⟩
  · exact ⟨_, _, exec_supplyFail_inHold hl hd, fun _ => ⟨rfl, rfl⟩, nofun⟩
  · refine ⟨_, _, exec_hold_inHold hu ht hc, nofun, fun q' rest' _ hq => ?_⟩
    cases ht.2.2.2.1.symm.trans hq
    exact ⟨rfl, rfl⟩

/-- Settles O54: the two commands by `exec_inHold`, the slots by what HOLD entry does to each. -/
theorem holdEntry : Obligations.HoldEntry := by
  refine ⟨fun s hd hl => congrArg Host.Outcome.next ?_, fun i s h => ?_⟩
  · rw [State.assertSupplyFail, if_neg (by simp [hl])]
    exact if_pos hd
  · obtain ⟨responses, lines, hexec, hfail, hhold⟩ := exec_inHold h
    have hslot : ∀ n, (s.inHold responses lines).slot n = (s.slot n).atHold n := s.enterHold_slot
    refine ⟨_, hexec, rfl, fun c => tableGet_replicate _ c, rfl, rfl, rfl, rfl, rfl, rfl, rfl, rfl,
      KeyStore.atHold_outstanding _, KeyStore.atHold_initCheck _, fun n hn => (hslot n).trans (Slot.atHold_eq_empty hn),
      fun n he hn => (hslot n).trans (Slot.atHold_eq_self he hn), fun g => ?_, fun ⟨n, hn, he⟩ => ?_,
      KeyStore.atHold_rootLock _, rfl, rfl, rfl, rfl, hfail, hhold⟩
    · refine Iff.trans (Iff.of_eq ?_) (keptWriteGen_iff _ _ g)
      exact congrArg (· = some g) (KeyStore.atHold_writeGen _)
    · exact KeyStore.atHold_keyChange _ (someEmptied_of hn he)

end Sys2Proof.Machine
end

section
/-! PROOF. HOLD exit, the lane reset and its end: how INIT is entered (R83, R103, R176, R181, R182). -/

namespace Sys2Proof.Machine

variable {s : State} {n : SlotNo}

/-! ### The INIT check begins (R103, R176) -/

/-- The first check of the list is issued, or the check is complete: only the device state, the outstanding scrub and
the work on its job change. -/
theorem State.continueInitCheck_frame (h : s.keys.initCheck = [] → ∀ n, (s.slot n).holdsMaterial = false) :
    s.continueInitCheck = { s with
      device := s.continueInitCheck.device
      cipher := s.continueInitCheck.cipher
      keys := { s.keys with outstanding := s.continueInitCheck.keys.outstanding } } := by
  unfold State.continueInitCheck
  split
  · rename_i hl
    rw [State.enterMaintenance, State.scrubTest_of_no_material (s := { s with device := .maintenance }) (h hl)]
  · rw [State.issueScrub_frame]

/-- With no slot to check the part is in MAINTENANCE. -/
theorem State.continueInitCheck_nil (hl : s.keys.initCheck = []) (h : ∀ n, (s.slot n).holdsMaterial = false) :
    s.continueInitCheck = { s with device := .maintenance } := by
  unfold State.continueInitCheck
  rw [hl]
  exact State.scrubTest_of_no_material h

/-- The scrub of the head of the list is outstanding. -/
theorem State.continueInitCheck_cons {l : List SlotNo} (hl : s.keys.initCheck = n :: l) :
    s.continueInitCheck.device = s.device ∧
      ∃ r, s.continueInitCheck.keys.outstanding = some { slot := n, forced := true, running := r } := by
  have hc : s.continueInitCheck = s.issueScrub n true := by
    unfold State.continueInitCheck
    rw [hl]
  rw [hc]
  exact ⟨by rw [State.issueScrub_frame], s.issueScrub_outstanding n true⟩

/-- The slots that INIT checks. -/
def State.checkList (s : State) : List SlotNo :=
  allSlots.filter fun n => (s.slot n).holdsMaterial

theorem State.checkList_eq_nil : s.checkList = [] ↔ ∀ n, (s.slot n).holdsMaterial = false := by
  simp [State.checkList, List.filter_eq_nil_iff, allSlots]

/-- The lowest slot holding material is checked first. -/
theorem State.checkList_of_lowest (hn : (s.slot n).holdsMaterial = true)
    (hlow : ∀ m, m < n → (s.slot m).holdsMaterial = false) :
    ∃ l, s.checkList = n :: l := by
  have hmem : n ∈ s.checkList := List.mem_filter.mpr ⟨List.mem_finRange n, hn⟩
  have hsorted : s.checkList.Pairwise (· < ·) := (List.pairwise_lt_finRange 128).filter _
  cases hl : s.checkList with
  | nil => rw [hl] at hmem; cases hmem
  | cons m l =>
    have hm : (s.slot m).holdsMaterial = true := (List.mem_filter.mp (hl ▸ List.mem_cons_self : m ∈ s.checkList)).2
    rw [hl] at hmem hsorted
    rcases List.mem_cons.mp hmem with rfl | htail
    · exact ⟨l, rfl⟩
    · rw [hlow m (List.rel_of_pairwise_cons hsorted htail)] at hm
      cases hm

/-- The part as INIT entry leaves it, before any ZEROISE latched in held reset is taken. -/
def State.initEntered (s : State) : State :=
  s.initBegun.continueInitCheck

theorem State.initEntered_frame (s : State) : s.initEntered = { s with
    device := s.initEntered.device
    lines := { s.lines with zeroiseLatched := 0 }
    cipher := s.initEntered.cipher
    keys := { s.keys with initCheck := s.checkList, outstanding := s.initEntered.keys.outstanding } } :=
  State.continueInitCheck_frame (s := s.initBegun) s.checkList_eq_nil.mp

theorem State.initEntered_nil (h : ∀ n, (s.slot n).holdsMaterial = false) :
    s.initEntered.device = .maintenance ∧ s.initEntered.keys.outstanding = none := by
  have hc : s.initEntered = { s.initBegun with device := .maintenance } :=
    State.continueInitCheck_nil (s.checkList_eq_nil.mpr h) h
  rw [hc]
  exact ⟨rfl, rfl⟩

theorem State.initEntered_cons {l : List SlotNo} (h : s.checkList = n :: l) : s.initEntered.device = .init ∧
    ∃ r, s.initEntered.keys.outstanding = some { slot := n, forced := true, running := r } :=
  State.continueInitCheck_cons (s := s.initBegun) h

theorem State.enterInit_of_not_latched (h : s.lines.zeroiseLatched = 0) : s.enterInit = s.initEntered := by
  rw [State.enterInit_eq, h]
  rfl

/-! ### HOLD exit (R181) -/

/-- The line change that completes the pair leaves HOLD. -/
theorem exec_exitHold {i : Instr} (hd : s.device = .hold)
    (h : (i = .wake ∧ s.lines.wake = false ∧ s.lines.supplyFail = false) ∨
      (i = .supplyFailDeasserted ∧ s.lines.supplyFail = true ∧ s.lines.wake = true)) :
    exec i s = .next { s with lines := { s.lines with wake := true, supplyFail := false } }.exitHold := by
  rcases h with ⟨rfl, hw, hf⟩ | ⟨rfl, hf, hw⟩
  · refine congrArg Host.Outcome.next ?_
    rw [State.assertWake, if_neg (by simp [hw]), State.leaveHold, if_pos ⟨hd, rfl, hf⟩, State.setLines, ← hf]
  · refine congrArg Host.Outcome.next ?_
    rw [State.deassertSupplyFail, if_pos hf, State.leaveHold, if_pos ⟨hd, hw, rfl⟩, State.setLines, ← hw]

/-- The part at its HOLD exit, before INIT is entered (R181). -/
def State.outOfHold (s : State) : State :=
  { s with
    device := .init
    clock := { s.clock with laneTime := 0 }
    profile := LaneProfile.defaults
    air := AirPort.cleared
    keys := { s.keys with scrubPointer := 0 }
    lane := { LanePort.cleared with tx := if s.lines.reset then none else s.lane.tx }
    events := Events.cleared }

theorem State.exitHold_to_init (hr : s.lines.reset = false) (hz : s.lines.zeroiseLatched = 0) :
    s.exitHold = s.outOfHold.initEntered :=
  (if_neg (by simp [hr])).trans (State.enterInit_of_not_latched hz)

theorem State.exitHold_to_reset (hr : s.lines.reset = true) : s.exitHold = s.outOfHold :=
  if_pos hr

/-- Settles O55: with RESET deasserted by INIT entry, with RESET asserted by what the exit itself leaves. -/
theorem holdExit : Obligations.HoldExit := by
  intro i s hd h
  rw [exec_exitHold hd h]
  refine ⟨fun hr hz => ⟨_, rfl, ?_⟩, fun hr => ⟨_, rfl, ?_⟩⟩
  · rw [State.exitHold_to_init (by exact hr) (by exact hz)]
    have hframe := State.initEntered_frame
      (State.outOfHold { s with lines := { s.lines with wake := true, supplyFail := false } })
    refine ⟨by rw [hframe]; rfl, by rw [hframe]; rfl, by rw [hframe]; rfl, by rw [hframe]; rfl, by rw [hframe]; rfl,
      by rw [hframe]; rfl, by rw [hframe]; rfl, ?_, by rw [hframe]; rfl, by rw [hframe]; rfl, by rw [hframe]; rfl,
      by rw [hframe]; rfl, by rw [hframe]; rfl, ?_, by rw [hframe]; rfl, by rw [hframe]; rfl, by rw [hframe]; rfl,
      by rw [hframe]; rfl, fun hno => State.initEntered_nil hno, fun n hn hlow => ?_⟩
    · rw [hframe]
      exact if_neg (by simp [hr])
    · rw [hframe, ← hz]
      rfl
    · obtain ⟨l, hl⟩ := State.checkList_of_lowest hn hlow
      exact State.initEntered_cons hl
  · rw [State.exitHold_to_reset (by exact hr)]
    refine ⟨by simp [State.heldInReset, State.outOfHold, hr], by simp [State.live, State.outOfHold, hr], ?_⟩
    unfold State.outOfHold
    dsimp only
    rw [if_pos hr]
    rfl

/-! ### The lane reset (R83, R182) -/

theorem State.exec_laneReset (hd : s.device ≠ .hold) (hr : s.lines.reset = false) :
    exec .laneReset s = .next { s with lines := { s.lines with reset := true } }.resetLane := by
  refine congrArg Host.Outcome.next ?_
  rw [State.assertReset, if_neg (by simp [hr])]
  exact if_neg hd

theorem KeyStore.atLaneReset_outstanding (k : KeyStore) : k.atLaneReset.outstanding = none := by
  unfold KeyStore.atLaneReset
  dsimp only

theorem KeyStore.atLaneReset_scrubPointer (k : KeyStore) : k.atLaneReset.scrubPointer = 0 := by
  unfold KeyStore.atLaneReset
  dsimp only

theorem KeyStore.atLaneReset_keyChange (k : KeyStore) (h : someEmptied k.slots k.atLaneReset.slots = true) :
    k.atLaneReset.keyChange = true := by
  have hk : k.atLaneReset.keyChange = (k.keyChange || someEmptied k.slots k.atLaneReset.slots) := by
    unfold KeyStore.atLaneReset
    dsimp only
  simp [hk, h]

theorem Slot.atLaneReset_eq_self {x : Slot} (hp : x.state ≠ .partLoaded) (he : x.erasePending = false) :
    x.atLaneReset = x :=
  if_neg (by simp [hp, he])

/-! ### Its end, and a ZEROISE latched under it (R182) -/

/-- The part at the end of held reset, before INIT is entered (R182). -/
def State.outOfReset (s : State) : State :=
  { s with
    clock := { s.clock with laneTime := 0 }
    lines := { s.lines with reset := false }
    events := Events.cleared }

theorem State.exec_resetDeasserted (hd : s.device ≠ .hold) (hr : s.lines.reset = true) :
    exec .resetDeasserted s = .next s.outOfReset.enterInit := by
  refine congrArg Host.Outcome.next ?_
  rw [State.deassertReset, if_pos hr]
  exact if_neg hd

theorem State.wipes_clock (k : Nat) (s : State) : (s.wipes k).clock = s.clock ∧ (s.wipes k).lines = s.lines := by
  induction k generalizing s with
  | zero => exact ⟨rfl, rfl⟩
  | succ k ih =>
    obtain ⟨hc, hl⟩ := ih s.wipe
    rw [s.wipe_eq_wipedWith] at hc hl
    rw [State.wipes, s.wipe_eq_wipedWith]
    exact ⟨hc, hl⟩

/-- Wipes outside HOLD end with one. -/
theorem State.wipes_ends (k : Nat) (hd : s.device ≠ .hold) :
    ∃ u : State, u.device ≠ .hold ∧ s.wipes (k + 1) = u.wipe := by
  induction k generalizing s with
  | zero => exact ⟨s, hd, rfl⟩
  | succ k ih =>
    refine ih (s := s.wipe) ?_
    rw [s.wipe_eq_wipedWith]
    exact (if_neg hd).trans_ne (by decide)

theorem State.wipe_leaves (hd : s.device ≠ .hold) : s.wipe.device = .maintenance ∧ (∀ n, s.wipe.slot n = Slot.empty) ∧
    s.wipe.keys.keyChange = true ∧ s.wipe.events.flag Event.zeroised.number = true := by
  refine ⟨?_, s.wipe_slot, ?_, ?_⟩
  · rw [s.wipe_eq_wipedWith]
    exact if_neg hd
  · rw [s.wipe_eq_wipedWith]
    rfl
  · rw [s.wipe_eq_wipedWith]
    exact (Events.flag_record _ _ _).trans (by simp)

/-- INIT entry is no HOLD entry. -/
theorem State.initEntered_device_ne_hold (s : State) : s.initEntered.device ≠ .hold := by
  cases hl : s.checkList with
  | nil => rw [(State.initEntered_nil (s.checkList_eq_nil.mp hl)).1]; decide
  | cons n l => rw [(State.initEntered_cons hl).1]; decide

/-- Settles O57: the reset by what it does to each slot, its end by INIT entry and the wipes that it takes. -/
theorem laneResetRule : Obligations.LaneResetRule := by
  intro s hd
  refine ⟨fun hr => ?_, fun hr => ⟨congrArg Host.Outcome.next (if_pos (by simp [State.heldInReset, hr, hd])), ?_⟩⟩
  · have hslot : ∀ n, (State.resetLane { s with lines := { s.lines with reset := true } }).slot n =
        (s.slot n).atLaneReset := State.resetLane_slot _
    refine ⟨_, State.exec_laneReset hd hr, by simp [State.live, State.resetLane], rfl,
      fun c => tableGet_replicate _ c, rfl, rfl, rfl, rfl, rfl, rfl, rfl, rfl, rfl,
      fun n hn => (hslot n).trans (if_pos hn), fun n hp he => (hslot n).trans (Slot.atLaneReset_eq_self hp he),
      fun ⟨n, hn⟩ => ?_, KeyStore.atLaneReset_outstanding _,
      KeyStore.atLaneReset_initCheck _, KeyStore.atLaneReset_scrubPointer _, KeyStore.atLaneReset_rootLock _,
      KeyStore.atLaneReset_writeGen _⟩
    refine KeyStore.atLaneReset_keyChange _ (someEmptied_of (n := n) ?_ ?_)
    · exact hn.trans_ne (by decide)
    · exact congrArg Slot.state ((hslot n).trans (if_pos (.inl hn)))
  · rw [State.exec_resetDeasserted hd hr, State.enterInit_eq]
    have hframe := s.outOfReset.initEntered_frame
    refine ⟨_, rfl, (State.wipes_clock _ _).1.trans (congrArg State.clock hframe),
      (State.wipes_clock _ _).2.trans (congrArg State.lines hframe), fun hz => ?_, fun hz => ?_⟩
    · rw [show s.outOfReset.lines.zeroiseLatched = 0 from hz]
      refine ⟨?_, congrArg (fun t => t.keys.initCheck) hframe,
        fun hno => (State.initEntered_nil (s := s.outOfReset) hno).1,
        fun n l hl => State.initEntered_cons (s := s.outOfReset)
          ((congrArg (fun t => t.keys.initCheck) hframe).symm.trans hl)⟩
      show s.outOfReset.initEntered = _
      conv_lhs => rw [hframe]
      show _ = { s.outOfReset with
        device := s.outOfReset.initEntered.device
        lines := s.outOfReset.initEntered.lines
        clock := s.outOfReset.initEntered.clock
        cipher := s.outOfReset.initEntered.cipher
        keys := { s.keys with
          initCheck := s.outOfReset.initEntered.keys.initCheck
          outstanding := s.outOfReset.initEntered.keys.outstanding } }
      rw [congrArg State.lines hframe, congrArg State.clock hframe, congrArg (fun t => t.keys.initCheck) hframe]
      rfl
    · obtain ⟨k, hk⟩ := Nat.exists_eq_succ_of_ne_zero hz.ne'
      rw [show s.outOfReset.lines.zeroiseLatched = k + 1 from hk]
      obtain ⟨u, hu, he⟩ := State.wipes_ends (s := s.outOfReset.initEntered) k (State.initEntered_device_ne_hold _)
      rw [show s.outOfReset.initBegun.continueInitCheck = s.outOfReset.initEntered from rfl, he]
      exact State.wipe_leaves hu

end Sys2Proof.Machine
end

section
/-! PROOF. What the part reports of its keys does not depend on their material (R82, R120). -/

namespace Sys2Proof.Machine

variable {s : State} {v : Vector Slot 128} {judge : Request → State → State}

/-! ### The part with another table of slots -/

/-- The part with the table of slots replaced. -/
def State.withSlots (s : State) (v : Vector Slot 128) : State :=
  { s with keys := { s.keys with slots := v } }

/-- The table v stands as that of s but for the material of the slots. -/
def State.blindTo (s : State) (v : Vector Slot 128) : Prop :=
  ∀ n, { tableGet v n with material := none } = { s.slot n with material := none }

/-! ### Answers, alerts and releases use no slot (R57, R58, R164, R166) -/

theorem State.respond_withSlots (s : State) (v : Vector Slot 128) (q : Request) (st : Status) (data : List Byte) :
    (s.withSlots v).respond q st data = (s.respond q st data).withSlots v := by
  unfold State.respond State.sendResponse
  rw [apply_ite (State.withSlots · v)]
  rfl

theorem State.raise_withSlots (s : State) (v : Vector Slot 128) (a : Event) :
    (s.withSlots v).raise a = (s.raise a).withSlots v := by
  rw [State.raise_eq, State.raise_eq]
  rfl

theorem State.stall_withSlots (s : State) (v : Vector Slot 128) (c : ContextNo) :
    (s.withSlots v).stall c = (s.stall c).withSlots v := by
  refine Eq.trans ?_ (apply_ite (State.withSlots · v) _ _ _).symm
  rw [← State.raise_withSlots]
  rfl

theorem State.releaseHeads_withSlots (k : Nat) (z : ZoneNo) (s : State) (v : Vector Slot 128) :
    (s.withSlots v).releaseHeads k z = (s.releaseHeads k z).withSlots v := by
  induction k generalizing s with
  | zero => rfl
  | succ k ih =>
    unfold State.releaseHeads
    rw [show (s.withSlots v).openList z = s.openList z from rfl]
    cases s.openList z with
    | nil => rfl
    | cons c l =>
      dsimp only
      rw [show (s.withSlots v).context c = s.context c from rfl]
      cases s.context c with
      | none => rfl
      | some x =>
        dsimp only
        split
        · refine Eq.trans ?_ (apply_ite (State.withSlots · v) _ _ _).symm
          rw [← ih, ← State.stall_withSlots]
          rfl
        · rfl

theorem State.releaseStalled_withSlots (s : State) (v : Vector Slot 128) :
    (s.withSlots v).releaseStalled = s.releaseStalled.withSlots v := by
  unfold State.releaseStalled
  rw [show (s.withSlots v).passes = s.passes from rfl]
  cases s.passes.stalled with
  | nil => rfl
  | cons c l =>
    dsimp only
    rw [show State.context { s.withSlots v with passes := { s.passes with stalled := l } } c = s.context c from rfl,
      show State.context { s with passes := { s.passes with stalled := l } } c = s.context c from rfl]
    cases s.context c with
    | none => rfl
    | some x => exact State.releaseHeads_withSlots _ x.homeZone { s with passes := { s.passes with stalled := l } } v

theorem State.startLaneSend_withSlots (s : State) (v : Vector Slot 128) :
    (s.withSlots v).startLaneSend = s.startLaneSend.withSlots v := by
  unfold State.startLaneSend
  rw [show (s.withSlots v).lane = s.lane from rfl]
  cases s.lane.responses with
  | cons a rest =>
    dsimp only
    unfold State.enterHeld
    rw [show State.mgmt { s.withSlots v with lane := { s.lane with responses := rest, tx := some a.wire } } = s.mgmt
        from rfl,
      show State.mgmt { s with lane := { s.lane with responses := rest, tx := some a.wire } } = s.mgmt from rfl]
    cases s.mgmt.held <;> rfl
  | nil =>
    cases s.lane.reports with
    | nil => rfl
    | cons r rest =>
      exact State.releaseStalled_withSlots { s with lane := { s.lane with reports := rest, tx := some r.wire } } v

theorem State.laneSend_withSlots (s : State) (v : Vector Slot 128) :
    (if (s.withSlots v).canSendLane then (s.withSlots v).startLaneSend else s.withSlots v) =
      (if s.canSendLane then s.startLaneSend else s).withSlots v := by
  rw [State.startLaneSend_withSlots, apply_ite (State.withSlots · v)]
  rfl

/-! ### Requests (R107, R165) -/

/-- A judgement that answers the same whatever the material is. -/
def Blind (judge : Request → State → State) : Prop :=
  ∀ q s v, s.blindTo v → (judge q (s.withSlots v)).lane = (judge q s).lane

/-- The first part discarded tells its slot's number alone (R106). -/
theorem State.discardTwoPart_withSlots (s : State) (v : Vector Slot 128) :
    ∃ w, (s.withSlots v).discardTwoPart = s.discardTwoPart.withSlots w := by
  unfold State.discardTwoPart
  rw [show (s.withSlots v).mgmt = s.mgmt from rfl]
  cases s.mgmt.twoPart with
  | idle => exact ⟨v, rfl⟩
  | root b => exact ⟨v, rfl⟩
  | load f => exact ⟨tableSet v f.slot Slot.empty, rfl⟩

theorem Blind.underOrder (h : Blind judge) : Blind (underOrder judge) := by
  intro q s v hv
  unfold Machine.underOrder
  rw [show (s.withSlots v).mgmt = s.mgmt from rfl]
  split
  · exact h q s v hv
  · obtain ⟨w, hw⟩ := s.discardTwoPart_withSlots v
    rw [hw, State.respond_withSlots]
    rfl

theorem Blind.outsideInit (h : Blind judge) : Blind (outsideInit judge) := by
  intro q s v hv
  unfold Machine.outsideInit
  rw [show (s.withSlots v).device = s.device from rfl]
  split
  · rw [State.respond_withSlots]
    rfl
  · exact h q s v hv

theorem Blind.take (h : Blind judge) (fits : Byte → Bool) (hv : s.blindTo v) :
    ((s.withSlots v).take fits judge).lane = (s.take fits judge).lane := by
  unfold State.take
  rw [show (s.withSlots v).takeable fits = s.takeable fits from rfl]
  cases s.takeable fits with
  | none => rfl
  | some q => exact h q s.popRequest v hv

/-! ### What each request reports (R120, R170, R172) -/

theorem State.blindTo.slot (hv : s.blindTo v) (n : SlotNo) :
    ∃ m, (s.withSlots v).slot n = { s.slot n with material := m } := by
  refine ⟨(tableGet v n).material, ?_⟩
  show { { tableGet v n with material := none } with material := (tableGet v n).material } = _
  rw [hv n]

theorem State.statusData_withSlots (hv : s.blindTo v) : (s.withSlots v).statusData = s.statusData := by
  obtain ⟨m, hm⟩ := hv.slot 0
  unfold State.statusData
  rw [hm]
  rfl

theorem State.slotData_withSlots (hv : s.blindTo v) (n : SlotNo) : (s.withSlots v).slotData n = s.slotData n := by
  obtain ⟨m, hm⟩ := hv.slot n
  unfold State.slotData
  rw [hm]
  rfl

theorem blind_readStatus : Blind judgeReadStatus := by
  intro q s v hv
  unfold judgeReadStatus
  rw [State.statusData_withSlots hv, State.respond_withSlots]
  rfl

theorem blind_readCounters : Blind judgeReadCounters := by
  intro q s v _
  unfold judgeReadCounters
  rw [State.respond_withSlots]
  rfl

theorem blind_readSlot : Blind judgeReadSlot := by
  intro q s v hv
  unfold judgeReadSlot
  cases slotOf (byteAt q.params 0) with
  | none =>
    dsimp only
    rw [State.respond_withSlots]
    rfl
  | some n =>
    dsimp only
    rw [State.slotData_withSlots hv, State.respond_withSlots]
    rfl

/-- Settles O52: the requests because their judgements are blind, the lane send because it uses no slot. -/
theorem reportsHideMaterial : Obligations.ReportsHideMaterial := by
  rintro i s t s' t' hi ⟨v, rfl, hv⟩ ht ht'
  simp only [List.mem_cons, List.not_mem_nil, or_false] at hi
  rcases hi with rfl | rfl | rfl | rfl
  · cases ht; cases ht'
    exact blind_readStatus.underOrder.take _ hv
  · cases ht; cases ht'
    exact blind_readCounters.outsideInit.underOrder.take _ hv
  · cases ht; cases ht'
    exact blind_readSlot.outsideInit.underOrder.take _ hv
  · cases ht; cases ht'
    exact (congrArg State.lane (s.laneSend_withSlots v) :)

end Sys2Proof.Machine
end

section
/-! PROOF. The calendar advance and SET-CALENDAR: what a walk tells the rest of the part (R84 to R86, R91, R94, R138,
R185, R186). -/

namespace Sys2Proof.Machine

variable {s t u : State} {n : SlotNo} {m : Minute} {x : SlotNo → Slot} {E E' : SlotNo → Prop}

/-! ### What an engine is told of the expiry of its key (R138) -/

/-- An engine whose key has expired. -/
def Engine.expired (y : Engine) : Engine :=
  if y.isIdle then Engine.closed else { y with closeAtEnd := true }

theorem Engine.expired_expired (y : Engine) : y.expired.expired = y.expired := by
  unfold Engine.expired
  split
  · rfl
  · rename_i h
    exact if_neg h

theorem Engine.atExpiry_of_key {y : Engine} (h : y.key? = some (.slot n)) : y.atExpiry n = y.expired := by
  obtain ⟨st, cl, lo⟩ := y
  unfold Engine.key? at h
  unfold Engine.atExpiry Engine.expired Engine.isIdle
  cases st with
  | closedIdle => cases h
  | openIdle k r =>
    cases h
    exact if_pos rfl
  | opening r j => exact if_pos (Option.some.inj h)
  | busy r j => exact if_pos (Option.some.inj h)

theorem Engine.atExpiry_of_other {y : Engine} (h : y.key? ≠ some (.slot n)) : y.atExpiry n = y := by
  obtain ⟨st, cl, lo⟩ := y
  unfold Engine.key? at h
  unfold Engine.atExpiry
  cases st with
  | closedIdle => rfl
  | openIdle k r => exact if_neg fun hk => h (congrArg some hk)
  | opening r j => exact if_neg fun hk => h (congrArg some hk)
  | busy r j => exact if_neg fun hk => h (congrArg some hk)

/-! ### The write generation of a withdrawn slot (R91) -/

theorem State.clearWriteGenOf_writeGen_iff (s : State) (y : Slot) (g : Generation) :
    (s.clearWriteGenOf y).keys.writeGen = some g ↔
      s.keys.writeGen = some g ∧ (y.role = some .record → y.generation ≠ g) := by
  by_cases h : y.role = some .record ∧ s.keys.writeGen = some y.generation
  · have hnone : (s.clearWriteGenOf y).keys.writeGen = none := by
      rw [State.clearWriteGenOf, if_pos h, State.setWriteGen, if_neg (by rw [h.2]; nofun)]
    rw [hnone, h.2]
    exact ⟨nofun, fun ⟨hg, hne⟩ => absurd (Option.some.inj hg) (hne h.1)⟩
  · rw [State.clearWriteGenOf, if_neg h]
    exact (and_iff_left_of_imp fun hs hr (hg : y.generation = g) => h ⟨hr, hg ▸ hs⟩).symm

theorem State.clearWriteGenOf_cache (s : State) (y : Slot) : (s.clearWriteGenOf y).cache = s.cache := by
  unfold State.clearWriteGenOf State.setWriteGen
  (repeat' split) <;> rfl

/-! ### What the withdrawals by expiry of some slots tell (R91, R94, R138) -/

/-- From s to t the slots E, which stood as x, have been withdrawn by expiry, so far as the write generation, the cache
and the engines are told. -/
structure Told (x : SlotNo → Slot) (E : SlotNo → Prop) (s t : State) : Prop where
  writeGen : ∀ g, t.keys.writeGen = some g ↔
    s.keys.writeGen = some g ∧ ∀ n, E n → (x n).role = some .record → (x n).generation ≠ g
  sublist : t.cache.Sublist s.cache
  cache : ∀ k, k ∈ t.cache ↔ k ∈ s.cache ∧
    ∀ n, E n → (x n).role = some .tagMaster → ¬(k.issuer = (x n).issuer ∧ k.generation = (x n).generation)
  cipher : t.cipher = { s.cipher with engines := t.cipher.engines }
  hit : ∀ e n, E n → (s.engine e).key? = some (.slot n) → t.engine e = (s.engine e).expired
  kept : ∀ e, (∀ n, E n → (s.engine e).key? ≠ some (.slot n)) → t.engine e = s.engine e

namespace Told

/-- Nobody is told anything. -/
theorem none (hw : t.keys.writeGen = s.keys.writeGen) (hc : t.cache = s.cache) (hq : t.cipher = s.cipher)
    (hE : ∀ n, ¬E n) : Told x E s t where
  writeGen g := by rw [hw]; exact ⟨fun h => ⟨h, fun n hn => absurd hn (hE n)⟩, And.left⟩
  sublist := by rw [hc]
  cache k := by rw [hc]; exact ⟨fun h => ⟨h, fun n hn => absurd hn (hE n)⟩, And.left⟩
  cipher := by rw [hq]
  hit _ n hn := absurd hn (hE n)
  kept e _ := congrArg (fun c : Cipher => tableGet c.engines e) hq

/-- One withdrawal, or several, after others. -/
theorem trans (h : Told x E s t) (k : Told x E' t u) : Told x (fun n => E n ∨ E' n) s u where
  writeGen g := by
    rw [k.writeGen, h.writeGen]
    exact ⟨fun ⟨⟨hs, he⟩, hk⟩ => ⟨hs, fun n hn => hn.elim (he n) (hk n)⟩,
      fun ⟨hs, he⟩ => ⟨⟨hs, fun n hn => he n (.inl hn)⟩, fun n hn => he n (.inr hn)⟩⟩
  sublist := k.sublist.trans h.sublist
  cache y := by
    rw [k.cache, h.cache]
    exact ⟨fun ⟨⟨hs, he⟩, hk⟩ => ⟨hs, fun n hn => hn.elim (he n) (hk n)⟩,
      fun ⟨hs, he⟩ => ⟨⟨hs, fun n hn => he n (.inl hn)⟩, fun n hn => he n (.inr hn)⟩⟩
  cipher := by rw [k.cipher, h.cipher]
  hit e n hn hkey := by
    by_cases hE : ∃ n', E n' ∧ (s.engine e).key? = some (.slot n')
    · obtain ⟨n', hn', hkey'⟩ := hE
      have ht := h.hit e n' hn' hkey'
      by_cases hE' : ∃ n'', E' n'' ∧ (t.engine e).key? = some (.slot n'')
      · obtain ⟨n'', hn'', hkey''⟩ := hE'
        rw [k.hit e n'' hn'' hkey'', ht, Engine.expired_expired]
      · rw [k.kept e fun n'' hn'' hk'' => hE' ⟨n'', hn'', hk''⟩, ht]
    · have ht := h.kept e fun n' hn' hk' => hE ⟨n', hn', hk'⟩
      rcases hn with hn | hn
      · exact absurd ⟨n, hn, hkey⟩ hE
      · rw [k.hit e n hn (ht ▸ hkey), ht]
  kept e hno := by
    have ht := h.kept e fun n hn => hno n (.inl hn)
    rw [k.kept e fun n hn => ht ▸ hno n (.inr hn), ht]

theorem mono (h : Told x E s t) (hE : ∀ n, E n ↔ E' n) : Told x E' s t := by
  rw [← show E = E' from funext fun n => propext (hE n)]
  exact h

/-- What follows touches none of these. -/
theorem after (h : Told x E s t) (hw : u.keys.writeGen = t.keys.writeGen) (hc : u.cache = t.cache)
    (hq : u.cipher = t.cipher) : Told x E s u :=
  (h.trans (none (E := fun _ => False) hw hc hq fun _ => id)).mono fun _ => or_iff_left id

/-- The withdrawal of one slot by expiry. -/
theorem withdrawExpiry (s : State) (n : SlotNo) : Told x (· = n) s (s.withdrawExpiry n (x n)) := by
  have hkeys : (s.withdrawExpiry n (x n)).keys = (s.clearWriteGenOf (x n)).keys :=
    show ((s.clearWriteGenOf (x n)).dropCacheOf (x n)).keys = _ by rw [State.dropCacheOf_eq]
  have hcache : (s.withdrawExpiry n (x n)).cache = if (x n).role = some .tagMaster then
      s.cache.filter fun y => !(y.issuer == (x n).issuer && y.generation == (x n).generation) else s.cache :=
    show ((s.clearWriteGenOf (x n)).dropCacheOf (x n)).cache = _ by rw [State.dropCacheOf_eq, s.clearWriteGenOf_cache]
  have hcipher : (s.withdrawExpiry n (x n)).cipher = (s.tellEngines (Engine.atExpiry n)).cipher := by
    show Cipher.mk _ _ _ = _
    rw [State.dropCacheOf_cipher, s.clearWriteGenOf_cipher]
    rfl
  have hengine : ∀ e, (s.withdrawExpiry n (x n)).engine e = (s.engine e).atExpiry n := fun e =>
    (congrArg (fun c : Cipher => tableGet c.engines e) hcipher).trans (State.engine_tellEngines _ _ e)
  refine ⟨fun g => ?_, ?_, fun k => ?_, ?_, fun e k hk hkey => ?_, fun e hno => ?_⟩
  · rw [hkeys, State.clearWriteGenOf_writeGen_iff]
    simp
  · rw [hcache]
    split
    · exact List.filter_sublist
    · exact List.Sublist.refl _
  · rw [hcache]
    split
    · rename_i hr
      simp [hr, -not_and, not_and_or]
    · rename_i hr
      simp [hr]
  · rw [hcipher]
    rfl
  · subst hk
    rw [hengine, Engine.atExpiry_of_key hkey]
  · rw [hengine, Engine.atExpiry_of_other (hno n rfl)]

end Told

/-- A slot is withdrawn by the walk at it exactly when the walk expires it out of ACTIVE or RETIRING (R85). -/
theorem Slot.expiresAt_iff (y : Slot) (m : Minute) : (y.expiresAt m = true ∧ y.state ≠ .staged) ↔
    ((y.state = .active ∨ y.state = .retiring) ∧ y.erasePending = false ∧ y.validUntil ≠ 0xFFFFFFFF#32 ∧
      y.validUntil ≤ m) := by
  unfold Slot.expiresAt Slot.reachedUntil
  cases y.state <;> simp

/-- The walk at one slot (R84, R85). -/
theorem State.walkSlot_told (m : Minute) (hx : s.slot n = x n) :
    Told x (fun k => k = n ∧ (x k).expiresAt m = true ∧ (x k).state ≠ .staged) s (s.walkSlot m n) := by
  unfold State.walkSlot State.expireSlot
  rw [hx]
  dsimp only
  by_cases he : (x n).expiresAt m = true
  · rw [if_pos he]
    by_cases hst : (x n).state = .staged
    · rw [if_pos hst]
      exact .none (by rw [State.raise_keys]; rfl) (by rw [State.raise_cache]; rfl) (by rw [State.raise_cipher]; rfl)
        fun _ h => h.2.2 (h.1 ▸ hst)
    · rw [if_neg hst]
      refine .after (t := (s.changeSlot n { x n with state := .expired }).withdrawExpiry n (x n)) ?_
        (by rw [State.raise_keys]) (by rw [State.raise_cache]) (by rw [State.raise_cipher])
      refine .mono (E := fun k => False ∨ k = n) (.trans (t := s.changeSlot n { x n with state := .expired })
        (.none rfl rfl rfl fun _ => id) (.withdrawExpiry _ n)) fun k => ?_
      exact ⟨fun h => by
        obtain rfl := h.resolve_left id
        exact ⟨rfl, he, hst⟩, fun h => .inr h.1⟩
  · rw [if_neg he]
    split
    · exact .none rfl rfl rfl fun _ h => he (h.1 ▸ h.2.1)
    · exact .none rfl rfl rfl fun _ h => he (h.1 ▸ h.2.1)

/-- The walk over some slots, each once, that stand as they did. -/
theorem State.walk_list_told (m : Minute) (x : SlotNo → Slot) (l : List SlotNo) (hl : l.Nodup) (s : State)
    (hx : ∀ n ∈ l, s.slot n = x n) :
    Told x (fun n => n ∈ l ∧ (x n).expiresAt m = true ∧ (x n).state ≠ .staged) s (l.foldl (State.walkSlot m) s) := by
  induction l generalizing s with
  | nil => exact .none rfl rfl rfl fun _ h => nomatch h.1
  | cons n l ih =>
    obtain ⟨hn, hl⟩ := List.nodup_cons.mp hl
    have hrest : ∀ k ∈ l, (s.walkSlot m n).slot k = x k := fun k hk => by
      rw [State.walkSlot_slot, if_neg (ne_of_mem_of_not_mem hk hn)]
      exact hx k (List.mem_cons_of_mem _ hk)
    refine ((State.walkSlot_told m (hx n List.mem_cons_self)).trans (ih hl _ hrest)).mono fun k => ?_
    constructor
    · rintro (⟨rfl, h⟩ | ⟨hk, h⟩)
      · exact ⟨List.mem_cons_self, h⟩
      · exact ⟨List.mem_cons_of_mem _ hk, h⟩
    · rintro ⟨hk, h⟩
      rcases List.mem_cons.mp hk with rfl | hk
      · exact .inl ⟨rfl, h⟩
      · exact .inr ⟨hk, h⟩

/-- The general slots, 1 to 127, in ascending order. -/
theorem mem_general {n : SlotNo} : n ∈ allSlots.drop 1 ↔ n ≠ 0 := by
  have hd : allSlots.drop 1 = (List.finRange 127).map Fin.succ := by
    unfold allSlots
    rw [List.finRange_succ]
    rfl
  rw [hd, List.mem_map]
  exact ⟨fun ⟨a, _, h⟩ => h ▸ Fin.succ_ne_zero a, fun h => ⟨n.pred h, List.mem_finRange _, Fin.succ_pred n h⟩⟩

theorem nodup_general : (allSlots.drop 1).Nodup :=
  (List.nodup_finRange 128).sublist (List.drop_sublist 1 _)

/-- The walk tells the expiries of the slots that it withdraws. -/
theorem State.walk_told (s : State) (m : Minute) : Told s.slot (s.expiresAt m) s (s.walk m) := by
  refine (State.walk_list_told m s.slot _ nodup_general s fun _ _ => rfl).mono fun n => ?_
  rw [mem_general, Slot.expiresAt_iff]
  rfl

/-- The same in the words of the claims. -/
theorem Told.expiryTold (h : Told s.slot (s.expiresAt m) s t) : s.expiryTold t m := by
  refine ⟨fun n hn hr hw => ?_, fun hno => ?_, h.sublist, h.cache, h.cipher, fun e => ⟨h.hit e, h.kept e⟩⟩
  · refine Option.eq_none_iff_forall_ne_some.mpr fun g hg => ?_
    obtain ⟨hs, hall⟩ := (h.writeGen g).mp hg
    exact hall n hn hr (Option.some.inj (hw.symm.trans hs))
  · refine Option.ext fun g => (h.writeGen g).trans (and_iff_left_of_imp fun hs n hn hr hg => ?_)
    exact hno n hn hr (hg ▸ hs)

end Sys2Proof.Machine
end

section
/-! PROOF. The calendar advance and SET-CALENDAR, concluded: what a walk notes, and the two commands (R84 to R86, R104,
R174, R185, R186). -/

namespace Sys2Proof.Machine

variable {s t u : State} {n : SlotNo} {m : Minute}

/-! ### The key-change indicator and KEY-EXPIRED at a walk (R85, R104) -/

/-- From s to t a change of a slot has set the key-change indicator, and an expiry has raised KEY-EXPIRED, which finds
room for one alert at most. -/
structure Noted (s t : State) : Prop where
  keyChange : t.keys.keyChange = true ∨ (t.keys.keyChange = s.keys.keyChange ∧ ∀ n, t.slot n = s.slot n)
  expired : t.events.flag Event.keyExpired.number = true ∨
    (t.events.flag Event.keyExpired.number = s.events.flag Event.keyExpired.number ∧
      ∀ n, (t.slot n).state = .expired → (s.slot n).state = .expired)
  alerts : t.lane.responses.length + (if t.events.flag Event.keyExpired.number then 0 else 1) ≤
    s.lane.responses.length + (if s.events.flag Event.keyExpired.number then 0 else 1)

namespace Noted

theorem refl (s : State) : Noted s s :=
  ⟨.inr ⟨rfl, fun _ => rfl⟩, .inr ⟨rfl, fun _ => id⟩, le_rfl⟩

theorem trans (h : Noted s t) (k : Noted t u) : Noted s u where
  keyChange := by
    rcases k.keyChange with hk | ⟨hk, hslot⟩
    · exact .inl hk
    · rcases h.keyChange with ht | ⟨ht, hs⟩
      · exact .inl (hk.trans ht)
      · exact .inr ⟨hk.trans ht, fun n => (hslot n).trans (hs n)⟩
  expired := by
    rcases k.expired with hk | ⟨hk, hslot⟩
    · exact .inl hk
    · rcases h.expired with ht | ⟨ht, hs⟩
      · exact .inl (hk.trans ht)
      · exact .inr ⟨hk.trans ht, fun n hn => hs n (hslot n hn)⟩
  alerts := k.alerts.trans h.alerts

/-- KEY-EXPIRED is raised. -/
theorem raise (s : State) : Noted s (s.raise .keyExpired) where
  keyChange := .inr ⟨by rw [State.raise_keys], fun n => by unfold State.slot; rw [State.raise_keys]⟩
  expired := .inl (by rw [State.raise_events, Events.flag_record]; simp)
  alerts := by
    have hflag : (s.raise .keyExpired).events.flag Event.keyExpired.number = true := by
      rw [State.raise_events, Events.flag_record]
      simp
    rw [hflag, State.raise_responses, List.length_append]
    have hlen := s.alertsOf_length_le .keyExpired
    by_cases hs : s.events.flag Event.keyExpired.number = true
    · have hnone : s.alertsOf .keyExpired = [] := if_neg (by simp [hs])
      simp [hnone, hs]
    · rw [if_neg hs] at hlen ⊢
      rw [if_pos rfl]
      omega

/-- A slot changes to a state other than EXPIRED. -/
theorem changeSlot (s : State) {x : Slot} (hx : x.state ≠ .expired) : Noted s (s.changeSlot n x) where
  keyChange := .inl rfl
  expired := .inr ⟨rfl, fun k hk => by
    rw [State.slot_changeSlot] at hk
    split at hk
    · exact absurd hk hx
    · exact hk⟩
  alerts := le_rfl

/-- A slot changes and its withdrawal is told, before KEY-EXPIRED is raised. -/
theorem raised (hk : t.keys.keyChange = true) (hl : t.lane.responses = s.lane.responses) (he : t.events = s.events) :
    Noted s (t.raise .keyExpired) where
  keyChange := .inl (by rw [State.raise_keys]; exact hk)
  expired := .inl (by rw [State.raise_events, Events.flag_record]; simp)
  alerts := by
    have h := (raise t).alerts
    rwa [hl, he] at h

end Noted

theorem State.withdrawExpiry_keyChange (h : s.keys.keyChange = true) (n : SlotNo) (x : Slot) :
    (s.withdrawExpiry n x).keys.keyChange = true := by
  show ((s.clearWriteGenOf x).dropCacheOf x).keys.keyChange = true
  rw [State.dropCacheOf_eq, State.clearWriteGenOf_eq h]
  exact h

theorem State.withdrawExpiry_lane (s : State) (n : SlotNo) (x : Slot) :
    (s.withdrawExpiry n x).lane = s.lane ∧ (s.withdrawExpiry n x).events = s.events := by
  show ((s.clearWriteGenOf x).dropCacheOf x).lane = _ ∧ ((s.clearWriteGenOf x).dropCacheOf x).events = _
  rw [State.dropCacheOf_eq]
  unfold State.clearWriteGenOf State.setWriteGen
  (repeat' split) <;> exact ⟨rfl, rfl⟩

theorem State.walkSlot_noted (m : Minute) (s : State) (n : SlotNo) : Noted s (s.walkSlot m n) := by
  unfold State.walkSlot State.expireSlot
  dsimp only
  split
  · split
    · exact .raised rfl rfl rfl
    · obtain ⟨hl, he⟩ := (s.changeSlot n { s.slot n with state := .expired }).withdrawExpiry_lane n (s.slot n)
      exact .raised (State.withdrawExpiry_keyChange (by rfl) _ _) (by rw [hl]; rfl) (by rw [he]; rfl)
  · split
    · exact .changeSlot s nofun
    · exact .refl s

theorem State.walk_noted (s : State) (m : Minute) : Noted s (s.walk m) := by
  unfold State.walk
  generalize allSlots.drop 1 = l
  induction l generalizing s with
  | nil => exact .refl s
  | cons n l ih => exact (s.walkSlot_noted m n).trans (ih _)

/-- A walk adds one response at most. -/
theorem State.walk_responses (s : State) (m : Minute) :
    (s.walk m).lane.responses.length ≤ s.lane.responses.length + 1 := by
  have h := (s.walk_noted m).alerts
  split at h <;> split at h <;> omega

/-! ### The commands (R185, R186) -/

namespace CalendarOnly

theorem clock (h : CalendarOnly s t) : t.clock = s.clock := by rw [h.rest]
theorem passes (h : CalendarOnly s t) : t.passes = s.passes := by rw [h.rest]
theorem air (h : CalendarOnly s t) : t.air = s.air := by rw [h.rest]
theorem mgmt (h : CalendarOnly s t) : t.mgmt = s.mgmt := by rw [h.rest]
theorem device (h : CalendarOnly s t) : t.device = s.device := by rw [h.rest]
theorem profile (h : CalendarOnly s t) : t.profile = s.profile := by rw [h.rest]
theorem recent (h : CalendarOnly s t) : t.recent = s.recent := by rw [h.rest]
theorem reports (h : CalendarOnly s t) : t.lane.reports = s.lane.reports := by rw [h.rest]

end CalendarOnly

theorem State.walk_slot_zero (s : State) (m : Minute) : (s.walk m).slot 0 = s.slot 0 :=
  (s.walk_slot m 0).trans (if_pos rfl)

theorem State.walk_slot_general (s : State) (m : Minute) (hn : n ≠ 0) : (s.walk m).slot n = (s.slot n).walked m :=
  (s.walk_slot m n).trans (if_neg hn)

/-- A slot that has changed has set the indicator. -/
theorem Noted.changed (h : Noted s t) (hn : t.slot n ≠ s.slot n) : t.keys.keyChange = true :=
  h.keyChange.resolve_right fun hk => hn (hk.2 n)

/-- A slot that has expired has raised KEY-EXPIRED. -/
theorem Noted.flagged (h : Noted s t) (ht : (t.slot n).state = .expired) (hs : (s.slot n).state ≠ .expired) :
    t.events.flag Event.keyExpired.number = true :=
  h.expired.resolve_right fun he => hs (he.2 n ht)

/-- An answer is all that a request that ends at once adds (R166). -/
theorem State.respond_frame (s : State) (q : Request) (st : Status) (data : List Byte) : ∃ responses held,
    s.respond q st data = { s with
      lane := { s.lane with responses }
      mgmt := { s.mgmt with held } } := by
  unfold State.respond State.sendResponse
  split
  · exact ⟨_, s.mgmt.held, rfl⟩
  · exact ⟨s.lane.responses, _, rfl⟩

/-- The part with the minute set by a request (R186). -/
def State.calendarAt (s : State) (m : Minute) : State :=
  { s with clock := { s.clock with calendarSet := true, minute := m, minuteTimer := 0, advanceDue := false } }

theorem exec_setCalendar {q : Request} {rest : List Request} (ht : s.takes q rest) (hu : s.unhindered)
    (hc : q.code = 0x08#8) (hm : m = BitVec.ofNat 32 (field q.params 0 4)) :
    exec .setCalendar s = .next ((((s.left rest).calendarAt m).walk m).respond q .ok (toBytes 4 m.toNat)) := by
  subst hm
  exact congrArg Host.Outcome.next (State.takeRequest_of_takes ht hc hu.1 hu.2 judgeSetCalendar)

/-- The part one minute later (R185). -/
def State.nextMinute (s : State) : State :=
  { s with clock := { s.clock with minute := s.clock.minute + 1, advanceDue := false } }

theorem exec_calendarAdvance (hd : s.clock.advanceDue = true) (hm : s.clock.minute ≠ 0xFFFFFFFF#32) :
    exec .calendarAdvance s = .next (s.nextMinute.walk (s.clock.minute + 1)) := by
  refine congrArg Host.Outcome.next ?_
  rw [if_pos hd]
  exact if_neg hm

/-- Settles O35, by what a walk writes, tells and notes. -/
theorem calendarWalks : Obligations.CalendarWalks := by
  intro s
  refine ⟨fun hd hm => ⟨_, exec_calendarAdvance hd hm, ?_⟩, fun hd hm => ?_, fun q rest m ht hu hc hm =>
    ⟨_, exec_setCalendar ht hu hc hm, ?_⟩⟩
  · have hframe := s.nextMinute.walk_calendarOnly (s.clock.minute + 1)
    have hnoted := s.nextMinute.walk_noted (s.clock.minute + 1)
    have htold := (s.nextMinute.walk_told (s.clock.minute + 1)).expiryTold
    refine ⟨hframe.clock, State.walk_slot_zero _ _, fun n hn => State.walk_slot_general _ _ hn,
      fun ⟨n, _, hn⟩ => hnoted.changed hn, fun ⟨n, _, hn, hs⟩ => hnoted.flagged hn hs, hframe.passes, hframe.air,
      hframe.mgmt, hframe.device, hframe.profile, hframe.recent, hframe.reports, hframe.rootLock, htold⟩
  · refine congrArg Host.Outcome.next ?_
    rw [if_pos hd]
    exact if_pos hm
  · have hframe := ((s.left rest).calendarAt m).walk_calendarOnly m
    have hnoted := ((s.left rest).calendarAt m).walk_noted m
    have htold := (((s.left rest).calendarAt m).walk_told m).expiryTold
    have hroom := ((s.left rest).calendarAt m).walk_responses m
    have hzero := ((s.left rest).calendarAt m).walk_slot_zero m
    have hslot := fun n (hn : n ≠ 0) => ((s.left rest).calendarAt m).walk_slot_general m hn
    generalize ((s.left rest).calendarAt m).walk m = w at hframe hnoted htold hroom hzero hslot ⊢
    obtain ⟨responses, held, heq⟩ := w.respond_frame q .ok (toBytes 4 m.toNat)
    have hans : s.lane.responses.length < 7 → responses.getLast? = some (.response
        (w.composeResponse q.tag q.code .ok (toBytes 4 m.toNat))) := fun hlt => by
      have hr := heq.symm.trans (State.respond_of_room (lt_of_le_of_lt hroom (by exact Nat.succ_lt_succ hlt)) _ _ _)
      rw [show responses = _ from congrArg (fun t => t.lane.responses) hr]
      exact List.getLast?_concat
    rw [heq]
    exact ⟨hframe.clock, hzero, hslot, fun ⟨n, _, hn⟩ => hnoted.changed hn, hframe.passes, hframe.air, hframe.device,
      hframe.profile, hframe.recent, hframe.reports, hframe.rootLock, htold, hans⟩

end Sys2Proof.Machine
end

section
/-! SUPPORT. What the end of a pass adds to the response queue and the events: alerts at the tail, and no SCRUB-FAULT
(R58, R102, R168, R174). -/

namespace Sys2Proof.Machine

variable {s t u : State} {c : ContextNo} {j : Job}

/-- From s to t the responses queued stay, and SCRUB-FAULT is not raised. -/
structure Aside (s t : State) : Prop where
  responses : s.lane.responses <+: t.lane.responses
  flag : t.events.flag Event.scrubFault.number = s.events.flag Event.scrubFault.number
  counter : tableGet t.events.counters Event.scrubFault.number = tableGet s.events.counters Event.scrubFault.number

namespace Aside

theorem of_eq (hl : t.lane.responses = s.lane.responses) (he : t.events = s.events) : Aside s t :=
  ⟨by rw [hl], by rw [he], by rw [he]⟩

theorem refl (s : State) : Aside s s := of_eq rfl rfl

theorem trans (h : Aside s t) (k : Aside t u) : Aside s u :=
  ⟨h.responses.trans k.responses, k.flag.trans h.flag, k.counter.trans h.counter⟩

/-- An update that leaves both, then t to u. -/
theorem after (k : Aside t u) (hl : t.lane.responses = s.lane.responses) (he : t.events = s.events) : Aside s u :=
  (of_eq hl he).trans k

theorem of_jobsOnly (h : JobsOnly s t) : Aside s t :=
  of_eq (by rw [h.lane]) h.events

/-- Another event is raised. -/
theorem raise (s : State) {v : Event} (h : Event.scrubFault.number ≠ v.number) : Aside s (s.raise v) where
  responses := by
    rw [State.raise_responses]
    exact List.prefix_append _ _
  flag := by
    rw [State.raise_events, Events.flag_record, decide_eq_false h]
    rfl
  counter := by
    rw [State.raise_events, Events.counter_record, if_neg h]

end Aside

/-! ### The end of a pass (R53, R57, R58) -/

theorem State.stall_aside (s : State) (c : ContextNo) : Aside s (s.stall c) := by
  unfold State.stall
  split
  · exact .refl s
  · exact .after (Aside.raise _ (v := .reportStall) (by decide)) rfl rfl

theorem State.releaseHeads_aside (k : Nat) (z : ZoneNo) (s : State) : Aside s (s.releaseHeads k z) := by
  induction k generalizing s with
  | zero => exact .refl s
  | succ k ih =>
    unfold State.releaseHeads
    split
    · exact .refl s
    · split
      · exact .refl s
      · split
        · split
          · exact .after (ih _) rfl rfl
          · exact s.stall_aside _
        · exact .refl s

theorem State.offerClose_aside (s : State) (z : ZoneNo) (tag : TagNumber) (ok : Bool) :
    Aside s (s.offerClose z tag ok) := by
  unfold State.offerClose
  split
  · exact .of_eq rfl rfl
  · exact .raise s (v := .closeDrop) (by decide)

theorem State.handRecent_aside (s : State) (x : Context) (r : PassResult) : Aside s (s.handRecent x r) := by
  unfold State.handRecent
  split
  · exact .of_eq rfl rfl
  · exact .refl s

theorem State.endPass_aside (s : State) (c : ContextNo) (r : PassResult) : Aside s (s.endPass c r) := by
  cases hx : s.context c with
  | none =>
    rw [State.endPass_of_free hx]
    exact .refl s
  | some x =>
    rw [State.endPass_eq hx]
    have hconcludes : Aside s (s.concludes c x r) :=
      .after (.of_jobsOnly (s.concludes_jobsOnly c x r)) rfl rfl
    exact hconcludes.trans <| (State.offerClose_aside _ _ _ _).trans <| (State.handRecent_aside _ x r).trans <|
      .after (State.releaseHeads_aside _ _ _) rfl rfl

theorem State.endNoWrite_aside (s : State) (c : ContextNo) : Aside s (s.endNoWrite c) :=
  .after (State.endPass_aside (s.modContext c _) c _) rfl rfl

theorem State.compose_aside (s : State) (c : ContextNo) : Aside s (s.compose c) := by
  unfold State.compose
  split
  · exact .refl s
  · split
    · exact s.endNoWrite_aside c
    · split
      · exact s.endNoWrite_aside c
      · exact .after (.of_jobsOnly (State.issueFor_jobsOnly (s.setContext c _) _ _ _ _)) rfl rfl

theorem State.afterCheck_aside (s : State) (c : ContextNo) : Aside s (s.afterCheck c) := by
  unfold State.afterCheck
  split
  · exact .refl s
  · split
    · exact s.endPass_aside c _
    · exact s.compose_aside c

theorem State.settleCheck_aside (s : State) (c : ContextNo) (o : RecordCheck) : Aside s (s.settleCheck c o) :=
  .after (State.afterCheck_aside (s.modContext c _) c) rfl rfl

/-! ### A withdrawal by loss tells the owners of removed jobs (R55, R95, R114) -/

/-- A load that fails is answered. -/
theorem State.failLoad_aside (s : State) (st : Status) : Aside s (s.failLoad st) := by
  have hdiscard : Aside s s.discardTwoPart := by
    unfold State.discardTwoPart
    split <;> exact .of_eq rfl rfl
  refine hdiscard.trans ?_
  unfold State.failLoad State.finish State.sendResponse
  split
  · exact .refl _
  · dsimp only
    split
    · exact ⟨List.prefix_append _ _, rfl, rfl⟩
    · exact .of_eq rfl rfl

theorem State.jobRemoved_aside (s : State) (j : Job) : Aside s (s.jobRemoved j) := by
  have hleft : ∀ c, Aside s (s.jobLeft c) := fun c => .of_jobsOnly (s.jobLeft_jobsOnly c)
  unfold State.jobRemoved
  split
  · exact .of_jobsOnly ((s.setOutstanding_jobsOnly _).trans (State.scrubTest_jobsOnly _))
  · exact s.failLoad_aside _
  · rename_i c _
    dsimp only
    split
    · exact (hleft c).trans (State.endNoWrite_aside _ c)
    · exact (hleft c).trans (State.settleCheck_aside _ c _)
    all_goals exact hleft c

theorem State.masterLost_aside (s : State) (n : SlotNo) (c : ContextNo) : Aside s (s.masterLost n c) := by
  by_cases h : s.masterHit n c
  · obtain ⟨x, hs, hb, hx⟩ := h
    rw [State.masterLost_of_hit hs hb hx]
    exact s.endPass_aside c _
  · rw [State.masterLost_of_not_hit h]
    exact .refl s

theorem aside_foldl {α : Type} {f : State → α → State} (h : ∀ s a, Aside s (f s a)) (l : List α) (s : State) :
    Aside s (l.foldl f s) := by
  induction l generalizing s with
  | nil => exact .refl s
  | cons a l ih => exact (h s a).trans (ih _)

end Sys2Proof.Machine
end

section
/-! PROOF. The end of a SCRUB: what the withdrawal of the faulted slot leaves of the rest of the part, a load pending
included (R93 to R96, R102, R106, R114, R138). -/

namespace Sys2Proof.Machine

variable {s t u : State} {n : SlotNo} {c : ContextNo} {j : Job} {own own' : ContextNo → Prop}

/-! ### A withdrawal under way -/

/-- s with the passes and the reports of t. -/
def State.passesOf (s t : State) : State :=
  { s with passes := t.passes, lane := { s.lane with reports := t.lane.reports } }

/-- Work of the passes own and of a load that fails, while slot n is withdrawn: the other passes stand, slot n stays,
and a first part that was pending is pending still or none is. -/
structure Withdraws (n : SlotNo) (own : ContextNo → Prop) (s t : State) : Prop where
  rest : t = { s with
    passes := t.passes, cipher := t.cipher, air := t.air, recent := t.recent, events := t.events, mgmt := t.mgmt
    lane := { s.lane with responses := t.lane.responses, reports := t.lane.reports }
    keys := { t.keys with
      rootLock := s.keys.rootLock, writeGen := s.keys.writeGen, initCheck := s.keys.initCheck } }
  passes : PassesGoOn own s (s.passesOf t)
  slot : t.slot n = s.slot n
  keyChange : s.keys.keyChange = true → t.keys.keyChange = true
  twoPart : t.mgmt.twoPart = s.mgmt.twoPart ∨ t.mgmt.twoPart = .idle
  aside : Aside s t

namespace Withdraws

theorem stands (h : Withdraws n own s t) {d : ContextNo} (hd : ¬own d) : s.standsOn t d := h.passes.stands d hd
theorem free (h : Withdraws n own s t) {d : ContextNo} (hd : s.context d = none) : t.context d = none :=
  h.passes.free d hd
theorem reports (h : Withdraws n own s t) : s.lane.reports <+: t.lane.reports := h.passes.reports
theorem clock (h : Withdraws n own s t) : t.clock = s.clock := by rw [h.rest]
theorem cache (h : Withdraws n own s t) : t.cache = s.cache := by rw [h.rest]
theorem writeGen (h : Withdraws n own s t) : t.keys.writeGen = s.keys.writeGen := by rw [h.rest]
theorem initCheck (h : Withdraws n own s t) : t.keys.initCheck = s.keys.initCheck := by rw [h.rest]

/-- The passes of an update that ends none. -/
theorem passes_of (hp : t.passes = s.passes) (hr : t.lane.reports = s.lane.reports) :
    PassesGoOn own s (s.passesOf t) := by
  have he : s.passesOf t = s := by
    unfold State.passesOf
    rw [hp, hr]
  rw [he]
  exact .refl s

theorem of_passesGoOn (h : PassesGoOn own s t) (ha : Aside s t) : Withdraws n own s t where
  rest := by
    conv_lhs => rw [h.rest]
    rw [h.rest]
  passes := ⟨rfl, h.reports, h.stands, h.free, le_rfl⟩
  slot := h.slot n
  keyChange hk := by rw [h.rest]; exact hk
  twoPart := .inl (by rw [h.mgmt])
  aside := ha

theorem of_jobsOnly (h : JobsOnly s t) : Withdraws n own s t :=
  of_passesGoOn (.of_jobsOnly h) (.of_jobsOnly h)

theorem refl (s : State) : Withdraws n own s s := of_jobsOnly (.refl s)

theorem trans (h : Withdraws n own s t) (k : Withdraws n own t u) : Withdraws n own s u where
  rest := by
    rw [k.rest, h.rest]
  passes := ⟨rfl, h.reports.trans k.reports,
    fun _ hd => (State.standsOn_trans (u := t.passesOf u) (h.stands hd) h.reports k.passes hd :),
    fun _ hd => k.free (h.free hd), le_rfl⟩
  slot := k.slot.trans h.slot
  keyChange hk := k.keyChange (h.keyChange hk)
  twoPart := k.twoPart.elim (fun hk => h.twoPart.imp hk.trans hk.trans) .inr
  aside := h.aside.trans k.aside

theorem mono (h : Withdraws n own s t) (ho : ∀ d, own d → own' d) : Withdraws n own' s t :=
  ⟨h.rest, h.passes.mono ho, h.slot, h.keyChange, h.twoPart, h.aside⟩

/-- What a pass shows, it goes on to show. -/
theorem showsTag {r : State} {x : Context} {p : Context → Prop} {q : PassReport → Prop} (k : Withdraws n own t u)
    (h : r.showsTag t c x p q) (hpq : Lasting p q) (hr : r.lane.reports <+: t.lane.reports) (hc : ¬own c) :
    r.showsTag u c x p q :=
  (h.goesOn (u := t.passesOf u) hpq hr k.passes hc :)

end Withdraws

/-! ### A load that fails (R106, R114) -/

/-- No load is pending for slot n. -/
def State.loadsElsewhere (s : State) (n : SlotNo) : Prop := ∀ f, s.mgmt.twoPart = .load f → f.slot ≠ n

theorem Withdraws.loadsElsewhere (h : Withdraws n own s t) (hs : s.loadsElsewhere n) : t.loadsElsewhere n := by
  intro f hf
  rcases h.twoPart with ht | ht
  · exact hs f (ht.symm.trans hf)
  · cases ht.symm.trans hf

theorem State.finish_frame (s : State) (st : Status) (data : List Byte) : ∃ responses held,
    s.finish st data = { s with
      lane := { s.lane with responses }
      mgmt := { s.mgmt with inHand := none, held } } := by
  unfold State.finish
  split
  · rename_i hi
    exact ⟨s.lane.responses, s.mgmt.held, by rw [← hi]⟩
  · dsimp only
    unfold State.sendResponse
    split
    · exact ⟨_, s.mgmt.held, rfl⟩
    · exact ⟨s.lane.responses, _, rfl⟩

theorem State.discardTwoPart_frame (s : State) : ∃ slots keyChange candidate,
    s.discardTwoPart = { s with
      keys := { s.keys with slots, keyChange }
      mgmt := { s.mgmt with twoPart := .idle, candidate } } ∧
    (s.keys.keyChange = true → keyChange = true) ∧ (s.loadsElsewhere n → tableGet slots n = s.slot n) := by
  cases hp : s.mgmt.twoPart with
  | idle =>
    refine ⟨s.keys.slots, s.keys.keyChange, s.mgmt.candidate, ?_, id, fun _ => rfl⟩
    rw [State.discardTwoPart_idle hp, ← hp]
  | root b =>
    refine ⟨s.keys.slots, s.keys.keyChange, none, ?_, id, fun _ => rfl⟩
    rw [State.discardTwoPart_root hp]
  | load f =>
    refine ⟨_, true, none, State.discardTwoPart_load hp, fun _ => rfl, fun h => ?_⟩
    exact tableGet_tableSet_ne _ _ (h f hp).symm

/-- The failure of a load touches the management unit, its slot and the response queue alone. -/
theorem State.failLoad_withdraws (h : s.loadsElsewhere n) (st : Status) : Withdraws n own s (s.failLoad st) := by
  have ha := s.failLoad_aside st
  obtain ⟨slots, keyChange, candidate, hd, hk, hn⟩ := s.discardTwoPart_frame (n := n)
  obtain ⟨responses, held, hf⟩ := s.discardTwoPart.finish_frame st []
  have he : s.failLoad st = _ := hf
  rw [hd] at he
  rw [he] at ha ⊢
  exact ⟨rfl, Withdraws.passes_of rfl rfl, hn h, hk, .inr rfl, ha⟩

theorem State.failLoad_noLoad (s : State) (st : Status) : (s.failLoad st).noLoad := by
  obtain ⟨slots, keyChange, candidate, hd, -⟩ := s.discardTwoPart_frame (n := 0)
  obtain ⟨responses, held, hf⟩ := s.discardTwoPart.finish_frame st []
  have he : s.failLoad st = _ := hf
  rw [hd] at he
  rw [he]
  exact ⟨rfl, rfl⟩

/-! ### The owner of a removed job, the management unit left out (R95, R128) -/

/-- Any other removal is work on jobs alone. -/
theorem State.jobRemoved_jobsOnly_of_owner (hm : j.owner ≠ .management) (h : ∀ c, ¬j.tells c) :
    JobsOnly s (s.jobRemoved j) := by
  unfold State.jobRemoved
  split
  · exact (s.setOutstanding_jobsOnly _).trans (State.scrubTest_jobsOnly _)
  · exact absurd ‹_› hm
  · rename_i c ho
    dsimp only
    split
    · exact absurd ⟨ho, .inl ‹_›⟩ (h c)
    · exact absurd ⟨ho, .inr ‹_›⟩ (h c)
    all_goals exact s.jobLeft_jobsOnly c

/-- The removal of a job of a pass, or of a scrub, is work of the pass it tells. -/
theorem State.jobRemoved_passesGoOn_of_owner (hm : j.owner ≠ .management) : PassesGoOn j.tells s (s.jobRemoved j) := by
  by_cases h : ∃ c, j.tells c
  · obtain ⟨c, ho, hk⟩ := h
    have hleft : PassesGoOn j.tells s (s.jobLeft c) := .of_jobsOnly (s.jobLeft_jobsOnly c)
    rcases hk with hk | hk
    · rw [State.jobRemoved_compute ho hk]
      exact hleft.trans ((State.endNoWrite_passesGoOn _ c).mono fun d hd => hd ▸ ⟨ho, .inl hk⟩)
    · rw [State.jobRemoved_verify ho hk]
      exact hleft.trans ((State.settleCheck_passesGoOn _ c _).mono fun d hd => hd ▸ ⟨ho, .inr hk⟩)
  · exact .of_jobsOnly (State.jobRemoved_jobsOnly_of_owner hm (not_exists.mp h))

theorem State.jobRemoved_of_management (hm : j.owner = .management) : s.jobRemoved j = s.failLoad .noRoot := by
  unfold State.jobRemoved
  rw [hm]

theorem State.jobRemoved_withdraws (h : s.loadsElsewhere n) (j : Job) : Withdraws n j.tells s (s.jobRemoved j) := by
  by_cases hm : j.owner = .management
  · rw [State.jobRemoved_of_management hm]
    exact State.failLoad_withdraws h _
  · exact .of_passesGoOn (State.jobRemoved_passesGoOn_of_owner hm) (s.jobRemoved_aside j)

theorem State.foldl_jobRemoved_withdraws (h : s.loadsElsewhere n) (l : List Job) :
    Withdraws n (fun c => ∃ j ∈ l, j.tells c) s (l.foldl State.jobRemoved s) := by
  induction l generalizing s with
  | nil => exact .refl s
  | cons j l ih =>
    have hj := State.jobRemoved_withdraws h j
    exact (hj.mono fun c hc => ⟨j, List.mem_cons_self, hc⟩).trans
      ((ih (hj.loadsElsewhere h)).mono fun c ⟨k, hk, hc⟩ => ⟨k, List.mem_cons_of_mem j hk, hc⟩)

/-- A FREE context makes nothing of the removal of its job. -/
theorem State.jobRemoved_jobsOnly_of_free (ho : j.owner = .context c) (hc : s.context c = none) :
    JobsOnly s (s.jobRemoved j) := by
  have hleft : (s.jobLeft c).context c = none := (s.jobLeft_jobsOnly c).context_none hc
  by_cases hk : j.kind = .recordCompute
  · rw [State.jobRemoved_compute ho hk, State.endNoWrite, State.modContext_of_free hleft, State.endPass_of_free hleft]
    exact s.jobLeft_jobsOnly c
  · by_cases hk' : j.kind = .recordVerify
    · rw [State.jobRemoved_verify ho hk', State.settleCheck, State.modContext_of_free hleft, State.afterCheck, hleft]
      exact s.jobLeft_jobsOnly c
    · exact State.jobRemoved_jobsOnly_of_owner (by rw [ho]; nofun) fun _ ht => ht.2.elim hk hk'

/-! ### What a pass told of a removal shows at the end (R31, R33) -/

/-- A context in use whose jobs leave the queue shows at the end what the removal of each of them has it show. -/
theorem State.foldl_jobRemoved_shows {x : Context} {p : Context → Prop} {q : PassReport → Prop} (hpq : Lasting p q)
    {l : List Job} (htells : ∀ (u : State) (j : Job) (z : Context), j ∈ l → j.owner = .context c → u.clock = s.clock →
      u.context c = some z → u.showsTag (u.jobRemoved j) c z p q)
    {u : State} (hl : u.loadsElsewhere n) (hclock : u.clock = s.clock) (hr : s.lane.reports <+: u.lane.reports)
    (h : s.showsTag u c x p q ∨ (∃ z, u.context c = some z ∧ z.apart = x.apart ∧ z.state ≠ .done) ∧
      ∃ j ∈ l, j.owner = .context c) : s.showsTag (l.foldl State.jobRemoved u) c x p q := by
  induction l generalizing u with
  | nil => exact h.resolve_right fun ⟨_, j, hj, _⟩ => absurd hj List.not_mem_nil
  | cons j l ih =>
    have hgo := State.jobRemoved_withdraws hl j
    refine ih (fun v k z hk => htells v k z (List.mem_cons_of_mem j hk)) (hgo.loadsElsewhere hl)
      (hgo.clock.trans hclock) (hr.trans hgo.reports) ?_
    by_cases ho : j.owner = .context c
    · refine .inl ?_
      cases hu : u.context c with
      | none =>
        have hshow := h.resolve_right fun ⟨⟨z, hz, _⟩, _⟩ => absurd (hu.symm.trans hz) nofun
        exact hshow.goesOn (own := fun _ => False) hpq hr (.of_jobsOnly (State.jobRemoved_jobsOnly_of_free ho hu)) id
      | some z =>
        have htag : z.issuer = x.issuer ∧ z.tagNumber = x.tagNumber := by
          rcases h with (⟨y, hy, hi, ht, -⟩ | ⟨hn, -⟩) | ⟨⟨y, hy, ha, -⟩, -⟩
          · obtain rfl := Option.some.inj (hu.symm.trans hy)
            exact ⟨hi, ht⟩
          · cases hu.symm.trans hn
          · obtain rfl := Option.some.inj (hu.symm.trans hy)
            exact Context.tag_of_apart ha
        exact (htells u j z List.mem_cons_self ho hclock hu).since hr htag.1 htag.2
    · have hown : ¬j.tells c := fun hc => ho hc.1
      rcases h with h | ⟨⟨z, hz, ha, hd⟩, k, hk, hkc⟩
      · exact .inl (hgo.showsTag h hpq hr hown)
      · refine .inr ⟨?_, k, (List.mem_cons.mp hk).resolve_left fun he => ho (he ▸ hkc), hkc⟩
        rcases hgo.stands hown with hs | ⟨y, hy, hdone, -⟩
        · rw [hz] at hs
          obtain ⟨w, hw, hwz⟩ := State.some_of_apart hs
          exact ⟨w, hw, hwz.trans ha, fun hw => hd ((Context.state_of_apart hwz).symm.trans hw)⟩
        · exact absurd (Option.some.inj (hy.symm.trans hz) ▸ hdone) hd

end Sys2Proof.Machine
end

section
/-! PROOF. The end of a SCRUB: the withdrawal by loss of the faulted slot as a whole (R55, R91, R93 to R96, R102, R114,
R138). -/

namespace Sys2Proof.Machine

variable {s t u : State} {n : SlotNo} {c : ContextNo} {x : Slot} {j : Job} {own : ContextNo → Prop}

/-! ### Engines and queue while owners are told (R95) -/

/-- Slot n holds no material, and the record write generation is not its own. -/
structure State.bereft (s : State) (n : SlotNo) : Prop where
  material : (s.slot n).holdsMaterial = false
  unwritten : ¬((s.slot n).role = some .record ∧ s.keys.writeGen = some (s.slot n).generation)

theorem Withdraws.bereft (h : Withdraws n own s t) (hs : s.bereft n) : t.bereft n :=
  ⟨by rw [h.slot]; exact hs.material, by rw [h.slot, h.writeGen]; exact hs.unwritten⟩

/-- No scrub is issued under the slot. -/
theorem State.bereft.allowsScrubs (h : s.bereft n) : s.allowsScrubs (Job.elsewhere n) := by
  rintro m forced hm hkey
  obtain rfl : m = n := KeyId.slot.inj hkey
  exact Bool.false_ne_true (h.material.symm.trans hm)

/-- No record-code job is issued under the slot. -/
theorem State.bereft.allowsCodes (h : s.bereft n) : s.allowsCodes (Job.elsewhere n) := by
  rintro g m c input hg hm hkey
  obtain rfl : m = n := KeyId.slot.inj hkey
  obtain ⟨hrole, hgen⟩ := State.findSlot_spec hm
  exact h.unwritten ⟨hrole, hgen ▸ hg⟩

theorem State.jobRemoved_elsewhere (h : s.bereft n) (j : Job) : JobsGoOn (Job.elsewhere n) s (s.jobRemoved j) := by
  have hleft : ∀ c, PassesGoOn (fun _ => False) s (s.jobLeft c) := fun c => .of_jobsOnly (s.jobLeft_jobsOnly c)
  unfold State.jobRemoved
  split
  · exact .after (State.scrubTest_goesOn (s := s.setOutstanding none) h.allowsScrubs) rfl
  · exact .of_cipher ((State.finish_cipher _ _ _).trans s.discardTwoPart_cipher)
  · rename_i c _
    have hjob := State.jobLeft_goesOn h.allowsScrubs c
    dsimp only
    split
    · exact hjob.trans (State.endNoWrite_goesOn ((hleft c).allowsScrubs h.allowsScrubs) c)
    · exact hjob.trans (State.settleCheck_goesOn ((hleft c).allowsScrubs h.allowsScrubs)
        ((hleft c).allowsCodes h.allowsCodes) c _)
    all_goals exact hjob

theorem State.foldl_jobRemoved_elsewhere (h : s.bereft n) (hl : s.loadsElsewhere n) (l : List Job) :
    JobsGoOn (Job.elsewhere n) s (l.foldl State.jobRemoved s) := by
  induction l generalizing s with
  | nil => exact .refl s
  | cons j l ih =>
    have hj := State.jobRemoved_withdraws hl j
    exact (State.jobRemoved_elsewhere h j).trans (ih (hj.bereft h) (hj.loadsElsewhere hl))

/-! ### The withdrawal as a whole (R93) -/

/-- Slot n, which stood as x, has just lost its material, and no load is pending for it. -/
structure State.struck (s : State) (n : SlotNo) (x : Slot) : Prop where
  loads : s.loadsElsewhere n
  keyChange : s.keys.keyChange = true
  material : (s.slot n).holdsMaterial = false
  role : (s.slot n).role = x.role
  generation : (s.slot n).generation = x.generation

theorem State.struck.loads_begun (h : s.struck n x) : (s.lossBegun n x).loadsElsewhere n := by
  rw [State.lossBegun_eq h.keyChange]
  exact h.loads

theorem State.struck.bereft_begun (h : s.struck n x) : (s.lossBegun n x).bereft n := by
  rw [State.lossBegun_eq h.keyChange]
  refine ⟨h.material, fun ⟨hr, hg⟩ => ?_⟩
  have hrole : x.role = some .record := h.role.symm.trans hr
  dsimp only at hg
  split at hg
  · cases hg
  · rename_i hne
    exact hne ⟨hrole, h.generation ▸ hg⟩

theorem State.struck.heard (h : s.struck n x) :
    Withdraws n (fun c => ∃ j ∈ s.cipher.queue, j.key = .slot n ∧ j.tells c) (s.lossBegun n x) (s.lossHeard n x) :=
  (State.foldl_jobRemoved_withdraws h.loads_begun _).mono fun _ ⟨j, hj, hc⟩ =>
    ⟨j, List.mem_of_mem_filter hj, Job.names_iff.mp (List.mem_filter.mp hj).2, hc⟩

/-- The contexts bound to the slot are told last (R96). -/
theorem State.lossHeard_masters (s : State) (n : SlotNo) (x : Slot) :
    PassesGoOn (fun d => x.role = some .tagMaster ∧ (s.lossHeard n x).masterHit n d) (s.lossHeard n x)
      (s.withdrawLoss n x) ∧ Aside (s.lossHeard n x) (s.withdrawLoss n x) := by
  rw [State.withdrawLoss_eq]
  split
  · rename_i hx
    exact ⟨(State.foldl_masterLost_passesGoOn _ n _).mono fun d hd => ⟨hx, hd⟩,
      aside_foldl (fun s c => s.masterLost_aside n c) _ _⟩
  · exact ⟨.refl _, .refl _⟩

/-- The withdrawal is work of the passes whose record-code jobs leave the queue and of those bound to the slot. -/
theorem State.struck.withdrawn (h : s.struck n x) :
    Withdraws n (fun c => (∃ j ∈ s.cipher.queue, j.key = .slot n ∧ j.tells c) ∨
      (x.role = some .tagMaster ∧ s.masterHit n c)) (s.lossBegun n x) (s.withdrawLoss n x) := by
  obtain ⟨hmasters, haside⟩ := s.lossHeard_masters n x
  refine (h.heard.mono fun _ hc => .inl hc).trans ((Withdraws.of_passesGoOn hmasters haside).mono fun c ⟨hx, hc⟩ => ?_)
  by_cases ht : ∃ j ∈ s.cipher.queue, j.key = .slot n ∧ j.tells c
  · exact .inl ht
  · obtain ⟨y, hy, hb⟩ := State.masterHit_of_stands (h.heard.stands ht) hc
    exact .inr ⟨hx, y, by rwa [State.lossBegun_context h.keyChange] at hy, hb⟩

theorem State.struck.goesOn (h : s.struck n x) :
    JobsGoOn (Job.elsewhere n) (s.lossBegun n x) (s.withdrawLoss n x) := by
  have hheard : JobsGoOn (Job.elsewhere n) (s.lossBegun n x) (s.lossHeard n x) :=
    State.foldl_jobRemoved_elsewhere h.bereft_begun h.loads_begun _
  rw [State.withdrawLoss_eq]
  split
  · exact hheard.trans (State.foldl_masterLost_goesOn (h.heard.bereft h.bereft_begun).allowsScrubs n _)
  · exact hheard

/-- No queued job names the slot afterwards (R95). -/
theorem State.struck.queue (h : s.struck n x) : ∀ k ∈ (s.withdrawLoss n x).cipher.queue, k.elsewhere n := by
  intro k hk
  refine (h.goesOn.queue k hk).elim (fun hq => ?_) id
  rw [State.lossBegun_eq h.keyChange] at hq
  have hn := (List.mem_filter.mp hq).2
  exact fun he => by rw [Job.names_iff.mpr he] at hn; cases hn

/-- An engine that goes on from the notice of the loss is as R138 has it. -/
theorem Engine.afterLoss_of_goesOn {y z : Engine} (h : (y.atLoss n).GoesOn (Job.elsewhere n) z) : y.afterLoss n z := by
  obtain ⟨st, cl, lo⟩ := y
  unfold Engine.afterLoss
  cases st with
  | closedIdle => trivial
  | openIdle k r =>
    rintro rfl
    refine h.closed ?_
    show Engine.state (if KeyId.slot n = .slot n then Engine.closed else _) = _
    rw [if_pos rfl]
    rfl
  | opening r j =>
    have hat : Engine.atLoss n ⟨.opening r j, cl, lo⟩ =
        if j.key = .slot n then ⟨.opening r j, cl, true⟩ else ⟨.opening r j, cl, lo⟩ := rfl
    rw [hat] at h
    split at h
    · obtain ⟨hstate, hloss, -⟩ := h.held rfl
      exact ⟨hstate, fun _ => hloss⟩
    · exact ⟨(h.held rfl).1, fun hk => absurd hk ‹_›⟩
  | busy r j =>
    have hat : Engine.atLoss n ⟨.busy r j, cl, lo⟩ =
        if j.key = .slot n then ⟨.busy r { j with discard := true }, true, lo⟩ else ⟨.busy r j, cl, lo⟩ := rfl
    rw [hat] at h
    dsimp only
    split
    · rename_i hj
      rw [if_pos hj] at h
      obtain ⟨hstate, -, hclose⟩ := h.held rfl
      exact ⟨hstate, hclose rfl⟩
    · rename_i hj
      rw [if_neg hj] at h
      exact (h.held rfl).1

/-! ### What the withdrawal tells the passes (R31, R33, R55) -/

/-- Where no record-code job leaves the queue, each pass bound to the TAG-MASTER slot has ended KEY-WITHDRAWN (R55). -/
theorem State.struck.ends (h : s.struck n x) (hx : x.role = some .tagMaster) {y : Context}
    (hy : s.context c = some y) (hb : y.boundSlot = some n) (hst : y.state.needsMaster = true)
    (hk : ∀ k ∈ s.cipher.queue, k.key = .slot n → k.kind ≠ .recordCompute ∧ k.kind ≠ .recordVerify) :
    s.showsTag (s.withdrawLoss n x) c y (Context.endedWith .keyWithdrawn s.clock.laneTime)
      (PassReport.endedWith .keyWithdrawn s.clock.laneTime) := by
  have hown : ¬∃ j ∈ s.cipher.queue, j.key = .slot n ∧ j.tells c := fun ⟨j, hj, hkey, ht⟩ =>
    ht.2.elim (hk j hj hkey).1 (hk j hj hkey).2
  have hcontext := (State.lossBegun_context h.keyChange n x c).trans hy
  have hclock : (s.lossHeard n x).clock = s.clock :=
    h.heard.clock.trans (by rw [State.lossBegun_eq h.keyChange])
  have hreports : s.lane.reports <+: (s.lossHeard n x).lane.reports := by
    have hr := h.heard.reports
    rwa [State.lossBegun_eq h.keyChange] at hr
  rcases h.heard.stands hown with hst' | ⟨z, hz, hdone, -⟩
  · rw [hcontext] at hst'
    obtain ⟨z, hz, hzy⟩ := State.some_of_apart hst'
    have hbound : z.apart.boundSlot = y.apart.boundSlot := by rw [hzy]
    obtain ⟨hi, ht⟩ := Context.tag_of_apart hzy
    have hend := State.foldl_masterLost_ends (List.mem_finRange c) hz (hbound.trans hb)
      (by rw [Context.state_of_apart hzy]; exact hst)
    rw [hclock] at hend
    rw [State.withdrawLoss_eq, if_pos hx]
    exact hend.since hreports hi ht
  · obtain rfl := Option.some.inj (hz.symm.trans hcontext)
    rw [hdone] at hst
    cases hst

/-- A pass whose record-code jobs leave the queue, all of one kind, shows what their removal brings (R31, R33). -/
theorem State.struck.shows (h : s.struck n x) (hx : x.role = some .record) {y : Context}
    (hy : s.context c = some y) (hst : y.state ≠ .done) {p : Context → Prop} {q : PassReport → Prop} (hpq : Lasting p q)
    (hjob : ∃ k ∈ s.cipher.queue, k.key = .slot n ∧ k.owner = .context c)
    (htells : ∀ (u : State) (j : Job) (z : Context), j ∈ s.cipher.queue → j.key = .slot n → j.owner = .context c →
      u.clock = s.clock → u.context c = some z → u.showsTag (u.jobRemoved j) c z p q) :
    s.showsTag (s.withdrawLoss n x) c y p q := by
  rw [State.withdrawLoss_eq, if_neg (by rw [hx]; nofun)]
  have hclock : (s.lossBegun n x).clock = s.clock := by rw [State.lossBegun_eq h.keyChange]
  obtain ⟨k, hk, hkey, ho⟩ := hjob
  refine State.foldl_jobRemoved_shows hpq (fun u j z hj => ?_) h.loads_begun hclock
    (by rw [State.lossBegun_eq h.keyChange]) (.inr ⟨⟨y, (State.lossBegun_context h.keyChange n x c).trans hy, rfl, hst⟩,
      k, List.mem_filter.mpr ⟨hk, Job.names_iff.mpr hkey⟩, ho⟩)
  exact htells u j z (List.mem_of_mem_filter hj) (Job.names_iff.mp (List.mem_filter.mp hj).2)

/-- What the withdrawal has told, a later state t tells that ends no further pass (R93 to R96). -/
theorem State.struck.lossTold (h : s.struck n x)
    (hp : PassesGoOn (fun _ => False) (s.withdrawLoss n x) (State.passesOf (s.withdrawLoss n x) t))
    (hg : t.keys.writeGen = (s.withdrawLoss n x).keys.writeGen) (hc : t.cache = (s.withdrawLoss n x).cache)
    (hq : ∀ k ∈ t.cipher.queue, k.elsewhere n) : s.lossTold t n x := by
  have hgo := h.withdrawn
  have hreports : s.lane.reports <+: (s.withdrawLoss n x).lane.reports := by
    have hr := hgo.reports
    rwa [State.lossBegun_eq h.keyChange] at hr
  have later : ∀ {c : ContextNo} {y : Context} {p : Context → Prop} {q : PassReport → Prop}, Lasting p q →
      s.showsTag (s.withdrawLoss n x) c y p q → s.showsTag t c y p q := fun hpq hshow =>
    (hshow.goesOn (u := State.passesOf (s.withdrawLoss n x) t) hpq hreports hp id :)
  refine ⟨?_, ?_, hq, fun c y hy => ⟨fun hx hb hst hk => ?_, fun hn hd hk => ?_,
    fun kind hx hst hjob hall => ⟨?_, ?_⟩⟩⟩
  · rw [hg, hgo.writeGen, State.lossBegun_eq h.keyChange]
  · rw [hc, hgo.cache, State.lossBegun_eq h.keyChange]
  · exact (later (lasting_ended .keyWithdrawn s.clock.laneTime)
      (h.ends hx hy hb (PassState.needsMaster_iff.mpr hst) hk)).ended
  · have hown : ¬((∃ j ∈ s.cipher.queue, j.key = .slot n ∧ j.tells c) ∨
        (x.role = some .tagMaster ∧ s.masterHit n c)) := by
      rintro (⟨j, hj, hkey, ho, -⟩ | ⟨hx, z, hz, hb, hm⟩)
      · exact hk j hj hkey ho
      · obtain rfl := Option.some.inj (hy.symm.trans hz)
        exact hn ⟨hx, hb, PassState.needsMaster_iff.mp hm⟩
    have hcontext := (State.lossBegun_context h.keyChange n x c).trans hy
    have hstands : (s.lossBegun n x).standsOn t c :=
      (State.standsOn_trans (u := State.passesOf (s.withdrawLoss n x) t) (hgo.stands hown) hgo.reports hp id :)
    rcases hstands with hst | ⟨z, hz, hdone, -⟩
    · rw [hst, hcontext]
      rfl
    · exact absurd (Option.some.inj (hz.symm.trans hcontext) ▸ hdone) hd
  · rintro rfl
    refine (later (lasting_ended .completeNoWrite s.clock.laneTime) (h.shows hx hy (by rw [hst]; decide)
      (lasting_ended .completeNoWrite s.clock.laneTime) hjob fun u j z hj hkey ho hu hz => ?_)).ended
    rw [← hu]
    exact State.jobRemoved_compute_ends ho (hall j hj hkey ho) hz
  · rintro rfl
    exact (later (lasting_recordCheck .recordKeyUnavailable) (h.shows hx hy (by rw [hst]; decide)
      (lasting_recordCheck .recordKeyUnavailable) hjob fun u j z hj hkey ho _ hz =>
        State.jobRemoved_verify_settles ho (hall j hj hkey ho) hz)).shows

/-! ### The load that waited under the slot (R95, R114) -/

/-- From s to t the load f, whose KEY-LOAD-B had this tag and code, has failed with NO-ROOT (R106, R114). -/
def State.loadFailed (s t : State) (f : LoadFields) (tag code : Byte) : Prop :=
  t.mgmt.twoPart = .idle ∧ t.mgmt.candidate = none ∧ t.mgmt.inHand = none ∧ t.slot f.slot = Slot.empty ∧
    (∀ m, m ≠ f.slot → t.slot m = s.slot m) ∧
    ∃ r : Response, (.response r ∈ t.lane.responses.drop s.lane.responses.length ∨ t.mgmt.held = some r) ∧
      r.tag = tag ∧ r.code = code ∧ r.status = .noRoot ∧ r.keyChange = true ∧ r.data = []

variable {f : LoadFields} {tag code : Byte}

theorem State.loadFailed.goesOn (h : s.loadFailed t f tag code) (hm : u.mgmt = t.mgmt) (hs : ∀ m, u.slot m = t.slot m)
    (hr : t.lane.responses <+: u.lane.responses) : s.loadFailed u f tag code := by
  obtain ⟨h1, h2, h3, h4, h5, r, hmem, hfields⟩ := h
  unfold State.loadFailed
  rw [hm, hs]
  exact ⟨h1, h2, h3, h4, fun m hf => (hs m).trans (h5 m hf), r, hmem.imp_left (mem_drop_of_grown hr), hfields⟩

theorem State.loadFailed.since (h : t.loadFailed u f tag code) (hs : ∀ m, t.slot m = s.slot m)
    (hr : s.lane.responses <+: t.lane.responses) : s.loadFailed u f tag code := by
  obtain ⟨h1, h2, h3, h4, h5, r, hmem, hfields⟩ := h
  exact ⟨h1, h2, h3, h4, fun m hf => (h5 m hf).trans (hs m), r, hmem.imp_left (mem_drop_of_prefix hr), hfields⟩

theorem State.failLoad_failed {w : Block} (hp : s.mgmt.twoPart = .load f)
    (hi : s.mgmt.inHand = some { tag, code, work := .keyLoadB w }) : s.loadFailed (s.failLoad .noRoot) f tag code := by
  have hslot : ∀ m, tableGet (tableSet s.keys.slots f.slot Slot.empty) m =
      if m = f.slot then Slot.empty else s.slot m := fun m => tableGet_tableSet _ _ _ _
  unfold State.failLoad
  rw [State.discardTwoPart_load hp]
  by_cases hr : s.lane.responses.length < 8
  · rw [State.finish_of_room (by exact hi) (by exact hr)]
    refine ⟨rfl, rfl, rfl, (hslot _).trans (if_pos rfl), fun m hm => (hslot m).trans (if_neg hm),
      ⟨tag, code, .noRoot, s.events.flags != 0, true, []⟩, .inl ?_, rfl, rfl, rfl, rfl, rfl⟩
    show _ ∈ (s.lane.responses ++ [_]).drop s.lane.responses.length
    rw [List.drop_left]
    exact List.mem_singleton_self _
  · unfold State.finish
    rw [show State.mgmt { s with
        mgmt := { s.mgmt with twoPart := .idle, candidate := none }
        keys := { s.keys with slots := tableSet s.keys.slots f.slot Slot.empty, keyChange := true } } =
      { s.mgmt with twoPart := .idle, candidate := none } from rfl, hi]
    dsimp only
    rw [State.sendResponse, if_neg (by exact hr)]
    exact ⟨rfl, rfl, rfl, (hslot _).trans (if_pos rfl), fun m hm => (hslot m).trans (if_neg hm), _, .inr rfl,
      rfl, rfl, rfl, rfl, rfl⟩

/-- The first of the management unit's jobs ends the load; the others find none. -/
theorem State.foldl_jobRemoved_failed {w : Block} {l : List Job} (hl : ∃ j ∈ l, j.owner = .management)
    (hp : s.mgmt.twoPart = .load f) (hi : s.mgmt.inHand = some { tag, code, work := .keyLoadB w }) :
    s.loadFailed (l.foldl State.jobRemoved s) f tag code := by
  induction l generalizing s with
  | nil => exact absurd hl fun ⟨_, hj, _⟩ => List.not_mem_nil hj
  | cons j l ih =>
    rw [List.foldl_cons]
    by_cases hm : j.owner = .management
    · rw [State.jobRemoved_of_management hm]
      have hrest := State.foldl_jobRemoved_passesGoOn l (s.failLoad_noLoad .noRoot)
      exact (State.failLoad_failed hp hi).goesOn hrest.mgmt hrest.slot
        (aside_foldl State.jobRemoved_aside l _).responses
    · have hj := State.jobRemoved_passesGoOn_of_owner (s := s) hm
      obtain ⟨k, hk, hkm⟩ := hl
      refine State.loadFailed.since (ih ⟨k, (List.mem_cons.mp hk).resolve_left fun he => hm (he ▸ hkm), hkm⟩ ?_ ?_)
        hj.slot (s.jobRemoved_aside j).responses
      · rw [hj.mgmt, hp]
      · rw [hj.mgmt, hi]

/-- With no job of the management unit among them, the removals leave it and every slot. -/
theorem State.foldl_jobRemoved_passesGoOn_of_owner {l : List Job} (hl : ∀ j ∈ l, j.owner ≠ .management) :
    PassesGoOn (fun _ => True) s (l.foldl State.jobRemoved s) := by
  induction l generalizing s with
  | nil => exact .refl s
  | cons j l ih =>
    exact ((State.jobRemoved_passesGoOn_of_owner (hl j List.mem_cons_self)).mono fun _ _ => trivial).trans
      (ih fun k hk => hl k (List.mem_cons_of_mem j hk))

theorem State.struck.loads_kept (h : s.struck n x)
    (hq : ∀ k ∈ s.cipher.queue, k.key = .slot n → k.owner ≠ .management) :
    (s.withdrawLoss n x).mgmt = s.mgmt ∧ ∀ m, (s.withdrawLoss n x).slot m = s.slot m := by
  have hheard : PassesGoOn (fun _ => True) (s.lossBegun n x) (s.lossHeard n x) :=
    State.foldl_jobRemoved_passesGoOn_of_owner fun j hj =>
      hq j (List.mem_of_mem_filter hj) (Job.names_iff.mp (List.mem_filter.mp hj).2)
  obtain ⟨hmasters, -⟩ := s.lossHeard_masters n x
  refine ⟨(hmasters.mgmt.trans hheard.mgmt).trans ?_, fun m => ((hmasters.slot m).trans (hheard.slot m)).trans ?_⟩
  · rw [State.lossBegun_eq h.keyChange]
  · rw [State.lossBegun_eq h.keyChange]
    rfl

theorem State.struck.load_failed (h : s.struck n x) {w : Block}
    (hq : ∃ k ∈ s.cipher.queue, k.key = .slot n ∧ k.owner = .management)
    (hp : s.mgmt.twoPart = .load f) (hi : s.mgmt.inHand = some { tag, code, work := .keyLoadB w }) :
    s.loadFailed (s.withdrawLoss n x) f tag code := by
  obtain ⟨k, hk, hkey, ho⟩ := hq
  have hmgmt : (s.lossBegun n x).mgmt = s.mgmt := by rw [State.lossBegun_eq h.keyChange]
  have hheard : (s.lossBegun n x).loadFailed (s.lossHeard n x) f tag code :=
    State.foldl_jobRemoved_failed ⟨k, List.mem_filter.mpr ⟨hk, Job.names_iff.mpr hkey⟩, ho⟩ (by rw [hmgmt, hp])
      (by rw [hmgmt, hi])
  obtain ⟨hmasters, haside⟩ := s.lossHeard_masters n x
  refine (hheard.goesOn hmasters.mgmt hmasters.slot haside.responses).since (fun m => ?_) ?_
  · rw [State.lossBegun_eq h.keyChange]
    rfl
  · rw [State.lossBegun_eq h.keyChange]

end Sys2Proof.Machine
end

section
/-! PROOF. The end of a SCRUB: the test for the next scrub, and the arbiter (R97 to R100, R134). -/

namespace Sys2Proof.Machine

variable {s t u v : State} {n : SlotNo} {e : EngineNo} {j : Job} {P : Job → Prop}

/-! ### The job a test issues (R99, R100) -/

/-- The job is the scrub of slot n, as it was made but for its bypass count. -/
def Job.scrubs (n : SlotNo) (forced : Bool) (j : Job) : Prop := { j with bypass := 0 } = scrubJob n forced

theorem State.issueScrub_scrubs {off : Option EngineNo} (ho : ∀ d, off = some d → (s.engine d).isIdle = false)
    (n : SlotNo) (forced : Bool) : (s.issueScrub n forced).someJob off (Job.scrubs n forced) :=
  State.someJob_arrive (s := s.setOutstanding _) _ ho (.inr rfl)

/-- A scrub outstanding after a test that found none before has its job, on no engine that was at work before. -/
theorem State.scrubTest_scrubs {off : Option EngineNo} (ho : ∀ d, off = some d → (s.engine d).isIdle = false)
    (h : s.keys.outstanding = none) {o : Scrub} (hs : s.scrubTest.keys.outstanding = some o) :
    s.scrubTest.someJob off (Job.scrubs o.slot o.forced) := by
  have issued : ∀ {r : State} {m forced}, (∀ d, off = some d → (r.engine d).isIdle = false) →
      (r.issueScrub m forced).keys.outstanding = some o →
      (r.issueScrub m forced).someJob off (Job.scrubs o.slot o.forced) := fun {r m forced} hr hm => by
    obtain ⟨run, hrun⟩ := r.issueScrub_outstanding m forced
    obtain rfl := Option.some.inj (hrun.symm.trans hm)
    exact State.issueScrub_scrubs hr m forced
  unfold State.scrubTest at hs ⊢
  split at hs
  · rename_i hw
    rw [if_pos hw]
    split at hs
    · exact issued ho hs
    · split at hs
      · exact absurd (h.symm.trans hs) nofun
      · rename_i hq
        rw [if_neg hq]
        split at hs
        · exact issued (r := { s with keys := { s.keys with scrubPointer := _ } }) ho hs
        · exact absurd (h.symm.trans hs) nofun
  · exact absurd (h.symm.trans hs) nofun

/-! ### The arbiter (R134, R136) -/

/-- What holds of every job in the queue, and of every scrub, holds of the queue after a dispatch. -/
theorem State.arbitrate_queue (hs : s.allowsScrubs P) (hpass : ∀ k, P k → P k.passedOver)
    (hq : ∀ k ∈ s.cipher.queue, P k) (e : EngineNo) : ∀ k ∈ (s.arbitrate e).cipher.queue, P k := by
  unfold State.arbitrate
  split
  · exact hq
  · split
    · exact hq
    · rename_i i _ _ j _
      intro k hk
      have hgo := State.afterLeaving_goesOn (s := (s.setJobs ((s.cipher.queue.take i).map Job.passedOver ++
        s.cipher.queue.drop (i + 1))).dispatch e j) (P := P)
        (State.allowsScrubs_of_slots hs ((s.setJobs_jobsOnly _).trans (State.dispatch_jobsOnly _ e j)).slots) j
      refine (hgo.queue k hk).elim (fun hk => ?_) id
      rw [State.dispatch_queue] at hk
      rcases List.mem_append.mp hk with hk | hk
      · obtain ⟨k', hk', rfl⟩ := List.mem_map.mp hk
        exact hpass k' (hq k' (List.mem_of_mem_take hk'))
      · exact hq k (List.mem_of_mem_drop hk)

/-- With no job of a context queued, the arbiter tests for no scrub: it leaves the outstanding one, but for its start,
and the scrub pointer. -/
theorem State.arbitrate_keys (hq : ∀ k ∈ s.cipher.queue, ∀ c, k.owner ≠ .context c) (e : EngineNo) :
    (s.arbitrate e).keys.scrubPointer = s.keys.scrubPointer ∧
      (s.keys.outstanding = none → (s.arbitrate e).keys.outstanding = none) := by
  rcases s.arbitrate_cases e with ha | ⟨q, j, hj, ha⟩
  · rw [ha]
    exact ⟨rfl, id⟩
  · have hleave : s.arbitrate e = (s.setJobs q).dispatch e j := by
      rw [ha, State.afterLeaving, if_neg]
      unfold Job.ofContext
      cases ho : j.owner with
      | context c => exact absurd ho (hq j hj c)
      | management => nofun
      | scrub => nofun
    rw [hleave]
    refine ⟨?_, fun hn => ?_⟩
    · unfold State.dispatch State.jobStarted
      dsimp only
      split <;> rfl
    · rcases State.jobStarted_outstanding ((s.setJobs q).setEngine e _) j with hk | hk
      · exact hk.trans hn
      · exact hk.trans (congrArg (Option.map fun o : Scrub => { o with running := true }) hn)

/-! ### The test after a scrub (R99) -/

/-- What a later state keeps of a test. -/
theorem State.scrubTested.later (h : s.scrubTested u) (hs : s.keys.outstanding = none)
    (hi : ∀ n forced, u.scrubIssued n forced → t.scrubIssued n forced)
    (hn : u.keys.outstanding = none → t.keys.outstanding = none) (hp : t.keys.scrubPointer = u.keys.scrubPointer) :
    s.scrubTested t := by
  unfold State.scrubTested
  rw [hp]
  refine ⟨fun hw => ?_, fun hw ho => ⟨fun hov => ?_, fun hno => ⟨fun hq => ?_, fun hq i m hi' hm hmat hfirst => ?_⟩⟩⟩
  · obtain ⟨h1, h2⟩ := h.1 hw
    exact ⟨(hn (h1.trans hs)).trans hs.symm, h2⟩
  · obtain ⟨m, hm, hiss, hptr⟩ := (h.2 hw ho).1 hov
    exact ⟨m, hm, hi _ _ hiss, hptr⟩
  · obtain ⟨h1, h2⟩ := ((h.2 hw ho).2 hno).1 hq
    exact ⟨hn h1, h2⟩
  · obtain ⟨h1, h2⟩ := ((h.2 hw ho).2 hno).2 hq i m hi' hm hmat hfirst
    exact ⟨hi _ _ h1, h2⟩

/-- The test that follows a scrub outside INIT, the engine and the arbiter having gone on, while no job of a context is
queued. -/
theorem State.scrubTest_afterEnd (hb : (s.engine e).isIdle = false) (hs : s.keys.outstanding = none)
    (hq : ∀ k ∈ s.cipher.queue, ∀ c, k.owner ≠ .context c) : s.scrubTested (s.scrubTest.afterEnd e) := by
  have hqueue : ∀ k ∈ (s.scrubTest.engineEnd e).cipher.queue, ∀ c, k.owner ≠ .context c := fun k hk =>
    ((State.scrubTest_goesOn (s := s) (P := fun k => ∀ c, k.owner ≠ .context c) fun _ _ _ _ => nofun).queue k hk).elim
      (hq k) id
  obtain ⟨hptr, hnone⟩ := State.arbitrate_keys hqueue e
  refine s.scrubTest_tested.later hs (fun n forced ⟨⟨r, hr⟩, _⟩ => ?_) hnone hptr
  obtain ⟨r', hr'⟩ := State.arbitrate_outstanding (s := s.scrubTest.engineEnd e) hr e
  have hjob := State.someJob_arbitrate e (fun _ _ hj => hj) (State.someJob_engineEnd e
    (State.scrubTest_scrubs (off := some e) (fun d hd => Option.some.inj hd ▸ hb) hs hr))
  obtain ⟨j, hj, hjs⟩ := hjob
  exact ⟨⟨r', hr'⟩, j, hj.imp_right fun ⟨d, _, hd⟩ => ⟨d, hd⟩, hjs⟩

/-- The scrubs that the end of one may issue: those of slots holding material, and of the slots left on the check
list. -/
theorem State.afterScrub_elsewhere (hs : s.allowsScrubs P) (hi : ∀ m ∈ s.keys.initCheck.drop 1, P (scrubJob m true)) :
    JobsGoOn P s s.afterScrub := by
  unfold State.afterScrub
  dsimp only
  split
  · unfold State.continueInitCheck
    split
    · exact .after (State.scrubTest_goesOn (s := { s with device := _, keys := _ }) hs) rfl
    · rename_i m l hl
      have hm : m ∈ s.keys.initCheck.drop 1 := (show s.keys.initCheck.drop 1 = m :: l from hl) ▸ List.mem_cons_self
      exact .after (State.issueScrub_goesOn _ (hi m hm)) rfl
  · exact .after (State.scrubTest_goesOn (s := s.setOutstanding none) hs) rfl

end Sys2Proof.Machine
end

section
/-! PROOF. The end of a SCRUB: the slot renewed, faulted or left, and what follows (R93 to R97, R99 to R103, R138,
R176). -/

namespace Sys2Proof.Machine

variable {s t : State} {n : SlotNo} {e : EngineNo} {k : Key} {j : Job}

/-! ### The completion (R100, R132) -/

/-- What follows the judgement: the check goes on or a test is made, then the engine and the arbiter go on. -/
def State.scrubEnded (s : State) (e : EngineNo) : State := s.afterScrub.afterEnd e

theorem exec_scrubJobCompletion (h : (s.engine e).state = .busy (some k) j) (hk : j.kind = .scrub)
    (hkey : j.key = .slot n) : exec (.scrubJobCompletion e) s =
      .next ((s.judgeScrub n (if j.discard then none else some (chain k j.input))).scrubEnded e) := by
  refine congrArg Host.Outcome.next ((State.completeJob_busy h hk State.scrubEnd).trans ?_)
  have hout : j.output (some k) = some (chain k j.input) := by simp [Job.output, hk]
  rw [hout]
  unfold State.scrubEnd
  rw [hkey]
  rfl

/-- A discarded result judges no slot, and neither does one for a slot that holds its material no longer (R100). -/
theorem State.judgeScrub_left {out : Option Block} (h : out = none ∨ (s.slot n).holdsMaterial = false) :
    s.judgeScrub n out = s := by
  unfold State.judgeScrub
  split
  · rfl
  · exact if_neg fun hm => Bool.false_ne_true ((h.resolve_left nofun).symm.trans hm)

theorem State.judgeScrub_passed {b : Block} (hm : (s.slot n).holdsMaterial = true)
    (hb : firstThree b = (s.slot n).kcv) :
    s.judgeScrub n (some b) = s.setSlot n { s.slot n with lastCheck := s.clock.laneTime } :=
  (if_pos hm).trans (if_pos hb)

theorem State.judgeScrub_failed {b : Block} (hm : (s.slot n).holdsMaterial = true)
    (hb : firstThree b ≠ (s.slot n).kcv) :
    s.judgeScrub n (some b) = s.faultSlot n :=
  (if_pos hm).trans (if_neg hb)

/-- What follows the judgement is work on jobs, but for the device state and the check list. -/
theorem State.scrubEnded_frame (s : State) (e : EngineNo) : ∃ d l,
    JobsOnly { s with device := d, keys := { s.keys with initCheck := l, outstanding := none } } (s.scrubEnded e) := by
  obtain ⟨d, l, hj⟩ := s.afterScrub_frame
  exact ⟨d, l, hj.trans (State.afterEnd_jobsOnly s.afterScrub e)⟩

/-! ### The check passes (R100) -/

/-- The part with the slot's last-check tick renewed. -/
def State.renewed (s : State) (n : SlotNo) : State := s.setSlot n { s.slot n with lastCheck := s.clock.laneTime }

/-- Outside INIT the test for the next scrub follows at once (R99). -/
theorem State.renewed_tested (hb : (s.engine e).isIdle = false) (hd : s.device ≠ .init)
    (hq : ∀ k ∈ s.cipher.queue, ∀ c, k.owner ≠ .context c) :
    ((s.renewed n).setOutstanding none).scrubTested ((s.renewed n).scrubEnded e) := by
  have hafter : (s.renewed n).afterScrub = ((s.renewed n).setOutstanding none).scrubTest := if_neg fun h => hd h.1
  unfold State.scrubEnded
  rw [hafter]
  exact State.scrubTest_afterEnd (s := (s.renewed n).setOutstanding none) hb rfl hq

/-! ### The check fails (R102) -/

/-- The slot whose check has failed. -/
def Slot.faulted (x : Slot) : Slot := { x with state := .faulted, material := none }

/-- The part with the slot faulted and the event raised, before the rest of the part is told. -/
def State.slotFaulted (s : State) (n : SlotNo) : State := (s.changeSlot n (s.slot n).faulted).raise .scrubFault

theorem State.slotFaulted_eq (s : State) (n : SlotNo) : s.slotFaulted n = { s with
    keys := { s.keys with slots := tableSet s.keys.slots n (s.slot n).faulted, keyChange := true }
    events := s.events.record Event.scrubFault.number
    lane := { s.lane with
      responses := s.lane.responses ++ (s.changeSlot n (s.slot n).faulted).alertsOf .scrubFault } } :=
  State.raise_eq _ _

theorem State.slotFaulted_slot (s : State) (n m : SlotNo) :
    (s.slotFaulted n).slot m = if m = n then (s.slot n).faulted else s.slot m := by
  rw [State.slotFaulted_eq]
  exact tableGet_tableSet _ _ _ _

theorem State.slotFaulted_struck (h : s.loadsElsewhere n) : (s.slotFaulted n).struck n (s.slot n) := by
  have hslot : (s.slotFaulted n).slot n = (s.slot n).faulted := (s.slotFaulted_slot n n).trans (if_pos rfl)
  refine ⟨?_, ?_, by rw [hslot]; simp [Slot.holdsMaterial, Slot.faulted], by rw [hslot]; rfl, by rw [hslot]; rfl⟩
  · rw [State.slotFaulted_eq]
    exact h
  · rw [State.slotFaulted_eq]

/-- A counter counts to its end and stays there (R168). -/
theorem countUp_toNat (b : BitVec 16) : (countUp b).toNat = min 65535 (b.toNat + 1) := by
  unfold countUp
  split <;> bv_omega

/-! ### Engines, after the check has failed (R138) -/

/-- The engine of the scrub, its key closed at the end of its job. -/
theorem State.engineEnd_closing {r : Option Key} (h : (s.engine e).state = .busy r j)
    (hc : (s.engine e).closeAtEnd = true) : (s.engineEnd e).engine e = Engine.closed := by
  refine (State.engine_setEngine_self s e _).trans ?_
  rw [h, hc]
  rfl

theorem Engine.atLoss_of_busy {x : Engine} {r : Option Key} (h : x.state = .busy r j) (hk : j.key = .slot n) :
    x.atLoss n = { x with state := .busy r { j with discard := true }, closeAtEnd := true } := by
  unfold Engine.atLoss
  rw [h]
  exact if_pos hk

end Sys2Proof.Machine
end

section
/-! PROOF. The end of a SCRUB, concluded: all that a failed check brings about, and the three outcomes (R93 to R97, R99
to R103, R138, R176). -/

namespace Sys2Proof.Machine

variable {s t : State} {n : SlotNo} {e : EngineNo} {k : Key} {j : Job}

/-! ### The part after a failed check (R102) -/

/-- The withdrawal, from its first notices on. -/
theorem State.faultSlot_withdrawn (h : s.loadsElsewhere n) :
    Withdraws n (fun c => (∃ j ∈ s.cipher.queue, j.key = .slot n ∧ j.tells c) ∨
        ((s.slot n).role = some .tagMaster ∧ (s.slotFaulted n).masterHit n c))
      ((s.slotFaulted n).lossBegun n (s.slot n)) (s.faultSlot n) := by
  have hw := (State.slotFaulted_struck h).withdrawn
  rwa [show (s.slotFaulted n).cipher = s.cipher by rw [State.slotFaulted_eq]] at hw

/-- The part at the first notices. -/
theorem State.faultBegun_eq (s : State) (n : SlotNo) : (s.slotFaulted n).lossBegun n (s.slot n) = { s with
    keys := { s.keys with
      slots := tableSet s.keys.slots n (s.slot n).faulted
      keyChange := true
      writeGen := if (s.slot n).role = some .record ∧ s.keys.writeGen = some (s.slot n).generation then none
        else s.keys.writeGen }
    cache := if (s.slot n).role = some .tagMaster then
      s.cache.filter fun y => !(y.issuer == (s.slot n).issuer && y.generation == (s.slot n).generation) else s.cache
    cipher := { s.cipher with
      engines := tableMap (fun _ y => y.atLoss n) s.cipher.engines
      queue := s.cipher.queue.filter fun j => !j.names n }
    events := s.events.record Event.scrubFault.number
    lane := { s.lane with
      responses := s.lane.responses ++ (s.changeSlot n (s.slot n).faulted).alertsOf .scrubFault } } := by
  rw [State.lossBegun_eq (by rw [State.slotFaulted_eq]), State.slotFaulted_eq]

theorem State.faultBegun_engine (s : State) (n : SlotNo) (d : EngineNo) :
    ((s.slotFaulted n).lossBegun n (s.slot n)).engine d = (s.engine d).atLoss n := by
  rw [State.faultBegun_eq]
  exact State.engine_tellEngines s _ d

/-- What the withdrawal leaves. -/
theorem State.faultSlot_frame (h : s.loadsElsewhere n) : s.faultSlot n = { s with
    passes := (s.faultSlot n).passes, cipher := (s.faultSlot n).cipher, air := (s.faultSlot n).air
    recent := (s.faultSlot n).recent, cache := (s.faultSlot n).cache, events := (s.faultSlot n).events
    mgmt := (s.faultSlot n).mgmt
    lane := { s.lane with
      responses := (s.faultSlot n).lane.responses, reports := (s.faultSlot n).lane.reports }
    keys := { (s.faultSlot n).keys with rootLock := s.keys.rootLock, initCheck := s.keys.initCheck } } := by
  have hw := State.faultSlot_withdrawn h
  conv_lhs => rw [hw.rest]
  rw [← hw.writeGen, ← hw.cache, State.faultBegun_eq]

/-- The engine of the scrub holds its job until the part has been told. -/
theorem State.faultSlot_engine_held (h : s.loadsElsewhere n) {r : Option Key} (hb : (s.engine e).state = .busy r j)
    (hkey : j.key = .slot n) : ((s.faultSlot n).engine e).isIdle = false := by
  have hbegun := (State.faultBegun_engine s n e).trans (Engine.atLoss_of_busy hb hkey)
  obtain ⟨hstate, -⟩ := ((State.slotFaulted_struck h).goesOn.engines e).held (by rw [hbegun]; rfl)
  exact (Engine.isIdle_of_state hstate).trans (by rw [hbegun]; rfl)

/-- The engines and the queue from the first notices to the end of the scrub. -/
theorem State.faulted_goesOn (h : s.loadsElsewhere n) (hl : n ∉ s.keys.initCheck.drop 1) :
    (s.faultSlot n).allowsScrubs (Job.elsewhere n) ∧
      JobsGoOn (Job.elsewhere n) ((s.slotFaulted n).lossBegun n (s.slot n)) (s.faultSlot n).afterScrub := by
  have hw := State.faultSlot_withdrawn h
  have hs := (hw.bereft (State.slotFaulted_struck h).bereft_begun).allowsScrubs
  have hlist : (s.faultSlot n).keys.initCheck = s.keys.initCheck :=
    hw.initCheck.trans (by rw [State.faultBegun_eq])
  refine ⟨hs, (State.slotFaulted_struck h).goesOn.trans (State.afterScrub_elsewhere hs fun m hm hkey => ?_)⟩
  have hm' : m ∈ s.keys.initCheck.drop 1 := hlist ▸ hm
  exact hl (KeyId.slot.inj hkey ▸ hm')

/-- The engines and the queue in the end (R138). -/
theorem State.faulted_engines (h : s.loadsElsewhere n) (hl : n ∉ s.keys.initCheck.drop 1) {r : Option Key}
    (hb : (s.engine e).state = .busy r j) (hkey : j.key = .slot n) {t : State} (ht : t = (s.faultSlot n).scrubEnded e) :
    (∀ k ∈ t.cipher.queue, k.elsewhere n) ∧ (∀ d, d ≠ e → (s.engine d).afterLoss n (t.engine d)) ∧
      ((t.engine e).state = .closedIdle ∨ ∃ r j', (t.engine e).state = .opening r j' ∧ j'.key ≠ .slot n) ∧
      (t.engine e).loss = false ∧ (t.engine e).closeAtEnd = false := by
  subst ht
  obtain ⟨hs, hgo⟩ := State.faulted_goesOn h hl
  have hqueue : ∀ k ∈ (s.faultSlot n).afterScrub.cipher.queue, k.elsewhere n := fun k hk =>
    (hgo.queue k hk).elim (fun hq hname => by
      rw [State.faultBegun_eq] at hq
      have hn := (List.mem_filter.mp hq).2
      rw [Job.names_iff.mpr hname] at hn
      cases hn) id
  have hslots : (s.faultSlot n).afterScrub.keys.slots = (s.faultSlot n).keys.slots := by
    obtain ⟨d, l, hj⟩ := (s.faultSlot n).afterScrub_frame
    exact hj.slots
  have hscrubs : ((s.faultSlot n).afterScrub.engineEnd e).allowsScrubs (Job.elsewhere n) :=
    State.allowsScrubs_of_slots hs ((State.engineEnd_jobsOnly _ e).slots.trans hslots)
  have hbegun := (State.faultBegun_engine s n e).trans (Engine.atLoss_of_busy hb hkey)
  obtain ⟨hstate, -, hclosing⟩ := (hgo.engines e).held (by rw [hbegun]; rfl)
  have hclosed := State.engineEnd_closing (hstate.trans (congrArg Engine.state hbegun)) (hclosing (by rw [hbegun]))
  obtain ⟨-, hloss, hclose, hnext, hother⟩ := State.arbitrate_closed hclosed hscrubs
  refine ⟨State.arbitrate_queue hscrubs (fun _ hk => hk) hqueue e, fun d hd => ?_,
    hnext.imp_right fun ⟨m, j', hj', hmem⟩ => ⟨m, j', hj', hqueue j' hmem⟩, hloss, hclose⟩
  refine Engine.afterLoss_of_goesOn ?_
  have hd' := hother d hd
  rw [show ((s.faultSlot n).afterScrub.engineEnd e).engine d = (s.faultSlot n).afterScrub.engine d from
    tableGet_tableSet_ne _ _ hd] at hd'
  exact (State.faultBegun_engine s n d) ▸ (hgo.engines d).trans hd'

/-! ### What the part shows after the scrub (R93 to R96, R102, R114) -/

section
variable {d : DeviceState} {l : List SlotNo}
  (hj : JobsOnly { s.faultSlot n with
    device := d, keys := { (s.faultSlot n).keys with initCheck := l, outstanding := none } } t)
include hj

/-- SCRUB-FAULT stands, counted once (R102, R168). -/
theorem State.faulted_events (h : s.loadsElsewhere n) : t.events.flag Event.scrubFault.number = true ∧
    (tableGet t.events.counters Event.scrubFault.number).toNat =
      min 65535 ((tableGet s.events.counters Event.scrubFault.number).toNat + 1) := by
  have hw := State.faultSlot_withdrawn h
  rw [show t.events = (s.faultSlot n).events from hj.events, hw.aside.flag, hw.aside.counter, State.faultBegun_eq,
    Events.flag_record, Events.counter_record, if_pos rfl, countUp_toNat]
  exact ⟨by simp, rfl⟩

/-- What the withdrawal tells the passes (R93 to R96). -/
theorem State.faulted_lossTold (h : s.loadsElsewhere n) (hq : ∀ k ∈ t.cipher.queue, k.elsewhere n) :
    s.lossTold t n (s.slot n) := by
  have hlater : PassesGoOn (fun _ => False) (s.faultSlot n) (State.passesOf (s.faultSlot n) t) :=
    ⟨rfl, by rw [show (State.passesOf (s.faultSlot n) t).lane.reports = t.lane.reports from rfl, hj.lane],
      fun c _ => .inl (hj.contexts c), fun c hc => hj.context_none hc, le_rfl⟩
  have htold := (State.slotFaulted_struck h).lossTold hlater (by rw [hj.keys]; rfl) (by rw [hj.cache]; rfl) hq
  refine State.lossTold_of htold ?_ ?_ ?_ ?_ ?_ ?_
  all_goals rw [State.slotFaulted_eq]

/-- What it leaves of the loads (R95, R114). -/
theorem State.faulted_lossLoads (h : s.loadsElsewhere n) : s.lossLoads t n := by
  have hstruck := State.slotFaulted_struck h
  have heq := State.slotFaulted_eq s n
  have hslot : ∀ m, t.slot m = (s.faultSlot n).slot m := hj.slot
  have hmgmt : t.mgmt = (s.faultSlot n).mgmt := hj.mgmt
  refine ⟨fun hno => ?_, fun f w tag code hq hp hne hi => ?_⟩
  · obtain ⟨hm, hs⟩ := hstruck.loads_kept (by rw [heq]; exact hno)
    refine ⟨hmgmt.trans (hm.trans (by rw [heq])), fun m hmn => ?_⟩
    exact ((hslot m).trans (hs m)).trans ((s.slotFaulted_slot n m).trans (if_neg hmn))
  · have hfail : (s.slotFaulted n).loadFailed t f tag code :=
      (hstruck.load_failed (by rw [heq]; exact hq) (by rw [heq]; exact hp) (by rw [heq]; exact hi)).goesOn hmgmt hslot
        (by rw [hj.lane]; exact List.prefix_refl _)
    obtain ⟨h1, h2, h3, h4, h5, resp, hmem, hfields⟩ := hfail
    refine ⟨h1, h2, h3, h4, fun m hmn hmf => ?_, resp, hmem.imp_left (mem_drop_of_prefix ?_), hfields⟩
    · exact (h5 m hmf).trans ((s.slotFaulted_slot n m).trans (if_neg hmn))
    · rw [heq]
      exact List.prefix_append _ _

/-- What it leaves of the rest: clock, lines, profile, lock and requests stay (R102). -/
theorem State.faulted_frame (h : s.loadsElsewhere n) : t = { s with
    device := t.device, passes := t.passes, cipher := t.cipher, air := t.air, recent := t.recent
    cache := t.cache, events := t.events, mgmt := t.mgmt
    lane := { s.lane with responses := t.lane.responses, reports := t.lane.reports }
    keys := { t.keys with rootLock := s.keys.rootLock } } := by
  have hframe := State.faultSlot_frame h
  have hlock : t.keys.rootLock = s.keys.rootLock := by
    rw [hj.keys]
    show (s.faultSlot n).keys.rootLock = _
    rw [hframe]
  rw [← hlock, hj.device, hj.air, hj.recent, hj.cache, hj.events, hj.mgmt, hj.lane]
  conv_lhs => rw [hj.rest]
  dsimp only
  conv_lhs => rw [hframe]

end

/-- The INIT check goes on, or a test for a scrub is made (R99, R103, R176). -/
theorem State.faulted_checkGoesOn (h : s.loadsElsewhere n) {r : Option Key} (hb : (s.engine e).state = .busy r j)
    (hkey : j.key = .slot n) : s.checkGoesOn ((s.faultSlot n).scrubEnded e) := by
  have hframe := State.faultSlot_frame h
  have hgoes := State.afterScrub_checkGoesOn (State.faultSlot_engine_held h hb hkey)
  unfold State.checkGoesOn at hgoes ⊢
  rw [show (s.faultSlot n).device = s.device by rw [hframe],
    show (s.faultSlot n).keys.initCheck = s.keys.initCheck by rw [hframe]] at hgoes
  exact hgoes

/-- Settles O33: the judgement of the result, and for each of its outcomes what is left of the slot and told. -/
theorem scrubJudgesSlot : Obligations.ScrubJudgesSlot := by
  intro e s k j n hb hk ho hkey
  have hbusy : (s.engine e).isIdle = false := by simp [Engine.isIdle, hb]
  rw [exec_scrubJobCompletion hb hk hkey]
  refine ⟨fun hd hm hkcv => ?_, fun hd hm hkcv hl hloads => ?_, fun hleft => ⟨_, rfl, ?_⟩⟩
  · rw [hd, if_neg Bool.false_ne_true, State.judgeScrub_passed hm hkcv]
    obtain ⟨d, l, hj⟩ := (s.renewed n).scrubEnded_frame e
    have hslots : ((s.renewed n).scrubEnded e).keys.slots = (s.renewed n).keys.slots := hj.slots
    refine ⟨_, rfl, (hj.slot n).trans (State.slot_setSlot_self _ _ _),
      fun m hm => (hj.slot m).trans ((s.slot_setSlot n m _).trans (if_neg hm)), ?_, ?_, fun hd hq => ?_⟩
    · rw [show (s.setSlot n _).scrubEnded e = (s.renewed n).scrubEnded e from rfl, hslots]
      exact (s.renewed n).afterScrub_jobsApart e
    · exact State.afterScrub_checkGoesOn (s := s.renewed n) hbusy
    · rw [show (s.setSlot n _).scrubEnded e = (s.renewed n).scrubEnded e from rfl, hslots]
      exact State.renewed_tested hbusy hd hq
  · rw [hd, if_neg Bool.false_ne_true, State.judgeScrub_failed hm hkcv]
    obtain ⟨hqueue, hother, hown, hloss, hclose⟩ := State.faulted_engines hloads hl hb hkey rfl
    obtain ⟨d, l, hj⟩ := (s.faultSlot n).scrubEnded_frame e
    obtain ⟨hflag, hcount⟩ := State.faulted_events hj hloads
    have hw := State.faultSlot_withdrawn hloads
    refine ⟨_, rfl, (hj.slot n).trans (hw.slot.trans ?_), ?_, hflag, hcount, State.faulted_lossTold hj hloads hqueue,
      State.faulted_lossLoads hj hloads, fun c hc => hj.context_none (hw.free ?_), hother, hown, hloss, hclose,
      State.faulted_frame hj hloads, State.faulted_checkGoesOn hloads hb hkey⟩
    · rw [State.faultBegun_eq]
      exact tableGet_tableSet_self _ _ _
    · rw [hj.keys]
      exact hw.keyChange (by rw [State.faultBegun_eq])
    · rw [State.faultBegun_eq]
      exact hc
  · rw [State.judgeScrub_left (hleft.imp_left fun hd => by rw [if_pos hd])]
    exact ⟨s.afterScrub_jobsApart e, State.afterScrub_checkGoesOn hbusy⟩

end Sys2Proof.Machine
end

section
/-! PROOF. The order of requests: what the two-part order and INIT refuse, and the codes that name none (R107, R165). -/

namespace Sys2Proof.Machine

variable {s : State} {q : Request} {rest : List Request}

/-! ### The row of each code (section 11.4) -/

/-- A code that names no request has the row of the unknown ones (R165 test 2). -/
theorem requestRow_of_unknown {code : Byte} (h : requestLength code = none) : requestRow code = .unknownRequestCode := by
  revert code
  decide

/-- The codes that name one, but READ-STATUS, the two partners and ZEROISE. -/
def orderedCodes : List Byte :=
  [0x02#8, 0x03#8, 0x04#8, 0x05#8, 0x06#8, 0x07#8, 0x08#8, 0x09#8,
   0x10#8, 0x12#8, 0x13#8, 0x15#8, 0x16#8, 0x17#8, 0x18#8, 0x19#8]

theorem mem_orderedCodes {code : Byte} (h : requestLength code ≠ none) (hs : code ≠ 0x01#8) (h2 : code ≠ 0x11#8)
    (hb : code ≠ 0x14#8) (hz : code ≠ 0x1A#8) : code ∈ orderedCodes := by
  revert code
  decide

/-- Each of these is judged by the two-part order and the device state before anything else (R165). -/
theorem exec_requestRow_ordered {code : Byte} (h : code ∈ orderedCodes) :
    ∃ judge, ∀ s, exec (requestRow code) s = .next (s.takeRequest code judge) := by
  simp only [orderedCodes, List.mem_cons, List.not_mem_nil, or_false] at h
  rcases h with rfl | rfl | rfl | rfl | rfl | rfl | rfl | rfl | rfl | rfl | rfl | rfl | rfl | rfl | rfl | rfl
  all_goals exact ⟨_, fun _ => rfl⟩

/-! ### The requests that are judged by rules of their own -/

theorem State.exec_unknownRequestCode (ht : s.takes q rest) (hc : requestLength q.code = none) :
    exec .unknownRequestCode s = .next (underOrder (fun q s => s.respond q .badField) q (s.left rest)) :=
  congrArg Host.Outcome.next (State.take_of_takes ht (by rw [hc]; rfl) _)

theorem State.exec_rootPart2 (ht : s.takes q rest) (hc : q.code = 0x11#8) :
    exec .rootPart2 s = .next (judgeRootPart2 q (s.left rest)) :=
  congrArg Host.Outcome.next (State.take_of_takes ht (by rw [hc]; rfl) _)

theorem State.exec_keyLoadB (ht : s.takes q rest) (hc : q.code = 0x14#8) :
    exec .keyLoadB s = .next (judgeKeyLoadB q (s.left rest)) :=
  congrArg Host.Outcome.next (State.take_of_takes ht (by rw [hc]; rfl) _)

/-- ROOT-PART-2 is a partner after a root pending alone (R107). -/
theorem judgeRootPart2_of_no_root (h : ∀ c1, s.mgmt.twoPart ≠ .root c1) :
    judgeRootPart2 q s = s.discardTwoPart.respond q .order := by
  unfold judgeRootPart2
  split
  · exact absurd ‹_› (h _)
  · rfl
  · rfl

/-- KEY-LOAD-B is a partner after a load pending of the slot it names alone (R107). -/
theorem judgeKeyLoadB_of_other_slot (h : ∀ f, s.mgmt.twoPart = .load f → (byteAt q.params 0).toNat ≠ f.slot.val) :
    judgeKeyLoadB q s = s.discardTwoPart.respond q .order := by
  unfold judgeKeyLoadB
  split
  · rename_i f hp
    refine if_neg fun hn => h f hp ?_
    unfold slotOf at hn
    split at hn
    · exact congrArg Fin.val (Option.some.inj hn)
    · cases hn
  · rfl
  · rfl

/-! ### Refusals -/

@[simp] theorem State.discardTwoPart_lane (s : State) : s.discardTwoPart.lane = s.lane := by
  unfold State.discardTwoPart
  split
  · rfl
  · rfl
  · rfl

/-- A refusal that discards a first part is answered from what is left (R106, R107). -/
theorem State.discarded_refused (ht : s.takes q rest) {st : Status} (hst : st.carriesData = false) :
    (s.left rest).discardTwoPart.respond q st = (s.left rest).discardTwoPart.answered q st [] := by
  rw [State.respond_of_room (by rw [State.discardTwoPart_lane]; exact ht.2.2.2.2), if_neg (by rw [hst]; decide)]

/-- While a first part is pending, a request that is neither its partner nor ZEROISE discards it and is refused with
ORDER (R107). -/
theorem State.exec_out_of_order (ht : s.takes q rest) (hp : s.mgmt.twoPart ≠ .idle)
    (hroot : q.code = 0x11#8 → ∀ c1, s.mgmt.twoPart ≠ .root c1)
    (hload : q.code = 0x14#8 → ∀ f, s.mgmt.twoPart = .load f → (byteAt q.params 0).toNat ≠ f.slot.val)
    (hz : q.code ≠ 0x1A#8) :
    exec (requestRow q.code) s = .next ((s.left rest).discardTwoPart.answered q .order []) := by
  rw [← State.discarded_refused ht rfl]
  by_cases hl : requestLength q.code = none
  · rw [requestRow_of_unknown hl, State.exec_unknownRequestCode ht hl]
    exact congrArg Host.Outcome.next (if_neg hp)
  by_cases h1 : q.code = 0x01#8
  · rw [h1]
    exact congrArg Host.Outcome.next ((State.take_of_takes ht (by rw [h1]; rfl) _).trans (if_neg hp))
  by_cases h2 : q.code = 0x11#8
  · rw [h2]
    exact (State.exec_rootPart2 ht h2).trans (congrArg Host.Outcome.next (judgeRootPart2_of_no_root (hroot h2)))
  by_cases hb : q.code = 0x14#8
  · rw [hb]
    exact (State.exec_keyLoadB ht hb).trans (congrArg Host.Outcome.next (judgeKeyLoadB_of_other_slot (hload hb)))
  · obtain ⟨judge, hj⟩ := exec_requestRow_ordered (mem_orderedCodes hl h1 h2 hb hz)
    rw [hj, State.takeRequest_out_of_order ht rfl hp]

/-- A partner with nothing pending is refused with ORDER, and there is nothing to discard (R107). -/
theorem State.exec_partner_alone (ht : s.takes q rest) (hp : s.mgmt.twoPart = .idle)
    (hc : q.code = 0x11#8 ∨ q.code = 0x14#8) :
    exec (requestRow q.code) s = .next ((s.left rest).answered q .order []) := by
  have hd : (s.left rest).discardTwoPart = s.left rest := State.discardTwoPart_idle hp
  rw [← State.respond_refusal ht rfl, ← hd]
  rcases hc with hc | hc
  · rw [hc]
    exact (State.exec_rootPart2 ht hc).trans
      (congrArg Host.Outcome.next (judgeRootPart2_of_no_root fun c1 h => nomatch hp.symm.trans h))
  · rw [hc]
    exact (State.exec_keyLoadB ht hc).trans
      (congrArg Host.Outcome.next (judgeKeyLoadB_of_other_slot fun f h => nomatch hp.symm.trans h))

/-- In INIT a code that names a request, but READ-STATUS and the partners, is refused with STATE (R165 test 3). -/
theorem State.exec_in_init (ht : s.takes q rest) (hp : s.mgmt.twoPart = .idle) (hd : s.device = .init)
    (hl : requestLength q.code ≠ none) (h1 : q.code ≠ 0x01#8) (h2 : q.code ≠ 0x11#8) (hb : q.code ≠ 0x14#8) :
    exec (requestRow q.code) s = .next ((s.left rest).answered q .state []) := by
  rw [← State.respond_refusal ht rfl]
  by_cases hz : q.code = 0x1A#8
  · rw [hz]
    exact congrArg Host.Outcome.next ((State.take_of_takes ht (by rw [hz]; rfl) _).trans (if_pos hd))
  · obtain ⟨judge, hj⟩ := exec_requestRow_ordered (mem_orderedCodes hl h1 h2 hb hz)
    rw [hj, State.takeRequest_in_init ht rfl hp hd]

/-- Settles O38: what is refused with a first part pending by `State.exec_out_of_order`, the part that was pending read
off; with nothing pending, the lone partner, the request in INIT and the unknown code in turn. -/
theorem orderStateAndUnknownCodes : Obligations.OrderStateAndUnknownCodes := by
  intro s q rest ht
  refine ⟨fun c1 hp h2 hz => ?_, fun f hp hz hb => ?_, fun hp => ⟨State.exec_partner_alone ht hp,
    fun hd hl hc => ?_, fun hl => ?_⟩⟩
  · rw [State.exec_out_of_order ht (by rw [hp]; nofun) (fun h => absurd h h2)
      (fun _ f hf => nomatch hp.symm.trans hf) hz, State.discardTwoPart_root (s := s.left rest) hp]
    rfl
  · have hslot : q.code = 0x14#8 → ∀ g, s.mgmt.twoPart = .load g → (byteAt q.params 0).toNat ≠ g.slot.val := by
      intro hc g hg
      obtain rfl := TwoPart.load.inj (hp.symm.trans hg)
      exact hb hc
    rw [State.exec_out_of_order ht (by rw [hp]; nofun) (fun _ c1 hc => nomatch hp.symm.trans hc) hslot hz,
      State.discardTwoPart_load (s := s.left rest) hp]
    rfl
  · simp only [List.mem_cons, List.not_mem_nil, or_false, not_or] at hc
    obtain ⟨h1, h2, hb⟩ := hc
    exact State.exec_in_init ht hp hd hl h1 h2 hb
  · rw [State.exec_unknownRequestCode ht hl]
    exact congrArg Host.Outcome.next ((if_pos hp).trans (State.respond_refusal ht rfl))

end Sys2Proof.Machine
end

section
/-! PROOF. Loading keys: the root in two parts and its lock, and KEY-LOAD-A with its partner (R105, R107 to R113). -/

namespace Sys2Proof.Machine

variable {s : State} {q : Request} {rest : List Request} {n : SlotNo}

/-! ### ROOT-PART-1 and LOCK-ROOT (R105, R108, R110) -/

theorem State.exec_rootPart1 (ht : s.takes q rest) (hu : s.unhindered) (hc : q.code = 0x10#8) :
    exec .rootPart1 s = .next (judgeRootPart1 q (s.left rest)) :=
  congrArg Host.Outcome.next (State.takeRequest_of_takes ht hc hu.1 hu.2 judgeRootPart1)

theorem State.exec_lockRoot (ht : s.takes q rest) (hu : s.unhindered) (hc : q.code = 0x12#8) :
    exec .lockRoot s = .next (judgeLockRoot q (s.left rest)) :=
  congrArg Host.Outcome.next (State.takeRequest_of_takes ht hc hu.1 hu.2 judgeLockRoot)

/-- Settles O45: the branches of ROOT-PART-1, then the two of LOCK-ROOT. -/
theorem rootPart1AndLockRoot : Obligations.RootPart1AndLockRoot := by
  intro s q rest ht hu
  refine ⟨fun hc => ?_, fun hc => ?_⟩
  · rw [State.exec_rootPart1 ht hu hc]
    unfold judgeRootPart1
    refine ⟨fun hd => ?_, fun hd hs => ?_, fun hd hs => ?_⟩
    · rw [if_pos (by exact hd)]
      exact congrArg Host.Outcome.next (State.respond_refusal ht rfl)
    · rw [if_neg (by rw [State.left_device, hd]; nofun), if_pos (by exact hs)]
      exact congrArg Host.Outcome.next (State.respond_refusal ht rfl)
    · rw [if_neg (by rw [State.left_device, hd]; nofun), if_neg (by rw [State.left_slot, hs]; decide),
        State.respond_of_room (by exact ht.2.2.2.2)]
      rfl
  · rw [State.exec_lockRoot ht hu hc]
    unfold judgeLockRoot
    refine ⟨fun hs he => ?_, fun hs => ?_⟩
    · rw [if_pos (by rw [State.left_slot]; simp [Slot.isActive, hs, he]), State.respond_of_room (by exact ht.2.2.2.2)]
      rfl
    · rw [if_neg (by rw [State.left_slot]; simp [Slot.isActive, hs])]
      exact congrArg Host.Outcome.next (State.respond_refusal ht rfl)

/-! ### The partners (R107, R109, R113) -/

/-- A job of the management unit that arrives is noted in the engines and the queue alone (R127, R135). -/
theorem State.arrive_of_management {j : Job} (hj : j.owner = .management) (s : State) :
    s.arrive j = { s with cipher := (s.arrive j).cipher } := by
  unfold State.arrive
  split
  · simp only [State.dispatch, State.jobStarted, hj]
    rfl
  · rfl

/-- A partner accepted holds the unit, and its job stands (R105, R109, R113). -/
theorem State.takeInHand_issues (w : HeldWork) (kind : JobKind) (key : KeyId) (input extra : List Block) :
    ∃ t, ((s.left rest).takeInHand q w).arrive (freshJob kind .management key input extra) = t ∧
      t.mgmt = { s.mgmt with inHand := some (InHand.mk q.tag q.code w) } ∧
      t.hasJob kind .management key input extra ∧
      t = { s.left rest with mgmt := t.mgmt, cipher := t.cipher } := by
  have hcipher := State.arrive_of_management (j := freshJob kind .management key input extra) rfl
    ((s.left rest).takeInHand q w)
  have hmgmt := (((s.left rest).takeInHand q w).arrive_jobsOnly (freshJob kind .management key input extra)).mgmt
  refine ⟨_, rfl, hmgmt, (State.hasJob_iff _ _ _ _ _ _).mpr
    (State.someJob_arrive _ (by nofun) (.inr ⟨rfl, rfl, rfl, rfl, rfl⟩)), ?_⟩
  rw [hmgmt]
  exact hcipher

theorem judgeRootPart2_of_root {c1 : Block} (hp : s.mgmt.twoPart = .root c1) (hd : s.device ≠ .init) :
    judgeRootPart2 q s = startCombine c1 q s := by
  unfold judgeRootPart2
  rw [hp]
  exact if_neg hd

theorem judgeKeyLoadB_of_load {f : LoadFields} (hp : s.mgmt.twoPart = .load f) (hd : s.device ≠ .init)
    (hn : (byteAt q.params 0).toNat = f.slot.val) : judgeKeyLoadB q s = startUnwrap f q s := by
  unfold judgeKeyLoadB
  rw [hp]
  dsimp only
  rw [if_pos (slotOf_eq_some hn)]
  exact if_neg hd

/-- Settles O46: each partner's job by `State.takeInHand_issues`; without its root the load is discarded. -/
theorem partnersIssueJobs : Obligations.PartnersIssueJobs := by
  intro s q rest ht hd
  refine ⟨fun c1 hc hp => ?_, fun f hc hp hn => ?_⟩
  · rw [State.exec_rootPart2 ht hc, judgeRootPart2_of_root (s := s.left rest) hp hd]
    obtain ⟨t, rfl, h⟩ := State.takeInHand_issues (s := s) (q := q) (rest := rest)
      (.rootPart2 (BitVec.ofNat 24 (field q.params 16 3))) .combine .rootCandidate [0] [c1, blockAt q.params 0]
    exact ⟨_, rfl, h⟩
  · rw [State.exec_keyLoadB ht hc, judgeKeyLoadB_of_load (s := s.left rest) hp hd hn]
    refine ⟨fun ha => ?_, fun ha => ?_⟩
    · obtain ⟨t, rfl, h⟩ := State.takeInHand_issues (s := s) (q := q) (rest := rest)
        (.keyLoadB (blockAt q.params 1)) .unwrap (.slot 0) [attributeBlock f] [blockAt q.params 1]
      exact ⟨_, congrArg Host.Outcome.next (if_pos ha), h⟩
    · rw [startUnwrap, if_neg (by rw [State.left_slot, ha]; nofun), State.discarded_refused ht rfl,
        State.discardTwoPart_load (s := s.left rest) hp]
      rfl

/-! ### KEY-LOAD-A (R111, R112) -/

theorem State.exec_keyLoadA (ht : s.takes q rest) (hu : s.unhindered) (hc : q.code = 0x13#8) :
    exec .keyLoadA s = .next (judgeKeyLoadA q (s.left rest)) :=
  congrArg Host.Outcome.next (State.takeRequest_of_takes ht hc hu.1 hu.2 judgeKeyLoadA)

/-- The status with which a KEY-LOAD-A for slot n is refused; none where every check passes (R111 checks 2 to 5). -/
def State.keyLoadRefusal (s : State) (a : KeyLoadA) (n : SlotNo) : Option Status :=
  if (s.slot n).state ≠ .empty then some .slotBusy
  else if a.fieldsGood = false then some .badField
  else if s.duplicates a = true then some .duplicate
  else if (s.slot 0).isActive = false then some .noRoot
  else none

/-- The part that has claimed slot n for a KEY-LOAD-A and holds its fields as load pending (R106, R112). -/
def State.claimedBy (s : State) (a : KeyLoadA) (n : SlotNo) : State :=
  { s with
    keys := { s.keys with slots := tableSet s.keys.slots n a.claimed, keyChange := true }
    mgmt := { s.mgmt with twoPart := .load (a.fields n) } }

/-- KEY-LOAD-A for a general slot: the refusal of its first failing check, or the slot claimed. -/
theorem judgeKeyLoadA_eq (hb : (keyLoadAOf q.params).slot.toNat = n.val) (hn : n ≠ 0) (s : State) :
    judgeKeyLoadA q s = (s.keyLoadRefusal (keyLoadAOf q.params) n).elim
      ((s.claimedBy (keyLoadAOf q.params) n).respond q .ok [slotByte n]) fun st => s.respond q st := by
  unfold judgeKeyLoadA State.keyLoadRefusal
  dsimp only
  rw [slotOf_general_eq_some hb hn]
  dsimp only
  by_cases he : (s.slot n).state = .empty
  · cases hf : (keyLoadAOf q.params).fieldsGood with
    | false => simp [he]
    | true =>
      cases hd : s.duplicates (keyLoadAOf q.params) with
      | true => simp [he]
      | false =>
        cases ha : (s.slot 0).isActive with
        | false => simp [he]
        | true => simp [he, State.claimedBy, State.changeSlot, State.setSlot, State.noteKeyChange]
  · simp [he]

/-- What a check refuses is answered so, and changes nothing. -/
theorem State.exec_keyLoadA_refused (ht : s.takes q rest) (hu : s.unhindered) (hc : q.code = 0x13#8)
    (hb : (keyLoadAOf q.params).slot.toNat = n.val) (hn : n ≠ 0) {st : Status} (hst : st.carriesData = false)
    (h : s.keyLoadRefusal (keyLoadAOf q.params) n = some st) :
    exec .keyLoadA s = .next ((s.left rest).answered q st []) := by
  rw [State.exec_keyLoadA ht hu hc, judgeKeyLoadA_eq hb hn,
    show (s.left rest).keyLoadRefusal (keyLoadAOf q.params) n = some st from h]
  exact congrArg Host.Outcome.next (State.respond_refusal ht hst)

/-- What passes the checks claims the slot. -/
theorem State.exec_keyLoadA_passed (ht : s.takes q rest) (hu : s.unhindered) (hc : q.code = 0x13#8)
    (hb : (keyLoadAOf q.params).slot.toNat = n.val) (hn : n ≠ 0)
    (h : s.keyLoadRefusal (keyLoadAOf q.params) n = none) :
    exec .keyLoadA s = .next (((s.left rest).claimedBy (keyLoadAOf q.params) n).answered q .ok
      [(keyLoadAOf q.params).slot]) := by
  rw [State.exec_keyLoadA ht hu hc, judgeKeyLoadA_eq hb hn,
    show (s.left rest).keyLoadRefusal (keyLoadAOf q.params) n = none from h, ← slotByte_eq hb]
  exact congrArg Host.Outcome.next (State.respond_of_room (by exact ht.2.2.2.2) _ _ _)

/-- The fields as the model tests them are consistent as R111 says it. -/
theorem KeyLoadA.fieldsGood_iff (a : KeyLoadA) : a.fieldsGood = true ↔ a.consistent := by
  have hrole : a.role = 0x01#8 ∨ a.role = 0x02#8 ∨ (a.role ≠ 0x01#8 ∧ a.role ≠ 0x02#8) := by tauto
  have hgeneration : a.generation.toNat < 16 ↔ a.generation.toNat ≤ 15 := Nat.lt_succ_iff
  have hflags : a.flags.toNat < 4 ↔ a.flags.toNat ≤ 3 := Nat.lt_succ_iff
  unfold KeyLoadA.consistent
  rcases hrole with h | h | ⟨h1, h2⟩
  · simp [KeyLoadA.fieldsGood, roleOf, h, hgeneration, hflags, and_assoc]
  · simp [KeyLoadA.fieldsGood, roleOf, h, hgeneration, hflags, and_assoc]
  · simp [KeyLoadA.fieldsGood, roleOf, h1, h2]

/-- A role code that is consistent names this role (section 11.2). -/
theorem KeyLoadA.consistent.roleOf_eq {a : KeyLoadA} (h : a.consistent) :
    roleOf a.role = some (if a.role = 0x01#8 then Role.tagMaster else .record) := by
  unfold roleOf
  rcases h.1 with hr | hr
  · rw [if_pos hr, if_pos hr]
  · rw [hr]
    rfl

/-- A slot is found exactly where one that is not EMPTY holds the role, issuer and generation (R80). -/
theorem State.findSlot_isSome_iff (s : State) (role : Role) (issuer : Issuer) (g : Generation) :
    (s.findSlot role issuer g).isSome = true ↔ ∃ m, (s.slot m).state ≠ .empty ∧ (s.slot m).role = some role ∧
      (s.slot m).issuer = issuer ∧ (s.slot m).generation = g := by
  simp [State.findSlot, allSlots, and_assoc]

/-- A generation byte below 16, kept in four bits (R80). -/
theorem generation_eq_iff {b : Byte} (h : b.toNat ≤ 15) (g : Generation) : g = b.setWidth 4 ↔ g.toNat = b.toNat := by
  rw [← BitVec.toNat_inj, BitVec.toNat_setWidth, Nat.mod_eq_of_lt (by omega)]

/-- Check 4 of R111, for a KEY-LOAD-A whose fields are consistent. -/
theorem State.duplicates_iff {a : KeyLoadA} (h : a.consistent) {role : Role} (hr : roleOf a.role = some role) :
    s.duplicates a = true ↔ ∃ m, (s.slot m).state ≠ .empty ∧ (s.slot m).role = some role ∧
      (s.slot m).issuer = a.issuer ∧ (s.slot m).generation.toNat = a.generation.toNat := by
  unfold State.duplicates
  rw [hr]
  dsimp only
  simp only [State.findSlot_isSome_iff, generation_eq_iff h.2.1]

/-- Settles O47: the slot number, then each check of `State.keyLoadRefusal` in its order, then the slot claimed. -/
theorem keyLoadAClaimsSlot : Obligations.KeyLoadAClaimsSlot := by
  rintro s q rest a ht hu hc rfl
  refine ⟨fun hbad => ?_, fun n hb hn => ⟨fun he => ?_, fun he hf => ?_, ?_⟩⟩
  · rw [State.exec_keyLoadA ht hu hc, judgeKeyLoadA]
    dsimp only
    rw [slotOf_general_eq_none hbad]
    exact congrArg Host.Outcome.next (State.respond_refusal ht rfl)
  · exact State.exec_keyLoadA_refused ht hu hc hb hn rfl (if_pos he)
  · rw [← KeyLoadA.fieldsGood_iff, Bool.not_eq_true] at hf
    exact State.exec_keyLoadA_refused ht hu hc hb hn rfl (by simp [State.keyLoadRefusal, he, hf])
  · rintro role rfl he hcons
    have hf := (KeyLoadA.fieldsGood_iff _).mpr hcons
    have hdup := State.duplicates_iff (s := s) hcons hcons.roleOf_eq
    refine ⟨fun hd => ?_, fun hd => ?_⟩
    · exact State.exec_keyLoadA_refused ht hu hc hb hn rfl (by simp [State.keyLoadRefusal, he, hf, hdup.mpr hd])
    · have hno : s.duplicates (keyLoadAOf q.params) = false := by
        refine Bool.eq_false_iff.mpr fun h => ?_
        obtain ⟨m, hs, hr, hi, hg⟩ := hdup.mp h
        exact hd m hs hr hi hg
      refine ⟨fun ha => ?_, fun ha => ?_⟩
      · exact State.exec_keyLoadA_refused ht hu hc hb hn rfl (by simp [State.keyLoadRefusal, he, hf, hno, ha])
      · exact ⟨(keyLoadAOf q.params).claimed, (keyLoadAOf q.params).fields n, rfl, hcons.roleOf_eq, rfl,
          (generation_eq_iff hcons.2.1 _).mp rfl, rfl, rfl, rfl, rfl, rfl, rfl, rfl, rfl, rfl,
          State.exec_keyLoadA_passed ht hu hc hb hn (by simp [State.keyLoadRefusal, he, hf, hno, ha])⟩

end Sys2Proof.Machine
end

section
/-! PROOF. SELECT-WRITE-GEN (R104, R117, R190). -/

namespace Sys2Proof.Machine

variable {s : State} {q : Request} {rest : List Request}

theorem State.exec_selectWriteGen (ht : s.takes q rest) (hu : s.unhindered) (hc : q.code = 0x18#8) :
    exec .selectWriteGen s = .next (judgeSelectWriteGen q (s.left rest)) :=
  congrArg Host.Outcome.next (State.takeRequest_of_takes ht hc hu.1 hu.2 judgeSelectWriteGen)

/-- The write generation is replaced, and the indicator set exactly where it changes (R91, R104). -/
theorem State.setWriteGen_eq (s : State) (g : Option Generation) : s.setWriteGen g = { s with keys := { s.keys with
    writeGen := g
    keyChange := s.keys.keyChange || decide (g ≠ s.keys.writeGen) } } := by
  unfold State.setWriteGen
  split
  · rename_i h
    subst h
    simp
  · rename_i h
    simp [Ne.symm h]

/-- What a request that selects g answers (R117). -/
theorem State.setWriteGen_answered (ht : s.takes q rest) {g : Option Generation} {b : Byte} (hb : genByte g = b) :
    ((s.left rest).setWriteGen g).respond q .ok [genByte ((s.left rest).setWriteGen g).keys.writeGen] =
      { s.left rest with keys := { s.keys with
        writeGen := g
        keyChange := s.keys.keyChange || decide (g ≠ s.keys.writeGen) } }.answered q .ok [b] := by
  rw [State.setWriteGen_eq, State.respond_of_room (by exact ht.2.2.2.2)]
  subst hb
  rfl

/-- A generation byte is answered as it was carried (section 11.2). -/
theorem genByte_of_lt {b : Byte} (h : b.toNat < 16) : genByte (some (b.setWidth 4)) = b := by
  refine BitVec.eq_of_toNat_eq ?_
  simp only [genByte, BitVec.toNat_setWidth]
  omega

/-- A generation can be selected exactly where its RECORD slot is ACTIVE with no erase pending (R117). -/
theorem State.recordActive_iff (s : State) (g : Generation) :
    s.recordActive g = true ↔ ∃ n, s.findSlot .record 0 g = some n ∧ (s.slot n).isActive = true := by
  unfold State.recordActive
  split
  · rename_i n hn
    exact ⟨fun ha => ⟨n, hn, ha⟩, fun ⟨m, hm, ha⟩ => Option.some.inj (hn.symm.trans hm) ▸ ha⟩
  · rename_i hn
    exact ⟨nofun, fun ⟨m, hm, _⟩ => nomatch hn.symm.trans hm⟩

/-- Settles O50: NONE and an ACTIVE generation by `State.setWriteGen_answered`, the others refused. -/
theorem selectWriteGenRule : Obligations.SelectWriteGenRule := by
  rintro s q rest b ht hu hc rfl
  have hnotNone {b : Byte} (h : b.toNat < 16) : b ≠ 0xFF#8 := fun h' => absurd (h' ▸ h) (by decide)
  rw [State.exec_selectWriteGen ht hu hc]
  unfold judgeSelectWriteGen
  dsimp only
  refine ⟨fun g hg => ?_, fun hlt hno => ?_, fun hge hne => ?_⟩
  · rcases hg with ⟨hb, rfl⟩ | ⟨n, v, hlt, rfl, rfl, hfound, ha⟩
    · rw [if_pos hb]
      exact congrArg Host.Outcome.next (State.setWriteGen_answered ht hb.symm)
    · have hactive : s.recordActive ((byteAt q.params 0).setWidth 4) = true :=
        (s.recordActive_iff _).mpr ⟨n, hfound, ha⟩
      rw [if_neg (hnotNone hlt), if_pos hlt, if_pos (by exact hactive)]
      exact congrArg Host.Outcome.next (State.setWriteGen_answered ht (genByte_of_lt hlt))
  · have hidle : ¬s.recordActive ((byteAt q.params 0).setWidth 4) = true := fun h => by
      obtain ⟨n, hn, ha⟩ := (s.recordActive_iff _).mp h
      exact Bool.false_ne_true ((hno n hn).symm.trans ha)
    rw [if_neg (hnotNone hlt), if_pos hlt, if_neg (by exact hidle)]
    exact congrArg Host.Outcome.next (State.respond_refusal ht rfl)
  · rw [if_neg hne, if_neg (by omega)]
    exact congrArg Host.Outcome.next (State.respond_refusal ht rfl)

end Sys2Proof.Machine
end

section
/-! SUPPORT. The arbiter's choice, a dispatch from the queue, and the engine an arriving job is given (R130, R134 to
R136). -/

namespace Sys2Proof.Machine

variable {s : State} {e : EngineNo} {j : Job}

/-! ### First of several tests, first of a list -/

/-- The first element that passes a test, by its place. -/
theorem findIdx?_eq_some_iff_getElem? {α : Type} {p : α → Bool} {q : List α} {i : Nat} :
    q.findIdx? p = some i ↔ ∃ j, q[i]? = some j ∧ p j = true ∧
      ∀ (i' : Nat) (j' : α), i' < i → q[i']? = some j' → p j' = false := by
  rw [List.findIdx?_eq_some_iff_getElem]
  constructor
  · rintro ⟨hi, hp, hbefore⟩
    refine ⟨q[i], List.getElem?_eq_getElem hi, hp, fun i' j' hlt hj' => ?_⟩
    obtain ⟨hi', rfl⟩ := List.getElem?_eq_some_iff.mp hj'
    exact Bool.eq_false_iff.mpr (hbefore i' hlt)
  · rintro ⟨j, hj, hp, hbefore⟩
    obtain ⟨hi, rfl⟩ := List.getElem?_eq_some_iff.mp hj
    exact ⟨hi, hp, fun i' hlt => Bool.eq_false_iff.mp
      (hbefore i' _ hlt (List.getElem?_eq_getElem (hlt.trans hi)))⟩

/-- The first test of a list that some element passes, and the first element that passes it. -/
theorem findSome?_findIdx?_eq_some {α : Type} (tests : List (α → Bool)) (q : List α) (i : Nat) :
    tests.findSome? (fun p => q.findIdx? p) = some i ↔ ∃ (k : Nat) (j : α), q[i]? = some j ∧
      (∃ p : α → Bool, tests[k]? = some p ∧ p j = true ∧
        ∀ (i' : Nat) (j' : α), i' < i → q[i']? = some j' → p j' = false) ∧
      ∀ (k' : Nat) (p' : α → Bool), k' < k → tests[k']? = some p' → ∀ j' ∈ q, p' j' = false := by
  induction tests with
  | nil => simp
  | cons p tests ih =>
    rw [List.findSome?_cons]
    cases hp : q.findIdx? p with
    | some m =>
      show some m = some i ↔ _
      rw [← hp, findIdx?_eq_some_iff_getElem?]
      constructor
      · rintro ⟨j, hj, hpj⟩
        exact ⟨0, j, hj, ⟨p, rfl, hpj⟩, fun _ _ h => absurd h (Nat.not_lt_zero _)⟩
      · rintro ⟨k, j, hj, ⟨p', hp', hpj⟩, hnone⟩
        cases k with
        | zero =>
          obtain rfl : p = p' := Option.some.inj hp'
          exact ⟨j, hj, hpj⟩
        | succ k =>
          obtain ⟨j', hj', hpj', -⟩ := findIdx?_eq_some_iff_getElem?.mp hp
          have hno := hnone 0 p (Nat.succ_pos k) rfl j' (List.mem_of_getElem? hj')
          exact absurd (hpj'.symm.trans hno) (by decide)
    | none =>
      have hno : ∀ j' ∈ q, p j' = false := List.findIdx?_eq_none_iff.mp hp
      refine ih.trans ⟨?_, ?_⟩
      · rintro ⟨k, j, hj, hk, hnone⟩
        refine ⟨k + 1, j, hj, hk, fun k' p' hlt hp' => ?_⟩
        cases k' with
        | zero => exact Option.some.inj hp' ▸ hno
        | succ k' => exact hnone k' p' (Nat.lt_of_succ_lt_succ hlt) hp'
      · rintro ⟨k, j, hj, ⟨p', hp', hpj⟩, hnone⟩
        cases k with
        | zero =>
          obtain rfl : p = p' := Option.some.inj hp'
          exact absurd (hpj.1.symm.trans (hno j (List.mem_of_getElem? hj))) (by decide)
        | succ k => exact ⟨k, j, hj, ⟨p', hp', hpj⟩, fun k' p'' hlt => hnone (k' + 1) p'' (Nat.succ_lt_succ hlt)⟩

theorem allEngines_find?_eq_some (p : EngineNo → Bool) :
    allEngines.find? p = some e ↔ p e = true ∧ ∀ d, d < e → p d = false := by
  unfold allEngines
  rw [List.find?_eq_some_iff_getElem]
  refine and_congr_right fun _ => ⟨?_, fun h => ?_⟩
  · rintro ⟨i, hi, rfl, hbefore⟩ d hd
    simpa using hbefore d.val (by simpa [Fin.lt_def] using hd)
  · exact ⟨e.val, by simp, by simp, fun d hd => by simpa using h ⟨d, by omega⟩ hd⟩

theorem allEngines_find?_eq_none (p : EngineNo → Bool) : allEngines.find? p = none ↔ ∀ d, p d = false := by
  simp [allEngines, List.find?_eq_none]

/-! ### The arbiter (R134, R136) -/

/-- The four tests of the arbiter for engine e, in their order (R134). -/
def State.arbiterTests (s : State) (e : EngineNo) : List (Job → Bool) :=
  [fun j => j.kind == .scrub && j.forced, fun j => j.bypass == 4, fun j => (s.engine e).openIdleUnder j.key,
    fun j => !s.openElsewhere e j.key]

theorem State.choice_eq (s : State) (e : EngineNo) :
    s.choice e = (s.arbiterTests e).findSome? (fun p => s.cipher.queue.findIdx? p) := by
  have hcons : ∀ (p : Job → Bool) (l : List (Job → Bool)), (p :: l).findSome? (fun p => s.cipher.queue.findIdx? p) =
      (s.cipher.queue.findIdx? p <|> l.findSome? (fun p => s.cipher.queue.findIdx? p)) := fun p l => by
    rw [List.findSome?_cons]
    cases s.cipher.queue.findIdx? p <;> rfl
  unfold State.arbiterTests
  rw [hcons, hcons, hcons, hcons, List.findSome?_nil]
  simp [State.choice]

/-- No test finds a job. -/
theorem State.choice_eq_none : s.choice e = none ↔ ∀ p ∈ s.arbiterTests e, ∀ j ∈ s.cipher.queue, p j = false := by
  rw [State.choice_eq, List.findSome?_eq_none_iff]
  exact forall₂_congr fun _ _ => List.findIdx?_eq_none_iff

theorem State.arbitrate_of_choice_none (h : s.choice e = none) : s.arbitrate e = s := by
  unfold State.arbitrate
  rw [h]

/-- The queue when the arbiter has taken out the job at place i: each older one passed over, the younger as they were
(R136). -/
def passOver (q : List Job) (i : Nat) : List Job := (q.take i).map Job.passedOver ++ q.drop (i + 1)

theorem State.arbitrate_of_choice {i : Nat} (h : s.choice e = some i) (hj : s.cipher.queue[i]? = some j) :
    s.arbitrate e = ((s.setJobs (passOver s.cipher.queue i)).dispatch e j).afterLeaving j := by
  unfold State.arbitrate
  rw [h]
  dsimp only
  rw [hj]
  rfl

/-! ### What a dispatch makes of the engine (R130) -/

/-- Under its own key the job runs at once. -/
theorem State.dispatch_open {r : Option Key} (h : (s.engine e).state = .openIdle j.key r) :
    ((s.dispatch e j).engine e).state = .busy r j := by
  unfold State.dispatch
  rw [State.jobStarted_engine, State.engine_setEngine_self]
  dsimp only
  rw [h]
  exact if_pos rfl

/-- Under no key, or another, the engine opens the key of the job. -/
theorem State.dispatch_other (h : (s.engine e).openIdleUnder j.key = false) :
    ((s.dispatch e j).engine e).state = .opening (s.material j) j := by
  unfold State.dispatch
  rw [State.jobStarted_engine, State.engine_setEngine_self]
  dsimp only
  cases hs : (s.engine e).state with
  | openIdle k r =>
    refine if_neg fun hk => ?_
    rw [Engine.openIdleUnder, Engine.isIdle, Engine.key?, hs] at h
    simp [hk] at h
  | _ => rfl

/-- An engine with a job is not idle. -/
theorem State.dispatch_held (s : State) (e : EngineNo) (j : Job) : ((s.dispatch e j).engine e).isIdle = false :=
  Bool.eq_false_iff.mpr fun h => absurd ((s.dispatch_job e j).symm.trans (Engine.job?_of_isIdle h)) nofun

/-- While a scrub is outstanding the key store tests for none (R99). -/
theorem State.scrubTest_of_outstanding (h : s.keys.outstanding.isSome = true) : s.scrubTest = s := by
  unfold State.scrubTest
  rw [if_neg]
  simp [Option.isNone_eq_false_iff.mpr h]

theorem State.afterLeaving_of_outstanding (h : s.keys.outstanding.isSome = true) (j : Job) : s.afterLeaving j = s := by
  unfold State.afterLeaving
  rw [State.scrubTest_of_outstanding h, ite_self]

theorem State.jobStarted_outstanding_isSome (s : State) (j : Job) :
    (s.jobStarted j).keys.outstanding.isSome = s.keys.outstanding.isSome := by
  rcases s.jobStarted_outstanding j with h | h <;> simp [h]

/-- The job chosen is on the engine, which runs it at once or opens its key (R130, R134). -/
theorem State.arbitrate_engine {i : Nat} (h : s.choice e = some i) (hj : s.cipher.queue[i]? = some j) :
    (s.arbitrate e).engine e = ((s.setJobs (passOver s.cipher.queue i)).dispatch e j).engine e := by
  rw [State.arbitrate_of_choice h hj]
  exact State.afterLeaving_engine_held (State.dispatch_held _ _ _) j

/-- What a dispatch leaves queued while a scrub is outstanding (R136). -/
theorem State.arbitrate_passOver {i : Nat} (h : s.choice e = some i) (hj : s.cipher.queue[i]? = some j)
    (ho : s.keys.outstanding.isSome = true) : (s.arbitrate e).cipher.queue = passOver s.cipher.queue i := by
  rw [State.arbitrate_of_choice h hj, State.afterLeaving_of_outstanding, State.dispatch_queue]
  · rfl
  · exact (State.jobStarted_outstanding_isSome _ _).trans ho

/-! ### Arrival (R135) -/

theorem Engine.isClosed_iff (x : Engine) : x.isClosed = true ↔ x.state = .closedIdle := by
  unfold Engine.isClosed
  cases x.state <;> simp

theorem Engine.isClosed_eq_false (x : Engine) : x.isClosed = false ↔ x.state ≠ .closedIdle :=
  Bool.eq_false_iff.trans (not_congr x.isClosed_iff)

/-- The three searches for an idle engine, in their order (R135). -/
theorem State.idleEngineFor_eq_some : s.idleEngineFor j = some e ↔
    ((s.engine e).openIdleUnder j.key = true ∧ ∀ d, d < e → (s.engine d).openIdleUnder j.key = false) ∨
    ((∀ d, (s.engine d).openIdleUnder j.key = false) ∧ (s.engine e).state = .closedIdle ∧
      ∀ d, d < e → (s.engine d).state ≠ .closedIdle) ∨
    ((∀ d, (s.engine d).openIdleUnder j.key = false ∧ (s.engine d).state ≠ .closedIdle) ∧
      (s.engine e).isIdle = true ∧ ∃ older newer, s.cipher.lastUse = older ++ e :: newer ∧
        ∀ d ∈ older, (s.engine d).isIdle = false) := by
  have hopen := allEngines_find?_eq_none fun e => (s.engine e).openIdleUnder j.key
  have hclosed := (allEngines_find?_eq_none fun e => (s.engine e).isClosed).trans
    (forall_congr' fun d => (s.engine d).isClosed_eq_false)
  unfold State.idleEngineFor
  cases h1 : allEngines.find? (fun e => (s.engine e).openIdleUnder j.key) with
  | some d =>
    have hd := List.find?_some h1
    have hnot : ¬∀ d, (s.engine d).openIdleUnder j.key = false := fun h => absurd (hd.symm.trans (h d)) (by decide)
    rw [← allEngines_find?_eq_some fun e => (s.engine e).openIdleUnder j.key, h1]
    simp only [forall_and, hnot, false_and, or_false]
    rfl
  | none =>
    have hno := hopen.mp h1
    cases h2 : allEngines.find? (fun e => (s.engine e).isClosed) with
    | some d =>
      have hd := (s.engine d).isClosed_iff.mp (List.find?_some (p := fun e => (s.engine e).isClosed) h2)
      have hnot : ¬∀ d, (s.engine d).state ≠ .closedIdle := fun h => h d hd
      have hlow := (allEngines_find?_eq_some (e := e) fun e => (s.engine e).isClosed).trans (and_congr
        (s.engine e).isClosed_iff (forall₂_congr fun d _ => (s.engine d).isClosed_eq_false))
      rw [← hlow, h2]
      simp [hnot, hno]
    | none =>
      have hnc := hclosed.mp h2
      have hlast := List.find?_eq_some_iff_append (p := fun e => (s.engine e).isIdle) (xs := s.cipher.lastUse) (b := e)
      simp only [Bool.not_eq_true'] at hlast
      simpa [hno, hnc] using hlast

/-- No engine is found exactly when none is idle (R135). -/
theorem State.idleEngineFor_eq_none (h : ∀ d, d ∈ s.cipher.lastUse) :
    s.idleEngineFor j = none ↔ ∀ d, (s.engine d).isIdle = false := by
  have hlast : s.cipher.lastUse.find? (fun e => (s.engine e).isIdle) = none ↔ ∀ d, (s.engine d).isIdle = false := by
    simp [List.find?_eq_none, h]
  rw [← hlast]
  refine ⟨fun hn => ?_, fun hn => ?_⟩
  · unfold State.idleEngineFor at hn
    simp only [Option.orElse_eq_orElse, Option.orElse_eq_or, Option.or_eq_none_iff] at hn
    exact hn.2.2
  · have hidle := hlast.mp hn
    refine Option.eq_none_iff_forall_ne_some.mpr fun d hd => ?_
    exact absurd ((State.idleEngineFor_isIdle hd).symm.trans (hidle d)) (by decide)

theorem State.arrive_of_none (h : s.idleEngineFor j = none) : s.arrive j = s.setJobs (s.cipher.queue ++ [j]) := by
  unfold State.arrive
  rw [h]

theorem State.arrive_of_some (h : s.idleEngineFor j = some e) : s.arrive j = s.dispatch e j := by
  unfold State.arrive
  rw [h]

end Sys2Proof.Machine
end

section
/-! SUPPORT. What the work of an owner leaves of an engine that is at work: the notices of the releases, and nothing else
(R127, R130, R139, log 14). -/

namespace Sys2Proof.Machine

variable {s t u : State} {e : EngineNo} {c : ContextNo} {j : Job} {P : Job → Prop}

/-! ### An engine at work that is told of releases (R139, log 14) -/

theorem Engine.toldOf_append (x : Engine) (l m : List ContextNo) : x.toldOf (l ++ m) = (x.toldOf l).toldOf m :=
  List.foldl_append

/-- An engine at work takes the close at end mark when one of the released contexts has its key, and nothing else. -/
theorem Engine.toldOf_held {x : Engine} (h : x.isIdle = false) (l : List ContextNo) :
    x.toldOf l = { x with closeAtEnd := x.closeAtEnd || l.any x.holdsKeyOf } := by
  induction l generalizing x with
  | nil => simp [Engine.toldOf]
  | cons c l ih =>
    have hc : x.atRelease c = { x with closeAtEnd := x.closeAtEnd || x.holdsKeyOf c } := by
      rw [Engine.atRelease_eq, h]
      cases x.holdsKeyOf c <;> simp
    show (x.atRelease c).toldOf l = _
    rw [hc, ih (x := { x with closeAtEnd := x.closeAtEnd || x.holdsKeyOf c }) h]
    simp only [List.any_cons, Bool.or_assoc]
    rfl

/-- Between s and t: jobs of P alone join engines and queue, no FREE context is taken, and engine e, if it is at work, is
told of the release of each context that is freed, and of nothing else. -/
structure OwnerActs (P : Job → Prop) (e : EngineNo) (s t : State) : Prop where
  jobs : JobsGoOn P s t
  free : ∀ c, s.context c = none → t.context c = none
  told : (s.engine e).isIdle = false → ∃ l, t.engine e = (s.engine e).toldOf l ∧
    ∀ c, c ∈ l ↔ s.context c ≠ none ∧ t.context c = none

namespace OwnerActs

theorem trans (h : OwnerActs P e s t) (k : OwnerActs P e t u) : OwnerActs P e s u where
  jobs := h.jobs.trans k.jobs
  free c hc := k.free c (h.free c hc)
  told hb := by
    obtain ⟨l, hl, hfreed⟩ := h.told hb
    obtain ⟨m, hm, hfreed'⟩ := k.told (by rw [hl, Engine.toldOf_held hb]; exact hb)
    refine ⟨l ++ m, by rw [hm, hl, Engine.toldOf_append], fun c => ?_⟩
    rw [List.mem_append, hfreed, hfreed']
    have hs := h.free c
    have ht := k.free c
    tauto

/-- Work that frees no context and leaves an engine at work alone. -/
theorem of_still (hj : JobsGoOn P s t) (hc : ∀ c, t.context c = none ↔ s.context c = none)
    (he : (s.engine e).isIdle = false → t.engine e = s.engine e) : OwnerActs P e s t where
  jobs := hj
  free c := (hc c).mpr
  told hb := ⟨[], he hb, fun c => by simp [hc]⟩

theorem of_jobsOnly (h : JobsOnly s t) (hj : JobsGoOn P s t)
    (he : (s.engine e).isIdle = false → t.engine e = s.engine e) : OwnerActs P e s t :=
  of_still hj (fun c => by rw [← Option.map_eq_none_iff (f := Context.apart), h.contexts, Option.map_eq_none_iff]) he

/-- An update that leaves the cipher unit and frees and takes no context. -/
theorem of_cipher (h : t.cipher = s.cipher) (hc : ∀ c, t.context c = none ↔ s.context c = none) : OwnerActs P e s t :=
  of_still (.of_cipher h) hc fun _ => by unfold State.engine; rw [h]

theorem of_passes (h : t.cipher = s.cipher) (hp : t.passes = s.passes) : OwnerActs P e s t :=
  of_cipher h fun c => by unfold State.context; rw [hp]

theorem refl (s : State) : OwnerActs P e s s := of_passes rfl rfl

/-- The work, after an update that leaves the cipher unit and the passes. -/
theorem after (k : OwnerActs P e t u) (h : t.cipher = s.cipher) (hp : t.passes = s.passes) : OwnerActs P e s u :=
  (of_passes h hp).trans k

theorem setContext {x : Context} (hx : s.context c = some x) (y : Context) :
    OwnerActs P e s (s.setContext c (some y)) :=
  of_cipher rfl fun d => by
    rw [State.context_setContext]
    split
    · simp_all
    · rfl

theorem modContext (s : State) (c : ContextNo) (f : Context → Context) : OwnerActs P e s (s.modContext c f) :=
  of_cipher rfl fun d => by
    rw [State.context_modContext]
    split
    · simp_all
    · rfl

end OwnerActs

/-! ### Releases (R57, R139) -/

theorem State.release_acts {x : Context} (hx : s.context c = some x) : OwnerActs P e s (s.release c x) where
  jobs := .trans (.trans (.of_cipher rfl) (State.tellEngines_goesOn _ (Engine.atRelease_goesOn _))) (.of_cipher rfl)
  free d hd := by
    by_cases hdc : d = c
    · rw [hdc] at hd
      cases hd.symm.trans hx
    · rw [State.release_context_ne s hdc, hd]
  told _ := by
    refine ⟨[c], s.release_engine c x e, fun d => List.mem_singleton.trans ⟨?_, fun ⟨hd, hfree⟩ => ?_⟩⟩
    · rintro rfl
      exact ⟨by rw [hx]; nofun, State.context_setContext_self _ d none⟩
    · by_contra hdc
      exact hd ((State.release_context_ne s hdc x).symm.trans hfree)

theorem State.releaseHeads_acts (k : Nat) (z : ZoneNo) (s : State) : OwnerActs P e s (s.releaseHeads k z) := by
  induction k generalizing s with
  | zero => exact .refl s
  | succ k ih =>
    unfold State.releaseHeads
    repeat' split
    · exact .refl s
    · exact .refl s
    · exact (State.release_acts ‹_›).trans (ih _)
    · exact .of_cipher (s.stall_cipher _) fun d => by rw [State.stall_context]
    · exact .refl s

theorem State.attemptRelease_acts (s : State) (z : ZoneNo) : OwnerActs P e s (s.attemptRelease z) :=
  State.releaseHeads_acts _ _ _

/-! ### Work on jobs (R99, R127, R135) -/

theorem State.issueFor_engine_held (h : (s.engine e).isIdle = false) (c : ContextNo) (kind : JobKind) (key : KeyId)
    (input : List Block) : (s.issueFor c kind key input).engine e = s.engine e := by
  show (match State.idleEngineFor _ _ with | some d => _ | none => _ : State).engine e = _
  split
  · rename_i d hd
    have hne : e ≠ d := by
      rintro rfl
      exact absurd (h.symm.trans (State.idleEngineFor_isIdle hd)) (by decide)
    have hkeep := State.dispatch_engine_ne (s.modContext c fun x => { x with currentJob := .queued kind }) hne
      (freshJob kind (.context c) key input)
    exact (State.scrubTest_engine_held ((congrArg Engine.isIdle hkeep).trans h)).trans hkeep
  · rfl

section
variable (hs : ∀ n forced, P (scrubJob n forced))
include hs

theorem State.scrubTest_acts (s : State) : OwnerActs P e s s.scrubTest :=
  .of_jobsOnly s.scrubTest_jobsOnly (State.scrubTest_goesOn fun n forced _ => hs n forced) State.scrubTest_engine_held

theorem State.issueScrub_acts (s : State) (n : SlotNo) (forced : Bool) : OwnerActs P e s (s.issueScrub n forced) :=
  .of_jobsOnly (s.issueScrub_jobsOnly n forced) (s.issueScrub_goesOn (hs n forced))
    fun h => State.issueScrub_engine_held h n forced

theorem State.issueFor_acts (s : State) (c : ContextNo) {kind : JobKind} {key : KeyId} {input : List Block}
    (hj : P (freshJob kind (.context c) key input)) : OwnerActs P e s (s.issueFor c kind key input) :=
  .of_jobsOnly (s.issueFor_jobsOnly c kind key input)
    (State.issueFor_goesOn (fun n forced _ => hs n forced) c kind key input hj)
    fun h => State.issueFor_engine_held h c kind key input

theorem State.dropQueuedJob_acts (s : State) (c : ContextNo) : OwnerActs P e s (s.dropQueuedJob c) :=
  .of_jobsOnly (s.dropQueuedJob_jobsOnly c) (State.dropQueuedJob_goesOn (fun n forced _ => hs n forced) c)
    fun h => State.scrubTest_engine_held (s := (s.setJobs _).modContext c _) h

/-- The end of a scrub issues another at most (R99, R103). -/
theorem State.afterScrub_acts (s : State) : OwnerActs P e s s.afterScrub := by
  unfold State.afterScrub State.continueInitCheck State.enterMaintenance
  dsimp only
  repeat' split
  · exact .after (State.scrubTest_acts hs _) rfl rfl
  · exact .after (State.issueScrub_acts hs _ _ _) rfl rfl
  · exact .after (State.scrubTest_acts hs _) rfl rfl

/-! ### The work of a pass (R29 to R33, R49, R53) -/

theorem State.concludes_acts {x : Context} (hx : s.context c = some x) (r : PassResult) :
    OwnerActs P e s (s.concludes c x r) := by
  have hown : OwnerActs P e s ((s.setContext c (some (x.concluded r s.clock.laneTime))).withdrawFrames c) :=
    (OwnerActs.setContext hx _).trans (.of_passes rfl rfl)
  unfold State.concludes
  dsimp only
  split
  · exact hown.trans (State.dropQueuedJob_acts hs _ c)
  · exact hown

theorem State.endPass_acts (s : State) (c : ContextNo) (r : PassResult) : OwnerActs P e s (s.endPass c r) := by
  cases hx : s.context c with
  | none =>
    rw [State.endPass_of_free hx]
    exact .refl s
  | some x =>
    rw [State.endPass_eq hx]
    refine .trans (.trans (State.concludes_acts hs hx r) (.trans ?_ (.modContext _ c _))) (State.attemptRelease_acts _ _)
    refine .of_cipher ((State.handRecent_cipher _ _ _).trans (State.offerClose_cipher _ _ _ _)) fun d => ?_
    rw [State.handRecent_context, State.offerClose_context]

theorem State.endNoWrite_acts (s : State) (c : ContextNo) : OwnerActs P e s (s.endNoWrite c) :=
  (OwnerActs.modContext s c _).trans (State.endPass_acts hs _ c _)

theorem State.masterLost_acts (s : State) (n : SlotNo) (c : ContextNo) : OwnerActs P e s (s.masterLost n c) := by
  unfold State.masterLost
  repeat' split
  · exact State.endPass_acts hs s c _
  · exact .refl s
  · exact .refl s

theorem State.foldl_masterLost_acts (s : State) (n : SlotNo) (l : List ContextNo) :
    OwnerActs P e s (l.foldl (fun s c => s.masterLost n c) s) := by
  induction l generalizing s with
  | nil => exact .refl s
  | cons c l ih => exact (State.masterLost_acts hs s n c).trans (ih _)

section
variable (hc : ∀ c n input, P (freshJob .recordCompute (.context c) (.slot n) input))
include hc

theorem State.compose_acts (s : State) (c : ContextNo) : OwnerActs P e s (s.compose c) := by
  unfold State.compose
  repeat' split
  · exact .refl s
  · exact State.endNoWrite_acts hs s c
  · exact State.endNoWrite_acts hs s c
  · exact (OwnerActs.setContext ‹_› _).trans (State.issueFor_acts hs _ c (hc _ _ _))

theorem State.afterCheck_acts (s : State) (c : ContextNo) : OwnerActs P e s (s.afterCheck c) := by
  unfold State.afterCheck
  repeat' split
  · exact .refl s
  · exact State.endPass_acts hs s c _
  · exact State.compose_acts hs hc s c

theorem State.settleCheck_acts (s : State) (c : ContextNo) (o : RecordCheck) : OwnerActs P e s (s.settleCheck c o) :=
  (OwnerActs.modContext s c _).trans (State.afterCheck_acts hs hc _ c)

/-- A record check may issue a verify job too (R32). -/
theorem State.recordCheck_acts (s : State) (x : Context)
    (hv : ∀ n input, P (freshJob .recordVerify (.context c) (.slot n) input)) :
    OwnerActs P e s (s.recordCheck c x) := by
  unfold State.recordCheck
  repeat' split
  · exact State.settleCheck_acts hs hc s c _
  · exact State.settleCheck_acts hs hc s c _
  · exact State.settleCheck_acts hs hc s c _
  · exact State.issueFor_acts hs s c (hv _ _)

theorem State.taVerified_acts {x : Context} (hx : s.context c = some x)
    (hv : ∀ n input, P (freshJob .recordVerify (.context c) (.slot n) input)) :
    OwnerActs P e s (s.taVerified c x) := by
  refine .trans (t := s.setContext c (some { x with recordsRead := x.held.map Prod.fst, held := none }))
    (.setContext hx _) ?_
  unfold State.taVerified
  dsimp only
  split
  · exact State.recordCheck_acts hs hc _ _ hv
  · exact State.afterCheck_acts hs hc _ c

end
end

end Sys2Proof.Machine
end

section
/-! SUPPORT. What the end of a job brings about at its owner, as the engine that ran it sees it (R95, R96, R133, R139). -/

namespace Sys2Proof.Machine

variable {s t u : State} {e : EngineNo} {c : ContextNo} {n : SlotNo} {j : Job} {r : Option Key} {P : Job → Prop}

/-! ### Updates that leave engines and passes -/

theorem State.finish_acts (s : State) (st : Status) (data : List Byte) : OwnerActs P e s (s.finish st data) := by
  obtain ⟨responses, held, hf⟩ := s.finish_frame st data
  exact .of_passes (s.finish_cipher st data) (by rw [hf])

theorem State.discardTwoPart_acts (s : State) : OwnerActs P e s s.discardTwoPart := by
  obtain ⟨slots, keyChange, candidate, hd, -⟩ := s.discardTwoPart_frame (n := 0)
  exact .of_passes s.discardTwoPart_cipher (by rw [hd])

theorem State.failLoad_acts (s : State) (st : Status) : OwnerActs P e s (s.failLoad st) :=
  s.discardTwoPart_acts.trans (State.finish_acts _ _ _)

theorem State.raise_acts (s : State) (v : Event) : OwnerActs P e s (s.raise v) :=
  .of_passes (s.raise_cipher v) (s.raise_passes v)

theorem State.cacheOffer_acts (s : State) (bound : Option SlotNo) (x : CacheEntry) :
    OwnerActs P e s (s.cacheOffer bound x) :=
  .of_passes (by rw [State.cacheOffer_eq]) (by rw [State.cacheOffer_eq])

theorem State.queueStep_passes (s : State) (c : ContextNo) : (s.queueStep c).passes = s.passes := by
  unfold State.queueStep
  repeat' split
  · rfl
  · rfl
  · rfl

theorem State.standBehind_acts {x : Context} (hx : s.context c = some x) (y : Context) (st : PassState) (f : StepFrame) :
    OwnerActs P e s (s.standBehind c y st f) :=
  (OwnerActs.setContext hx _).trans (.of_passes (State.queueStep_cipher _ c) (State.queueStep_passes _ c))

/-! ### The ends of a pass's jobs (R38, R133) -/

theorem State.contextJobEnd_acts (s : State) (j : Job) (stage : PassState) (out : Option Block)
    {onResult : ContextNo → Context → Block → State → State} {onLost : ContextNo → State → State}
    (hr : ∀ c x b t, t.context c = some x → OwnerActs P e t (onResult c x b t))
    (hl : ∀ c t, OwnerActs P e t (onLost c t)) :
    OwnerActs P e s (s.contextJobEnd j stage out onResult onLost) := by
  unfold State.contextJobEnd
  dsimp only
  repeat' split
  · exact .refl s
  · exact .refl s
  · exact .refl s
  · exact (OwnerActs.setContext ‹_› _).trans (State.attemptRelease_acts _ _)
  · exact (OwnerActs.setContext ‹_› _).trans (hr _ _ _ _ (State.context_setContext_self _ _ _))
  · exact (OwnerActs.setContext ‹_› _).trans (hl _ _)
  · exact .setContext ‹_› _

section
variable (hs : ∀ n forced, P (scrubJob n forced))
include hs

theorem State.issueSession_acts (s : State) (c : ContextNo)
    (hj : ∀ input, P (freshJob .session (.context c) (.tk c) input)) : OwnerActs P e s (s.issueSession c) := by
  unfold State.issueSession
  split
  · exact .refl s
  · exact State.issueFor_acts hs s c (hj _)

theorem State.deriveEnd_acts (s : State) (j : Job) (out : Option Block)
    (hj : ∀ c input, P (freshJob .session (.context c) (.tk c) input)) : OwnerActs P e s (s.deriveEnd j out) :=
  s.contextJobEnd_acts j _ out (fun c _ _ _ hx => ((OwnerActs.setContext hx _).trans (State.cacheOffer_acts _ _ _)).trans
    (State.issueSession_acts hs _ c (hj c))) fun _ t => .refl t

theorem State.sessionEnd_acts (s : State) (j : Job) (out : Option Block)
    (hj : ∀ c input, P (freshJob .ra (.context c) (.sk c) input)) : OwnerActs P e s (s.sessionEnd j out) :=
  s.contextJobEnd_acts j _ out
    (fun c _ _ _ hx => (OwnerActs.setContext hx _).trans (State.issueFor_acts hs _ c (hj _ _))) fun _ t => .refl t

theorem State.caEnd_acts (s : State) (j : Job) (out : Option Block) : OwnerActs P e s (s.caEnd j out) :=
  s.contextJobEnd_acts j _ out (fun c _ _ t _ => State.endPass_acts hs t c _) fun _ t => .refl t

theorem State.computeEnd_acts (s : State) (j : Job) (out : Option Block)
    (hj : ∀ c input, P (freshJob .wa (.context c) (.sk c) input)) : OwnerActs P e s (s.computeEnd j out) := by
  refine s.contextJobEnd_acts j _ out (fun c x b t hx => ?_) fun c t => State.endNoWrite_acts hs t c
  split
  · exact (OwnerActs.setContext hx _).trans (State.issueFor_acts hs _ c (hj _ _))
  · exact State.endNoWrite_acts hs t c

section
variable (hc : ∀ c n input, P (freshJob .recordCompute (.context c) (.slot n) input))
include hc

theorem State.taEnd_acts (s : State) (j : Job) (out : Option Block)
    (hv : ∀ c n input, P (freshJob .recordVerify (.context c) (.slot n) input)) : OwnerActs P e s (s.taEnd j out) := by
  refine s.contextJobEnd_acts j _ out (fun c x b t hx => ?_) fun _ t => .refl t
  split
  · exact State.taVerified_acts hs hc hx (hv c)
  · exact (OwnerActs.setContext hx _).trans (State.endPass_acts hs _ c _)

theorem State.verifyEnd_acts (s : State) (j : Job) (out : Option Block) : OwnerActs P e s (s.verifyEnd j out) :=
  s.contextJobEnd_acts j _ out (fun c _ _ t _ => State.settleCheck_acts hs hc t c _)
    fun c t => State.settleCheck_acts hs hc t c _

/-! ### The owners of jobs that a withdrawal removes (R95, R96) -/

theorem State.jobRemoved_acts (s : State) (j : Job) : OwnerActs P e s (s.jobRemoved j) := by
  have hleft : ∀ c, OwnerActs P e s (s.jobLeft c) := fun c =>
    (OwnerActs.modContext s c _).trans (State.scrubTest_acts hs _)
  unfold State.jobRemoved
  split
  · exact .after (State.scrubTest_acts hs _) rfl rfl
  · exact s.failLoad_acts _
  · rename_i c _
    dsimp only
    split
    · exact (hleft c).trans (State.endNoWrite_acts hs _ c)
    · exact (hleft c).trans (State.settleCheck_acts hs hc _ c _)
    all_goals exact hleft c

theorem State.foldl_jobRemoved_acts (s : State) (l : List Job) : OwnerActs P e s (l.foldl State.jobRemoved s) := by
  induction l generalizing s with
  | nil => exact .refl s
  | cons j l ih => exact (State.jobRemoved_acts hs hc s j).trans (ih _)

/-- A withdrawal by loss, once the engines have been told of it. -/
theorem State.withdrawLoss_acts (s : State) (n : SlotNo) (x : Slot) :
    OwnerActs P e (s.lossBegun n x) (s.withdrawLoss n x) := by
  have hheard : OwnerActs P e (s.lossBegun n x) (s.lossHeard n x) := State.foldl_jobRemoved_acts hs hc _ _
  rw [State.withdrawLoss_eq]
  split
  · exact hheard.trans (State.foldl_masterLost_acts hs _ n _)
  · exact hheard

end

/-! ### The ends of management jobs (R109, R113, R114) -/

theorem State.kcvEnd_acts (s : State) (j : Job) (out : Option Block) : OwnerActs P e s (s.kcvEnd j out) := by
  unfold State.kcvEnd
  repeat' split
  · exact s.failLoad_acts _
  · refine .trans ?_ (State.finish_acts _ _ _)
    exact .after (State.scrubTest_acts hs _) rfl rfl
  · exact (s.discardTwoPart_acts.trans (State.raise_acts _ _)).trans (State.finish_acts _ _ _)
  · exact s.failLoad_acts _

theorem State.combineEnd_acts (s : State) (j : Job) (out : Option Block) : OwnerActs P e s (s.combineEnd j out) := by
  unfold State.combineEnd
  repeat' split
  · refine .trans ?_ (State.finish_acts _ _ _)
    exact .after (State.scrubTest_acts hs _) rfl rfl
  · refine .trans ?_ (State.finish_acts _ _ _)
    exact .after (State.raise_acts _ _) rfl rfl
  · exact .after (State.finish_acts _ _ _) rfl rfl

end

theorem State.unwrapEnd_acts (s : State) (j : Job) (out : Option Block)
    (hj : P (freshJob .kcv .management .loadCandidate [0])) : OwnerActs P e s (s.unwrapEnd j out) := by
  unfold State.unwrapEnd
  split
  · exact .after (.of_jobsOnly (State.arrive_jobsOnly _ _) (State.arrive_goesOn _ hj)
      fun h => State.arrive_engine_held h _) rfl rfl
  · exact s.failLoad_acts _

/-! ### The owner of a job that is no scrub (R133) -/

/-- The work that follows the end of a job issues none of that job's kind, scrubs apart: each kind leads to the next. -/
theorem State.deliver_acts (hk : j.kind ≠ .scrub) (s : State) (out : Option Block) :
    OwnerActs (fun k => k.kind ≠ j.kind) e s (s.deliver j out) := by
  unfold State.deliver
  cases hkind : j.kind with
  | derive => exact State.deriveEnd_acts (fun _ _ => nofun) s j out fun _ _ => nofun
  | session => exact State.sessionEnd_acts (fun _ _ => nofun) s j out fun _ _ => nofun
  | ra => exact s.contextJobEnd_acts j _ out (fun _ _ _ _ hx => State.standBehind_acts hx _ _ _) fun _ t => .refl t
  | ta => exact State.taEnd_acts (fun _ _ => nofun) (fun _ _ _ => nofun) s j out fun _ _ _ => nofun
  | wa => exact s.contextJobEnd_acts j _ out (fun _ _ _ _ hx => State.standBehind_acts hx _ _ _) fun _ t => .refl t
  | ca => exact State.caEnd_acts (fun _ _ => nofun) s j out
  | recordCompute => exact State.computeEnd_acts (fun _ _ => nofun) s j out fun _ _ => nofun
  | recordVerify => exact State.verifyEnd_acts (fun _ _ => nofun) (fun _ _ _ => nofun) s j out
  | unwrap => exact State.unwrapEnd_acts s j out nofun
  | kcv => exact State.kcvEnd_acts (fun _ _ => nofun) s j out
  | combine => exact State.combineEnd_acts (fun _ _ => nofun) s j out
  | scrub => exact absurd hkind hk

/-! ### The slot of a withdrawal stays without material (R93) -/

theorem State.jobRemoved_slot (s : State) (j : Job) (m : SlotNo) :
    (s.jobRemoved j).slot m = s.slot m ∨ (s.jobRemoved j).slot m = Slot.empty := by
  by_cases hm : j.owner = .management
  · rw [State.jobRemoved_of_management hm]
    exact (State.LostEnd.loadLost (j := j)).slot m
  · exact .inl ((State.jobRemoved_passesGoOn_of_owner hm).slot m)

theorem State.foldl_jobRemoved_material (h : (s.slot n).holdsMaterial = false) (l : List Job) :
    ((l.foldl State.jobRemoved s).slot n).holdsMaterial = false := by
  induction l generalizing s with
  | nil => exact h
  | cons j l ih =>
    refine ih (s := s.jobRemoved j) ?_
    rcases s.jobRemoved_slot j n with hj | hj
    · rw [hj, h]
    · rw [hj]
      rfl

/-- A slot whose check has failed holds no material, whatever its withdrawal brings about (R102). -/
theorem State.faultSlot_material (s : State) (n : SlotNo) : ((s.faultSlot n).slot n).holdsMaterial = false := by
  have hbegun : (((s.slotFaulted n).lossBegun n (s.slot n)).slot n).holdsMaterial = false := by
    have hslot : ((s.slotFaulted n).lossBegun n (s.slot n)).slot n = (s.slot n).faulted := by
      rw [State.faultBegun_eq]
      exact tableGet_tableSet_self _ _ _
    rw [hslot]
    simp [Slot.holdsMaterial, Slot.faulted]
  have hmasters := ((s.slotFaulted n).lossHeard_masters n (s.slot n)).1
  show (((s.slotFaulted n).withdrawLoss n (s.slot n)).slot n).holdsMaterial = false
  rw [hmasters.slot n]
  exact State.foldl_jobRemoved_material hbegun _

end Sys2Proof.Machine
end

section
/-! PROOF. The end of every job on its engine, the arbiter, and the engine that an arriving job is given (R130, R132, R134
to R136, log 14). -/

namespace Sys2Proof.Machine

variable {s t u : State} {e : EngineNo} {n : SlotNo} {j : Job} {r : Option Key} {P : Job → Prop}

/-! ### The engine at the end of its job (R132 steps 2 and 3) -/

/-- The engine that runs j will close its key: its mark stood, or the owner's work has released the context whose key it
is, or has taken the material of the slot whose scrub it is. -/
def State.keyCloses (s u : State) (e : EngineNo) (j : Job) : Prop :=
  (s.engine e).closeAtEnd = true ∨
    (∃ c, (j.key = .tk c ∨ j.key = .sk c) ∧ s.context c ≠ none ∧ u.context c = none) ∨
    ∃ n, j.kind = .scrub ∧ j.key = .slot n ∧ (s.slot n).holdsMaterial = true ∧ (u.slot n).holdsMaterial = false

theorem KeyId.isCandidate_iff (k : KeyId) : k.isCandidate = true ↔ k = .loadCandidate ∨ k = .rootCandidate := by
  cases k <;> simp [KeyId.isCandidate]

/-- What an engine holds after its job: the key of the job, with the register it ran under, or none. -/
def Engine.keptKey (x : Engine) (k : KeyId) (r : Option Key) : EngineState :=
  if x.closeAtEnd || k.isCandidate then .closedIdle else .openIdle k r

theorem State.engineEnd_of_busy {j' : Job} (hb : (u.engine e).state = .busy r j') : u.engineEnd e =
    { u with cipher := { u.cipher with
      engines := tableSet u.cipher.engines e
        { state := (u.engine e).keptKey j'.key r, closeAtEnd := false, loss := false }
      lastUse := u.cipher.lastUse.filter (fun d => decide (d ≠ e)) ++ [e] } } := by
  have hfilter : u.cipher.lastUse.filter (· != e) = u.cipher.lastUse.filter fun d => decide (d ≠ e) :=
    List.filter_congr fun d _ => by simp [bne, Bool.beq_eq_decide_eq]
  unfold State.engineEnd State.touchEngine State.setEngine Engine.keptKey
  dsimp only
  rw [hfilter, hb]

/-- An engine whose close at end mark says exactly whether its key closes ends its job as R132 has it. -/
theorem State.engineEnds_of_mark {j' : Job} (hb : (u.engine e).state = .busy r j') (hkey : j'.key = j.key)
    (hl : u.cipher.lastUse = s.cipher.lastUse) (hm : (u.engine e).closeAtEnd = true ↔ s.keyCloses u e j) :
    s.engineEnds u (u.engineEnd e) e r j := by
  have hcand := j.key.isCandidate_iff
  have hcloses : s.keyCloses u e j ∨ j.key.isCandidate = true → (u.engine e).keptKey j.key r = .closedIdle := fun h =>
    if_pos ((Bool.or_eq_true _ _).mpr (h.imp_left hm.mpr))
  rw [State.engineEnd_of_busy hb, hkey, hl]
  refine ⟨_, rfl, rfl, rfl, fun h => hcloses (h.imp .inl hcand.mpr),
    fun c hk hsc huc => hcloses (.inl (.inr (.inl ⟨c, hk, hsc, huc⟩))),
    fun n hk hn hsn hun => hcloses (.inl (.inr (.inr ⟨n, hk, hn, hsn, hun⟩))),
    fun hmark hload hroot hctx hslot => if_neg ?_⟩
  rw [Bool.or_eq_true, hm, hcand]
  rintro ((h | ⟨c, hk, hsc, huc⟩ | ⟨n, -, hk, hsn, hun⟩) | h | h)
  · exact Bool.false_ne_true (hmark.symm.trans h)
  · exact hctx c hk hsc huc
  · exact Bool.false_ne_true (hun.symm.trans (hslot n hk hsn))
  · exact hload h
  · exact hroot h

/-- The engine at the end of its job, its owner having acted in passing the slot of a scrub or leaving it. -/
theorem OwnerActs.engineEnds (h : OwnerActs P e s u) (hb : (s.engine e).state = .busy r j)
    (hslot : ∀ n, j.kind = .scrub → j.key = .slot n → (s.slot n).holdsMaterial = true →
      (u.slot n).holdsMaterial = true) : s.engineEnds u (u.engineEnd e) e r j := by
  have hheld := State.not_idle_of_busy hb e rfl
  obtain ⟨l, hl, hfreed⟩ := h.told hheld
  rw [Engine.toldOf_held hheld] at hl
  have hkeys : ∀ c, (s.engine e).holdsKeyOf c = true ↔ j.key = .tk c ∨ j.key = .sk c := fun c => by
    simp [Engine.holdsKeyOf_iff, Engine.key?, hb]
  refine State.engineEnds_of_mark (by rw [hl, hb]) rfl h.jobs.lastUse ?_
  rw [hl]
  show (_ || _) = true ↔ _
  rw [Bool.or_eq_true, List.any_eq_true]
  refine or_congr_right ⟨?_, ?_⟩
  · rintro ⟨c, hc, hk⟩
    exact .inl ⟨c, (hkeys c).mp hk, (hfreed c).mp hc⟩
  · rintro (⟨c, hk, hc⟩ | ⟨n, hk, hn, hsn, hun⟩)
    · exact ⟨c, (hfreed c).mpr hc, (hkeys c).mpr hk⟩
    · exact absurd (hun.symm.trans (hslot n hk hn hsn)) (by decide)

/-! ### The engine at the end of a scrub (R100, R102) -/

theorem State.afterScrub_slot (s : State) (m : SlotNo) : s.afterScrub.slot m = s.slot m := by
  obtain ⟨d, l, hj⟩ := s.afterScrub_frame
  exact hj.slot m

/-- A judgement leaves the part, renews the slot's check, or faults a slot that held material (R100). -/
theorem State.judgeScrub_cases (s : State) (n : SlotNo) (out : Option Block) :
    s.judgeScrub n out = s ∨ s.judgeScrub n out = s.renewed n ∨
      ((s.slot n).holdsMaterial = true ∧ s.judgeScrub n out = s.faultSlot n) := by
  cases out with
  | none => exact .inl rfl
  | some b =>
    by_cases hm : (s.slot n).holdsMaterial = true
    · by_cases hb : firstThree b = (s.slot n).kcv
      · exact .inr (.inl (State.judgeScrub_passed hm hb))
      · exact .inr (.inr ⟨hm, State.judgeScrub_failed hm hb⟩)
    · exact .inl (State.judgeScrub_left (.inr (Bool.eq_false_iff.mpr hm)))

/-- A scrub that ends without a judgement that faults its slot. -/
theorem State.afterScrub_engineEnds (h : OwnerActs (fun _ => True) e s t) (hb : (s.engine e).state = .busy r j)
    (hm : ∀ n, j.key = .slot n → (t.slot n).holdsMaterial = (s.slot n).holdsMaterial) :
    s.engineEnds t.afterScrub (t.afterScrub.engineEnd e) e r j :=
  (h.trans (State.afterScrub_acts (fun _ _ => trivial) t)).engineEnds hb fun n _ hn hsn => by
    rw [State.afterScrub_slot, hm n hn, hsn]

/-- A scrub whose slot is faulted: its own engine has been told of the loss (R138). -/
theorem State.faultSlot_engineEnds (hb : (s.engine e).state = .busy r j) (hk : j.kind = .scrub) (hn : j.key = .slot n)
    (hsn : (s.slot n).holdsMaterial = true) :
    s.engineEnds (s.faultSlot n).afterScrub ((s.faultSlot n).afterScrub.engineEnd e) e r j := by
  have hacts : OwnerActs (fun _ => True) e ((s.slotFaulted n).lossBegun n (s.slot n)) (s.faultSlot n).afterScrub :=
    (State.withdrawLoss_acts (fun _ _ => trivial) (fun _ _ _ => trivial) (s.slotFaulted n) n (s.slot n)).trans
      (State.afterScrub_acts (fun _ _ => trivial) (s.faultSlot n))
  have hbegun := (State.faultBegun_engine s n e).trans (Engine.atLoss_of_busy hb hn)
  obtain ⟨hstate, -, hclosing⟩ := (hacts.jobs.engines e).held (by rw [hbegun]; rfl)
  have hun : ((s.faultSlot n).afterScrub.slot n).holdsMaterial = false := by
    rw [State.afterScrub_slot, State.faultSlot_material]
  exact State.engineEnds_of_mark (hstate.trans (congrArg Engine.state hbegun)) rfl
    (hacts.jobs.lastUse.trans (by rw [State.faultBegun_eq]))
    ⟨fun _ => .inr (.inr ⟨n, hk, hn, hsn, hun⟩), fun _ => hclosing (by rw [hbegun])⟩

theorem State.scrub_engineEnds (hb : (s.engine e).state = .busy r j) (hk : j.kind = .scrub) (out : Option Block) :
    s.engineEnds (s.scrubEnd j out) ((s.scrubEnd j out).engineEnd e) e r j := by
  unfold State.scrubEnd
  split
  · rename_i n hn
    rcases s.judgeScrub_cases n out with hj | hj | ⟨hsn, hj⟩
    · rw [hj]
      exact State.afterScrub_engineEnds (.refl s) hb fun _ _ => rfl
    · rw [hj]
      refine State.afterScrub_engineEnds (.of_passes rfl rfl) hb fun m _ => ?_
      rw [State.renewed, State.slot_setSlot]
      split
      · next h => exact h ▸ rfl
      · rfl
    · rw [hj]
      exact State.faultSlot_engineEnds hb hk hn hsn
  all_goals exact State.afterScrub_engineEnds (.refl s) hb fun _ _ => rfl

/-- The end of any job on its engine, whatever becomes of its result. -/
theorem State.deliver_engineEnds (hb : (s.engine e).state = .busy r j) (out : Option Block) :
    s.engineEnds (s.deliver j out) ((s.deliver j out).engineEnd e) e r j := by
  by_cases hk : j.kind = .scrub
  · have hd : s.deliver j out = s.scrubEnd j out := by
      unfold State.deliver
      rw [hk]
    rw [hd]
    exact State.scrub_engineEnds hb hk out
  · exact (State.deliver_acts hk s out).engineEnds hb fun _ h => absurd h hk

/-! ### No engine has the job any more (R132, R134) -/

/-- An idle engine takes a job from the queue, and the key store may issue a scrub. -/
theorem State.arbitrate_engines (hi : (s.engine e).isIdle = true) (hs : s.allowsScrubs P)
    (hq : ∀ k ∈ s.cipher.queue, P k) (d : EngineNo) : (s.engine d).GoesOn P ((s.arbitrate e).engine d) := by
  rcases s.arbitrate_cases e with ha | ⟨q, j, hj, ha⟩
  · rw [ha]
    exact .refl _
  · have hgiven : JobsGoOn P (s.setJobs q) ((s.setJobs q).dispatch e j) :=
      State.dispatch_goesOn (s := s.setJobs q) hi (hq j hj)
    have hleft : JobsGoOn P ((s.setJobs q).dispatch e j) (s.arbitrate e) := by
      rw [ha]
      exact State.afterLeaving_goesOn (State.allowsScrubs_of_slots hs
        ((s.setJobs_jobsOnly q).trans (State.dispatch_jobsOnly _ e j)).slots) j
    exact (hgiven.trans hleft).engines d

theorem State.engineEnd_isIdle (s : State) (e : EngineNo) : ((s.engineEnd e).engine e).isIdle = true := by
  have he : (s.engineEnd e).engine e = _ := State.engine_setEngine_self s e _
  rw [he]
  cases (s.engine e).state with
  | busy r j =>
    show Engine.isIdle { state := (s.engine e).keptKey j.key r, closeAtEnd := _, loss := _ } = true
    unfold Engine.keptKey
    split <;> rfl
  | _ => rfl

theorem State.engineEnd_engine_ne (s : State) {d : EngineNo} (h : d ≠ e) :
    (s.engineEnd e).engine d = s.engine d := tableGet_tableSet_ne _ _ h

/-- A job but a scrub that was on engine e alone is on none after its end. -/
theorem State.ended_job_gone (hk : j.kind ≠ .scrub) (hon : ∀ d, d ≠ e → (s.engine d).job? ≠ some j)
    (hq : j ∉ s.cipher.queue) (out : Option Block) (d : EngineNo) :
    (((s.deliver j out).afterEnd e).engine d).job? ≠ some j := by
  have hacts := (State.deliver_acts (e := e) hk s out).jobs
  have hne : ∀ k : Job, k.kind ≠ j.kind → k ≠ j := fun k hkind he => hkind (he ▸ rfl)
  have hqueue : ∀ k ∈ ((s.deliver j out).engineEnd e).cipher.queue, k ≠ j := fun k hmem =>
    (hacts.queue k hmem).elim (fun h he => hq (he ▸ h)) (hne k)
  have hgo := State.arbitrate_engines (P := (· ≠ j)) (State.engineEnd_isIdle (s.deliver j out) e)
    (fun m forced _ he => hk (he ▸ rfl)) hqueue d
  intro hj
  have hbefore := (hgo.jobs j hj).resolve_right fun h => h rfl
  by_cases hd : d = e
  · subst hd
    exact absurd ((Engine.job?_of_isIdle (State.engineEnd_isIdle _ d)).symm.trans hbefore) nofun
  · rw [State.engineEnd_engine_ne _ hd] at hbefore
    exact ((hacts.engines d).jobs j hbefore).elim (hon d hd) fun h => h rfl

/-- The row of a job's kind ends it: its owner acts, then the engine and the arbiter go on (R132). -/
theorem exec_jobRow (h : (s.engine e).state = .busy r j) : exec (jobRow j.kind e) s =
    .next ((s.deliver j (if j.discard then none else j.output r)).afterEnd e) := by
  unfold State.deliver
  cases hk : j.kind <;> exact congrArg Host.Outcome.next (State.completeJob_busy h hk _)

/-- Settles O32: the end of a job by `State.deliver_engineEnds` and `State.ended_job_gone`, the arbiter by
`State.choice_eq`, arrivals by `State.idleEngineFor_eq_some`. -/
theorem arbiterChoosesAndCountsBypasses : Obligations.ArbiterChoosesAndCountsBypasses := by
  refine ⟨fun e s r j hb => ⟨_, _, rfl, State.deliver_engineEnds hb _, exec_jobRow hb,
    fun hk hon hq => State.ended_job_gone hk hon hq _⟩, ?_⟩
  rintro s e tests rfl
  refine ⟨fun i => ?_, State.choice_eq_none, State.arbitrate_of_choice_none, fun i j hi hj => ?_, fun j => ?_⟩
  · rw [State.choice_eq]
    exact findSome?_findIdx?_eq_some _ _ _
  · rw [State.arbitrate_engine hi hj]
    refine ⟨State.dispatch_job _ _ _, fun r hr => State.dispatch_open hr, fun ho => State.dispatch_other ho, fun ho => ?_⟩
    obtain ⟨hlt, rfl⟩ := List.getElem?_eq_some_iff.mp hj
    exact ⟨s.cipher.queue.take i, s.cipher.queue.drop (i + 1), by simp,
      List.length_take_of_le hlt.le, State.arbitrate_passOver hi hj ho⟩
  · refine ⟨State.idleEngineFor_eq_some, State.idleEngineFor_eq_none, State.arrive_of_none, fun he => ?_⟩
    rw [State.arrive_of_some he]
    exact ⟨State.dispatch_queue _ _ _, fun d hd => State.dispatch_engine_ne _ hd _, fun r hr => State.dispatch_open hr,
      State.dispatch_other⟩

end Sys2Proof.Machine
end

section
/-! SUPPORT. All that a command makes of the events: it raises some, and CLEAR-EVENTS, SET-ALERT-MASK and the resets
write them anew (R168, R171, R173, R181 to R183). -/

namespace Sys2Proof.Machine

/-- One change of the events: a raise, CLEAR-EVENTS, SET-ALERT-MASK, or the clearing of all at a reset or at HOLD exit. -/
inductive Events.Change : Events → Events → Prop
  | record (v : Events) (n : EventNo) : Events.Change v (v.record n)
  | clear (v : Events) (mask : BitVec 13) : Events.Change v (v.clear mask)
  | alertMask (v : Events) (mask : BitVec 13) : Events.Change v { v with alertMask := mask }
  | reset (v : Events) : Events.Change v Events.cleared

/-- The events of t are those of s after changes of `Events.Change`, one after another. -/
def EventsMove (s t : State) : Prop :=
  Relation.ReflTransGen Events.Change s.events t.events

namespace EventsMove

variable {s t u : State}

theorem of_eq (h : t.events = s.events) : EventsMove s t := by
  unfold EventsMove
  rw [h]

theorem refl (s : State) : EventsMove s s := of_eq rfl

theorem trans (h : EventsMove s t) (k : EventsMove t u) : EventsMove s u :=
  Relation.ReflTransGen.trans h k

/-- `trans` with the later part first, which names the state between. -/
theorem after (k : EventsMove t u) (h : EventsMove s t) : EventsMove s u :=
  h.trans k

theorem change (h : Events.Change s.events t.events) : EventsMove s t :=
  Relation.ReflTransGen.single h

theorem cleared (h : t.events = Events.cleared) : EventsMove s t :=
  change (h ▸ .reset _)

theorem of_jobsOnly (h : JobsOnly s t) : EventsMove s t :=
  of_eq h.events

/-- A meaning that acts where its condition holds and changes nothing elsewhere (log 1). -/
theorem ite {p : Prop} [Decidable p] (h : EventsMove s t) : EventsMove s (if p then t else s) := by
  split
  · exact h
  · exact refl s

/-- Work done for each entry of a list. -/
theorem foldl {α : Type} {f : State → α → State} (h : ∀ s a, EventsMove s (f s a)) (l : List α) (s : State) :
    EventsMove s (l.foldl f s) := by
  induction l generalizing s with
  | nil => exact refl s
  | cons a l ih => exact (h s a).trans (ih _)

end EventsMove

theorem State.raise_eventsMove (s : State) (v : Event) : EventsMove s (s.raise v) :=
  .change (s.raise_events v ▸ .record _ _)

/-! ### Releases and the end of a pass (R53, R57, R58) -/

theorem State.offerClose_eventsMove (s : State) (z : ZoneNo) (tag : TagNumber) (ok : Bool) :
    EventsMove s (s.offerClose z tag ok) := by
  unfold State.offerClose
  split
  · exact .of_eq rfl
  · exact s.raise_eventsMove _

theorem State.stall_eventsMove (s : State) (c : ContextNo) : EventsMove s (s.stall c) := by
  unfold State.stall
  split
  · exact .refl s
  · exact .after (State.raise_eventsMove _ _) (.of_eq rfl)

theorem State.releaseHeads_eventsMove (k : Nat) (z : ZoneNo) (s : State) : EventsMove s (s.releaseHeads k z) := by
  induction k generalizing s with
  | zero => exact .refl s
  | succ k ih =>
    unfold State.releaseHeads
    split
    · exact .refl s
    · split
      · exact .refl s
      · split
        · split
          · exact .after (ih _) (.of_eq rfl)
          · exact s.stall_eventsMove _
        · exact .refl s

theorem State.attemptRelease_eventsMove (s : State) (z : ZoneNo) : EventsMove s (s.attemptRelease z) :=
  State.releaseHeads_eventsMove _ _ _

theorem State.handRecent_events (s : State) (x : Context) (r : PassResult) : (s.handRecent x r).events = s.events := by
  unfold State.handRecent
  split <;> rfl

theorem State.endPass_eventsMove (s : State) (c : ContextNo) (r : PassResult) : EventsMove s (s.endPass c r) := by
  unfold State.endPass
  split
  · exact .refl s
  · refine .after (State.attemptRelease_eventsMove _ _) (.after (.of_eq (State.handRecent_events _ _ _))
      (.after (State.offerClose_eventsMove _ _ _ _) ?_))
    split
    · exact .after (.of_jobsOnly (State.dropQueuedJob_jobsOnly _ _)) (.of_eq rfl)
    · exact .of_eq rfl

theorem State.queueStep_events (s : State) (c : ContextNo) : (s.queueStep c).events = s.events := by
  unfold State.queueStep
  split
  · split <;> rfl
  · rfl

theorem State.retryOrEnd_eventsMove (s : State) (c : ContextNo) : EventsMove s (s.retryOrEnd c) := by
  unfold State.retryOrEnd
  split
  · exact .refl s
  · split
    · exact .of_eq (State.queueStep_events _ c)
    · exact s.endPass_eventsMove c _

theorem State.expireStep_eventsMove (s : State) (c : ContextNo) : EventsMove s (s.expireStep c) := by
  unfold State.expireStep
  split
  · exact .ite (State.retryOrEnd_eventsMove (s.modContext c _) c)
  · exact .refl s

theorem State.reportSent_eventsMove (s : State) (o : Option ContextNo) (t : Tick) :
    EventsMove s (s.reportSent o t) := by
  unfold State.reportSent
  split
  · exact .refl s
  · split
    · exact .ite (State.expireStep_eventsMove (s.setContext _ _) _)
    · exact .refl s

theorem State.reportFailed_eventsMove (s : State) (o : Option ContextNo) : EventsMove s (s.reportFailed o) := by
  unfold State.reportFailed
  split
  · exact .refl s
  · split
    · exact .ite (s.retryOrEnd_eventsMove _)
    · exact .refl s

/-! ### The steps of a pass (R29 to R33, R43 to R54) -/

theorem State.issueFor_eventsMove (s : State) (c : ContextNo) (kind : JobKind) (key : KeyId) (input : List Block) :
    EventsMove s (s.issueFor c kind key input) :=
  .of_jobsOnly (s.issueFor_jobsOnly c kind key input)

theorem State.scrubTest_eventsMove (s : State) : EventsMove s s.scrubTest :=
  .of_jobsOnly s.scrubTest_jobsOnly

theorem State.arrive_eventsMove (s : State) (j : Job) : EventsMove s (s.arrive j) :=
  .of_jobsOnly (s.arrive_jobsOnly j)

theorem State.endNoWrite_eventsMove (s : State) (c : ContextNo) : EventsMove s (s.endNoWrite c) :=
  State.endPass_eventsMove (s.modContext c _) c _

theorem State.compose_eventsMove (s : State) (c : ContextNo) : EventsMove s (s.compose c) := by
  unfold State.compose
  split
  · exact .refl s
  · split
    · exact s.endNoWrite_eventsMove c
    · split
      · exact s.endNoWrite_eventsMove c
      · exact State.issueFor_eventsMove (s.setContext c _) _ _ _ _

theorem State.afterCheck_eventsMove (s : State) (c : ContextNo) : EventsMove s (s.afterCheck c) := by
  unfold State.afterCheck
  split
  · exact .refl s
  · split
    · exact s.endPass_eventsMove c _
    · exact s.compose_eventsMove c

theorem State.settleCheck_eventsMove (s : State) (c : ContextNo) (o : RecordCheck) : EventsMove s (s.settleCheck c o) :=
  State.afterCheck_eventsMove (s.modContext c _) c

theorem State.recordCheck_eventsMove (s : State) (c : ContextNo) (x : Context) : EventsMove s (s.recordCheck c x) := by
  unfold State.recordCheck
  split
  · exact s.settleCheck_eventsMove c _
  · split
    · exact s.settleCheck_eventsMove c _
    · split
      · exact s.settleCheck_eventsMove c _
      · exact s.issueFor_eventsMove _ _ _ _

theorem State.taVerified_eventsMove (s : State) (c : ContextNo) (x : Context) : EventsMove s (s.taVerified c x) := by
  unfold State.taVerified
  dsimp only
  split
  · exact State.recordCheck_eventsMove (s.setContext c _) c _
  · exact State.afterCheck_eventsMove (s.setContext c _) c

theorem State.standBehind_events (s : State) (c : ContextNo) (x : Context) (st : PassState) (f : StepFrame) :
    (s.standBehind c x st f).events = s.events :=
  State.queueStep_events (s.setContext c _) c

theorem State.issueSession_eventsMove (s : State) (c : ContextNo) : EventsMove s (s.issueSession c) := by
  unfold State.issueSession
  split
  · exact .refl s
  · exact s.issueFor_eventsMove _ _ _ _

theorem State.expireLifetime_eventsMove (s : State) (c : ContextNo) : EventsMove s (s.expireLifetime c) := by
  unfold State.expireLifetime
  split
  · exact .ite (s.endPass_eventsMove c _)
  · exact .refl s

/-! ### Frames at the two ports (R1 to R3, R12, R13, R39 to R42, R47, R51, R56, R158 to R161) -/

theorem State.forward_eventsMove (s : State) (kind : Byte) (p : List Byte) : EventsMove s (s.forward kind p) := by
  unfold State.forward
  split
  · exact .of_eq rfl
  · exact s.raise_eventsMove _

theorem State.uplink_eventsMove (s : State) (kind : Byte) (f : PortFrame) {act : State → State}
    (h : EventsMove s (act s)) : EventsMove s (s.uplink kind f act) := by
  unfold State.uplink
  repeat' split
  · exact .refl s
  · exact .refl s
  · exact h
  · exact s.raise_eventsMove _

theorem State.offerTagFrame_eventsMove (s : State) (kind : Byte) (p : List Byte) {judge : State → List Byte → State}
    (h : EventsMove s (judge s p)) : EventsMove s (s.offerTagFrame kind p judge) := by
  unfold State.offerTagFrame
  split
  · exact s.forward_eventsMove _ _
  · exact h

theorem State.stray_eventsMove (s : State) (kind : Byte) (p : List Byte) (held : Bool) :
    EventsMove s (s.stray kind p held) := by
  unfold State.stray
  split
  · exact s.forward_eventsMove _ _
  · exact s.raise_eventsMove _

theorem State.openDone_eventsMove (s : State) (c : ContextNo) (h : Hello) (r : PassResult) (flags : PassFlags) :
    EventsMove s (s.openDone c h r flags) := by
  unfold State.openDone
  refine .after (State.attemptRelease_eventsMove _ _) ?_
  split
  · exact State.raise_eventsMove (s.openContext c _) _
  · exact State.offerClose_eventsMove (s.openContext c _) _ _ _

theorem State.openKeying_eventsMove (s : State) (c : ContextNo) (h : Hello) (n : SlotNo) (flags : PassFlags) :
    EventsMove s (s.openKeying c h n flags) := by
  unfold State.openKeying
  dsimp only
  split
  · exact .after (State.issueSession_eventsMove _ c) (.of_eq rfl)
  · exact .after (State.issueFor_eventsMove _ _ _ _ _) (.of_eq rfl)

theorem State.openFresh_eventsMove (s : State) (c : ContextNo) (h : Hello) (u : Bool) :
    EventsMove s (s.openFresh c h u) := by
  unfold State.openFresh
  split
  · exact s.openKeying_eventsMove _ _ _ _
  · exact s.openDone_eventsMove _ _ _ _

theorem State.judgeRecent_eventsMove (s : State) (c : ContextNo) (h : Hello) : EventsMove s (s.judgeRecent c h) := by
  unfold State.judgeRecent
  dsimp only
  split
  · exact .of_eq rfl
  · exact State.openDone_eventsMove s.ageRecent _ _ _ _
  · exact State.openFresh_eventsMove s.ageRecent _ _ _

theorem State.judgeHello_eventsMove (s : State) (p : List Byte) : EventsMove s (s.judgeHello p) := by
  unfold State.judgeHello State.joinContext
  dsimp only
  repeat' split
  · exact .refl s
  · exact .of_eq rfl
  · exact .refl s
  · exact s.judgeRecent_eventsMove _ _
  · exact s.raise_eventsMove _
  · exact s.forward_eventsMove _ _

theorem State.judgeData_eventsMove (s : State) (p : List Byte) : EventsMove s (s.judgeData p) := by
  unfold State.judgeData State.takeData
  dsimp only
  repeat' split
  · exact .after (State.endPass_eventsMove _ _ _) (.of_eq rfl)
  · exact .after (State.issueFor_eventsMove _ _ _ _ _) (.of_eq rfl)
  · exact s.stray_eventsMove _ _ _
  · exact .refl s
  · exact s.stray_eventsMove _ _ _

theorem State.judgeCommit_eventsMove (s : State) (p : List Byte) : EventsMove s (s.judgeCommit p) := by
  unfold State.judgeCommit State.takeCommit
  dsimp only
  repeat' split
  · exact .after (State.endPass_eventsMove _ _ _) (.of_eq rfl)
  · exact .after (State.issueFor_eventsMove _ _ _ _ _) (.of_eq rfl)
  · exact s.stray_eventsMove _ _ _
  · exact .refl s
  · exact s.stray_eventsMove _ _ _

theorem State.takeSent_eventsMove (s : State) (p : List Byte) : EventsMove s (s.takeSent p) := by
  unfold State.takeSent
  split
  · exact .refl s
  · exact State.reportSent_eventsMove (s.removeConfirm _) _ _

theorem State.takeSendFailed_eventsMove (s : State) (p : List Byte) : EventsMove s (s.takeSendFailed p) := by
  unfold State.takeSendFailed
  split
  · exact .refl s
  · exact State.reportFailed_eventsMove (s.removeConfirm _) _

theorem execOther_eventsMove (kind : Byte) (f : PortFrame) (s : State) :
    ∃ t, execOther kind f s = .next t ∧ EventsMove s t := by
  unfold execOther
  repeat' split
  · exact ⟨_, rfl, s.uplink_eventsMove _ f (s.offerTagFrame_eventsMove _ _ (s.judgeHello_eventsMove _))⟩
  · exact ⟨_, rfl, s.uplink_eventsMove _ f (s.offerTagFrame_eventsMove _ _ (s.judgeData_eventsMove _))⟩
  · exact ⟨_, rfl, s.uplink_eventsMove _ f (s.offerTagFrame_eventsMove _ _ (s.judgeCommit_eventsMove _))⟩
  · exact ⟨_, rfl, s.uplink_eventsMove _ f (.of_eq rfl)⟩
  · exact ⟨_, rfl, s.uplink_eventsMove _ f (s.takeSent_eventsMove _)⟩
  · exact ⟨_, rfl, s.uplink_eventsMove _ f (s.takeSendFailed_eventsMove _)⟩
  · exact ⟨_, rfl, s.uplink_eventsMove _ f (s.forward_eventsMove _ _)⟩

theorem execConfirmationDeadline_eventsMove (h : Byte) (s : State) :
    ∃ t, execConfirmationDeadline h s = .next t ∧ EventsMove s t := by
  refine ⟨_, rfl, ?_⟩
  split
  · exact .ite (State.reportFailed_eventsMove (s.removeConfirm _) _)
  · exact .refl s

theorem State.offerPassthrough_eventsMove (s : State) (p : List Byte) : EventsMove s (s.offerPassthrough p) := by
  unfold State.offerPassthrough
  split
  · exact .of_eq rfl
  · exact s.raise_eventsMove _

theorem State.portAnswer_eventsMove (s : State) (tag code : Byte) (st : Status) :
    EventsMove s (s.portAnswer tag code st) := by
  unfold State.portAnswer
  split
  · exact .of_eq rfl
  · exact s.raise_eventsMove _

theorem State.arriveRequest_eventsMove (s : State) (p : List Byte) : EventsMove s (s.arriveRequest p) := by
  unfold State.arriveRequest
  repeat' split
  · exact s.raise_eventsMove _
  · exact .of_eq rfl
  · exact s.portAnswer_eventsMove _ _ _
  · exact s.portAnswer_eventsMove _ _ _

theorem State.laneFrame_eventsMove (s : State) (cls : Byte) (f : PortFrame) : EventsMove s (s.laneFrame cls f) := by
  unfold State.laneFrame
  repeat' split
  · exact .refl s
  · exact s.offerPassthrough_eventsMove _
  · exact s.arriveRequest_eventsMove _
  · exact s.raise_eventsMove _
  · exact s.raise_eventsMove _

theorem State.enterHeld_events (s : State) : s.enterHeld.events = s.events := by
  unfold State.enterHeld
  split <;> rfl

theorem State.releaseStalled_eventsMove (s : State) : EventsMove s s.releaseStalled := by
  unfold State.releaseStalled
  split
  · exact .refl s
  · dsimp only
    split
    · exact .after (State.attemptRelease_eventsMove _ _) (.of_eq rfl)
    · exact .of_eq rfl

theorem State.startLaneSend_eventsMove (s : State) : EventsMove s s.startLaneSend := by
  unfold State.startLaneSend
  split
  · exact .of_eq (State.enterHeld_events _)
  · exact .after (State.releaseStalled_eventsMove _) (.of_eq rfl)
  · exact .refl s

/-! ### Answers and the key store (R84 to R106, R119, R166) -/

@[simp] theorem State.sendResponse_events (s : State) (r : Response) : (s.sendResponse r).events = s.events := by
  unfold State.sendResponse
  split <;> rfl

@[simp] theorem State.respond_events (s : State) (q : Request) (st : Status) (data : List Byte) :
    (s.respond q st data).events = s.events :=
  s.sendResponse_events _

@[simp] theorem State.finish_events (s : State) (st : Status) (data : List Byte) :
    (s.finish st data).events = s.events := by
  unfold State.finish
  split
  · rfl
  · exact State.sendResponse_events _ _

@[simp] theorem State.discardTwoPart_events (s : State) : s.discardTwoPart.events = s.events := by
  unfold State.discardTwoPart
  split <;> rfl

theorem State.failLoad_events (s : State) (st : Status) : (s.failLoad st).events = s.events :=
  (State.finish_events _ _ _).trans s.discardTwoPart_events

@[simp] theorem State.setWriteGen_events (s : State) (g : Option Generation) : (s.setWriteGen g).events = s.events := by
  unfold State.setWriteGen
  split <;> rfl

@[simp] theorem State.clearWriteGenOf_events (s : State) (x : Slot) : (s.clearWriteGenOf x).events = s.events := by
  unfold State.clearWriteGenOf
  split
  · exact s.setWriteGen_events none
  · rfl

@[simp] theorem State.dropCacheOf_events (s : State) (x : Slot) : (s.dropCacheOf x).events = s.events := by
  unfold State.dropCacheOf
  split <;> rfl

theorem State.jobRemoved_eventsMove (s : State) (j : Job) : EventsMove s (s.jobRemoved j) := by
  unfold State.jobRemoved
  split
  · exact State.scrubTest_eventsMove (s.setOutstanding none)
  · exact .of_eq (s.failLoad_events _)
  · rename_i c _
    have hs : EventsMove s (s.modContext c fun x => { x with currentJob := .idle }).scrubTest :=
      State.scrubTest_eventsMove (s.modContext c _)
    cases j.kind with
    | recordCompute => exact hs.trans (State.endNoWrite_eventsMove _ c)
    | recordVerify => exact hs.trans (State.settleCheck_eventsMove _ c _)
    | _ => exact hs

theorem State.masterLost_eventsMove (s : State) (n : SlotNo) (c : ContextNo) : EventsMove s (s.masterLost n c) := by
  unfold State.masterLost
  split
  · exact .ite (s.endPass_eventsMove c _)
  · exact .refl s

theorem State.withdrawLoss_eventsMove (s : State) (n : SlotNo) (x : Slot) : EventsMove s (s.withdrawLoss n x) := by
  have hnotes : EventsMove s ((((s.clearWriteGenOf x).dropCacheOf x).tellEngines (Engine.atLoss n)).removeJobs n) :=
    .of_eq (((s.clearWriteGenOf x).dropCacheOf_events x).trans (s.clearWriteGenOf_events x))
  have hjobs := hnotes.trans (.foldl State.jobRemoved_eventsMove (s.cipher.queue.filter (Job.names n)) _)
  unfold State.withdrawLoss
  dsimp only
  split
  · exact hjobs.trans (.foldl (fun t c => t.masterLost_eventsMove n c) _ _)
  · exact hjobs

theorem State.faultSlot_eventsMove (s : State) (n : SlotNo) : EventsMove s (s.faultSlot n) :=
  .after (State.withdrawLoss_eventsMove _ n _) (State.raise_eventsMove (s.changeSlot n _) _)

theorem State.beginErase_eventsMove (s : State) (n : SlotNo) : EventsMove s (s.beginErase n) :=
  State.withdrawLoss_eventsMove (s.changeSlot n _) n _

theorem State.expireSlot_eventsMove (s : State) (n : SlotNo) : EventsMove s (s.expireSlot n) := by
  unfold State.expireSlot
  refine .after (State.raise_eventsMove _ _) (.of_eq ?_)
  split
  · rfl
  · exact (State.dropCacheOf_events _ _).trans (State.clearWriteGenOf_events _ _)

theorem State.walkSlot_eventsMove (m : Minute) (s : State) (n : SlotNo) : EventsMove s (s.walkSlot m n) := by
  unfold State.walkSlot
  dsimp only
  repeat' split
  · exact s.expireSlot_eventsMove n
  · exact .of_eq rfl
  · exact .refl s

theorem State.walk_eventsMove (s : State) (m : Minute) : EventsMove s (s.walk m) :=
  .foldl (State.walkSlot_eventsMove m) _ s

theorem State.advanceCalendar_eventsMove (s : State) : EventsMove s s.advanceCalendar := by
  unfold State.advanceCalendar
  dsimp only
  split
  · exact .of_eq rfl
  · exact .after (State.walk_eventsMove _ _) (.of_eq rfl)

theorem State.continueInitCheck_eventsMove (s : State) : EventsMove s s.continueInitCheck := by
  unfold State.continueInitCheck
  split
  · exact .after (State.scrubTest_eventsMove _) (.of_eq rfl)
  · exact .of_jobsOnly (s.issueScrub_jobsOnly _ _)

theorem State.judgeScrub_eventsMove (s : State) (n : SlotNo) (out : Option Block) : EventsMove s (s.judgeScrub n out) := by
  unfold State.judgeScrub
  dsimp only
  repeat' split
  · exact .refl s
  · exact .of_eq rfl
  · exact s.faultSlot_eventsMove n
  · exact .refl s

theorem State.afterScrub_eventsMove (s : State) : EventsMove s s.afterScrub := by
  unfold State.afterScrub
  dsimp only
  split
  · exact .after (State.continueInitCheck_eventsMove _) (.of_eq rfl)
  · exact State.scrubTest_eventsMove (s.setOutstanding none)

theorem execEraseCompletion_eventsMove (s : State) : ∃ t, execEraseCompletion s = .next t ∧ EventsMove s t := by
  refine ⟨_, rfl, ?_⟩
  split
  · exact .of_eq (State.finish_events _ _ _)
  · exact .refl s

/-! ### The ends of jobs (R132, R133) -/

/-- The end of a context's job moves the events as the actions it may take do (R133). -/
theorem State.contextJobEnd_eventsMove (s : State) (j : Job) (stage : PassState) (out : Option Block)
    {onResult : ContextNo → Context → Block → State → State} {onLost : ContextNo → State → State}
    (hr : ∀ c x r t, EventsMove t (onResult c x r t)) (hl : ∀ c t, EventsMove t (onLost c t)) :
    EventsMove s (s.contextJobEnd j stage out onResult onLost) := by
  unfold State.contextJobEnd
  dsimp only
  repeat' split
  · exact .refl s
  · exact .refl s
  · exact .refl s
  · exact State.attemptRelease_eventsMove (s.setContext _ _) _
  · exact .after (hr _ _ _ _) (.of_eq rfl)
  · exact .after (hl _ _) (.of_eq rfl)
  · exact .of_eq rfl

theorem State.cacheOffer_events (s : State) (bound : Option SlotNo) (x : CacheEntry) :
    (s.cacheOffer bound x).events = s.events := by
  unfold State.cacheOffer
  split
  · split <;> rfl
  · rfl

theorem State.deriveEnd_eventsMove (s : State) (j : Job) (out : Option Block) : EventsMove s (s.deriveEnd j out) :=
  s.contextJobEnd_eventsMove _ _ _
    (fun _ _ _ _ => .after (State.issueSession_eventsMove _ _) (.of_eq (State.cacheOffer_events _ _ _)))
    fun _ t => .refl t

theorem State.sessionEnd_eventsMove (s : State) (j : Job) (out : Option Block) : EventsMove s (s.sessionEnd j out) :=
  s.contextJobEnd_eventsMove _ _ _ (fun c _ _ t => State.issueFor_eventsMove (t.setContext c _) _ _ _ _)
    fun _ t => .refl t

theorem State.raEnd_eventsMove (s : State) (j : Job) (out : Option Block) : EventsMove s (s.raEnd j out) :=
  s.contextJobEnd_eventsMove _ _ _ (fun _ _ _ _ => .of_eq (State.standBehind_events _ _ _ _ _)) fun _ t => .refl t

theorem State.taEnd_eventsMove (s : State) (j : Job) (out : Option Block) : EventsMove s (s.taEnd j out) := by
  refine s.contextJobEnd_eventsMove _ _ _ (fun c _ _ t => ?_) fun _ t => .refl t
  split
  · exact State.taVerified_eventsMove _ _ _
  · exact State.endPass_eventsMove (t.setContext c _) _ _

theorem State.waEnd_eventsMove (s : State) (j : Job) (out : Option Block) : EventsMove s (s.waEnd j out) :=
  s.contextJobEnd_eventsMove _ _ _ (fun _ _ _ _ => .of_eq (State.standBehind_events _ _ _ _ _)) fun _ t => .refl t

theorem State.caEnd_eventsMove (s : State) (j : Job) (out : Option Block) : EventsMove s (s.caEnd j out) :=
  s.contextJobEnd_eventsMove _ _ _ (fun _ _ _ _ => State.endPass_eventsMove _ _ _) fun _ t => .refl t

theorem State.computeEnd_eventsMove (s : State) (j : Job) (out : Option Block) : EventsMove s (s.computeEnd j out) := by
  refine s.contextJobEnd_eventsMove _ _ _ (fun c _ _ t => ?_) fun _ _ => State.endNoWrite_eventsMove _ _
  split
  · exact State.issueFor_eventsMove (t.setContext c _) _ _ _ _
  · exact State.endNoWrite_eventsMove _ _

theorem State.verifyEnd_eventsMove (s : State) (j : Job) (out : Option Block) : EventsMove s (s.verifyEnd j out) :=
  s.contextJobEnd_eventsMove _ _ _ (fun _ _ _ _ => State.settleCheck_eventsMove _ _ _)
    fun _ _ => State.settleCheck_eventsMove _ _ _

theorem State.unwrapEnd_eventsMove (s : State) (j : Job) (out : Option Block) : EventsMove s (s.unwrapEnd j out) := by
  unfold State.unwrapEnd
  split
  · exact .after (State.arrive_eventsMove _ _) (.of_eq rfl)
  · exact .of_eq (s.failLoad_events _)

theorem State.kcvEnd_eventsMove (s : State) (j : Job) (out : Option Block) : EventsMove s (s.kcvEnd j out) := by
  unfold State.kcvEnd
  repeat' split
  · exact .of_eq (s.failLoad_events _)
  · exact .after (.of_eq (State.finish_events _ _ _)) (.after (State.scrubTest_eventsMove _) (.of_eq rfl))
  · exact .after (.of_eq (State.finish_events _ _ _)) (.after (State.raise_eventsMove _ _)
      (.of_eq s.discardTwoPart_events))
  · exact .of_eq (s.failLoad_events _)

theorem State.combineEnd_eventsMove (s : State) (j : Job) (out : Option Block) : EventsMove s (s.combineEnd j out) := by
  unfold State.combineEnd
  repeat' split
  · exact .after (.of_eq (State.finish_events _ _ _)) (.after (State.scrubTest_eventsMove _) (.of_eq rfl))
  · exact .after (.of_eq (State.finish_events _ _ _)) (State.raise_eventsMove s.clearTwoPart _)
  · exact .of_eq (State.finish_events _ _ _)

theorem State.scrubEnd_eventsMove (s : State) (j : Job) (out : Option Block) : EventsMove s (s.scrubEnd j out) := by
  unfold State.scrubEnd
  split
  · exact (s.judgeScrub_eventsMove _ out).trans (State.afterScrub_eventsMove _)
  all_goals exact s.afterScrub_eventsMove

/-- An owner moves the events at the end of its job by changes of `Events.Change` (R133). -/
theorem State.deliver_eventsMove (s : State) (j : Job) (out : Option Block) : EventsMove s (s.deliver j out) := by
  unfold State.deliver
  cases j.kind with
  | derive => exact s.deriveEnd_eventsMove j out
  | session => exact s.sessionEnd_eventsMove j out
  | ra => exact s.raEnd_eventsMove j out
  | ta => exact s.taEnd_eventsMove j out
  | wa => exact s.waEnd_eventsMove j out
  | ca => exact s.caEnd_eventsMove j out
  | recordCompute => exact s.computeEnd_eventsMove j out
  | recordVerify => exact s.verifyEnd_eventsMove j out
  | unwrap => exact s.unwrapEnd_eventsMove j out
  | kcv => exact s.kcvEnd_eventsMove j out
  | combine => exact s.combineEnd_eventsMove j out
  | scrub => exact s.scrubEnd_eventsMove j out

/-- The completion of a job moves the events as its owner's action does (R132). -/
theorem State.completeJob_eventsMove (s : State) (e : EngineNo) (kind : JobKind)
    {act : Job → Option Block → State → State} (h : ∀ j out, EventsMove s (act j out s)) :
    EventsMove s (s.completeJob e kind act) := by
  unfold State.completeJob
  split
  · exact .ite ((h _ _).trans (.of_jobsOnly (State.afterEnd_jobsOnly _ e)))
  all_goals exact .refl s

theorem State.completeOpening_eventsMove (s : State) (e : EngineNo) : EventsMove s (s.completeOpening e) := by
  unfold State.completeOpening
  dsimp only
  repeat' split
  · exact (s.deliver_eventsMove _ _).trans (.of_jobsOnly (State.afterEnd_jobsOnly _ e))
  all_goals exact .of_eq rfl

end Sys2Proof.Machine
end

section
/-! PROOF. Every step keeps each event flag set exactly while its counter is above 0 (R168, R171). -/

namespace Sys2Proof.Machine

/-! ### Each change keeps the law (R168, R171) -/

/-- CLEAR-EVENTS clears the flags it names (R171). -/
theorem Events.flag_clear (v : Events) (mask : BitVec 13) (n : EventNo) :
    (v.clear mask).flag n = (v.flag n && !mask.getLsbD n.val) := by
  simp [Events.flag, Events.clear]

/-- CLEAR-EVENTS clears the counters it names (R171). -/
theorem Events.counter_clear (v : Events) (mask : BitVec 13) (n : EventNo) :
    tableGet (v.clear mask).counters n = if mask.getLsbD n.val then 0 else tableGet v.counters n :=
  tableGet_tableMap _ _ _

theorem Events.lawful_cleared : Events.cleared.lawful := by
  intro n
  rw [show tableGet Events.cleared.counters n = 0 from tableGet_replicate _ n]
  simp [Events.cleared, Events.flag]

theorem Events.lawful_clear {v : Events} (h : v.lawful) (mask : BitVec 13) : (v.clear mask).lawful := by
  intro n
  rw [Events.flag_clear, Events.counter_clear]
  cases mask.getLsbD n.val with
  | true => simp
  | false => simpa using h n

theorem Events.Change.lawful {v w : Events} (h : v.Change w) (hv : v.lawful) : w.lawful := by
  cases h with
  | record n => exact fun m => v.lawful_record_aux n m (hv m)
  | clear mask => exact Events.lawful_clear hv mask
  | alertMask mask => exact hv
  | reset => exact Events.lawful_cleared

theorem Events.lawful_of_changes {v w : Events} (h : Relation.ReflTransGen Events.Change v w) (hv : v.lawful) :
    w.lawful := by
  induction h with
  | refl => exact hv
  | tail _ hc ih => exact hc.lawful ih

theorem EventsMove.lawful {s t : State} (h : EventsMove s t) (hs : s.events.lawful) : t.events.lawful :=
  Events.lawful_of_changes h hs

/-! ### Requests (R165) -/

/-- A request row moves the events as its judgement does. -/
theorem State.take_eventsMove (s : State) (fits : Byte → Bool) {judge : Request → State → State}
    (h : ∀ q t, EventsMove t (judge q t)) : EventsMove s (s.take fits judge) := by
  unfold State.take
  split
  · exact h _ s.popRequest
  · exact .refl s

theorem underOrder_eventsMove {judge : Request → State → State} (h : ∀ q t, EventsMove t (judge q t)) (q : Request)
    (s : State) : EventsMove s (underOrder judge q s) := by
  unfold underOrder
  split
  · exact h q s
  · exact .of_eq (by simp)

theorem outsideInit_eventsMove {judge : Request → State → State} (h : ∀ q t, EventsMove t (judge q t)) (q : Request)
    (s : State) : EventsMove s (outsideInit judge q s) := by
  unfold outsideInit
  split
  · exact .of_eq (by simp)
  · exact h q s

theorem State.takeRequest_eventsMove (s : State) (code : Byte) {judge : Request → State → State}
    (h : ∀ q t, EventsMove t (judge q t)) : EventsMove s (s.takeRequest code judge) :=
  s.take_eventsMove _ (underOrder_eventsMove (outsideInit_eventsMove h))

theorem judgeClearEvents_eventsMove (q : Request) (s : State) : EventsMove s (judgeClearEvents q s) := by
  unfold judgeClearEvents
  split
  · exact .after (.of_eq (State.respond_events _ _ _ _)) (.change (.clear _ _))
  · exact .of_eq (s.respond_events _ _ _)

theorem judgeSetAlertMask_eventsMove (q : Request) (s : State) : EventsMove s (judgeSetAlertMask q s) := by
  unfold judgeSetAlertMask
  split
  · exact .after (.of_eq (State.respond_events _ _ _ _)) (.change (.alertMask _ _))
  · exact .of_eq (s.respond_events _ _ _)

theorem judgeSetProfile_events (q : Request) (s : State) : (judgeSetProfile q s).events = s.events := by
  unfold judgeSetProfile
  dsimp only
  repeat' split
  all_goals exact State.respond_events _ _ _ _

theorem State.timingChanged_events (s : State) (old : LaneProfile) : (s.timingChanged old).events = s.events := by
  unfold State.timingChanged
  dsimp only
  repeat' split
  · exact s.noteOverdue_jobsOnly.events
  · rfl
  · exact s.ageRecent.noteOverdue_jobsOnly.events
  · rfl

theorem judgeSetTiming_events (q : Request) (s : State) : (judgeSetTiming q s).events = s.events :=
  (State.respond_events _ _ _ _).trans (State.timingChanged_events _ _)

theorem judgeSetService_events (q : Request) (s : State) : (judgeSetService q s).events = s.events := by
  have hmaintenance : s.enterMaintenance.events = s.events := (State.scrubTest_jobsOnly _).events
  unfold judgeSetService judgeServiceOff judgeServiceOn
  dsimp only
  repeat' split
  all_goals simp [hmaintenance]

theorem judgeSetCalendar_eventsMove (q : Request) (s : State) : EventsMove s (judgeSetCalendar q s) :=
  .after (.of_eq (State.respond_events _ _ _ _)) (.after (State.walk_eventsMove _ _) (.of_eq rfl))

theorem judgeRootPart1_events (q : Request) (s : State) : (judgeRootPart1 q s).events = s.events := by
  unfold judgeRootPart1
  repeat' split
  all_goals exact State.respond_events _ _ _ _

theorem judgeRootPart2_eventsMove (q : Request) (s : State) : EventsMove s (judgeRootPart2 q s) := by
  unfold judgeRootPart2
  split
  · exact outsideInit_eventsMove (fun q t => State.arrive_eventsMove (t.takeInHand q _) _) q s
  all_goals exact .of_eq (by simp)

theorem judgeLockRoot_events (q : Request) (s : State) : (judgeLockRoot q s).events = s.events := by
  unfold judgeLockRoot
  split <;> exact State.respond_events _ _ _ _

theorem judgeKeyLoadA_events (q : Request) (s : State) : (judgeKeyLoadA q s).events = s.events := by
  unfold judgeKeyLoadA
  dsimp only
  repeat' split
  all_goals exact State.respond_events _ _ _ _

theorem startUnwrap_eventsMove (f : LoadFields) (q : Request) (s : State) : EventsMove s (startUnwrap f q s) := by
  unfold startUnwrap
  split
  · exact State.arrive_eventsMove (s.takeInHand q _) _
  · exact .of_eq (by simp)

theorem judgeKeyLoadB_eventsMove (q : Request) (s : State) : EventsMove s (judgeKeyLoadB q s) := by
  unfold judgeKeyLoadB
  repeat' split
  · exact outsideInit_eventsMove (startUnwrap_eventsMove _) q s
  all_goals exact .of_eq (by simp)

theorem judgeActivate_events (q : Request) (s : State) : (judgeActivate q s).events = s.events := by
  unfold judgeActivate
  repeat' split
  all_goals exact State.respond_events _ _ _ _

theorem judgeRetire_events (q : Request) (s : State) : (judgeRetire q s).events = s.events := by
  unfold judgeRetire
  dsimp only
  repeat' split
  all_goals simp

theorem judgeErase_eventsMove (q : Request) (s : State) : EventsMove s (judgeErase q s) := by
  unfold judgeErase
  dsimp only
  repeat' split
  · exact .of_eq (s.respond_events _ _ _)
  · exact .of_eq (s.respond_events _ _ _)
  · exact .of_eq (s.respond_events _ _ _)
  · exact (s.beginErase_eventsMove _).trans (.of_eq rfl)
  · exact (s.beginErase_eventsMove _).trans (.of_eq (State.respond_events _ _ _ _))

theorem judgeSelectWriteGen_events (q : Request) (s : State) : (judgeSelectWriteGen q s).events = s.events := by
  unfold judgeSelectWriteGen
  dsimp only
  repeat' split
  all_goals simp

theorem judgeReadSlot_events (q : Request) (s : State) : (judgeReadSlot q s).events = s.events := by
  unfold judgeReadSlot
  split <;> exact State.respond_events _ _ _ _

/-! ### Wipes, resets and lines (R123, R176, R179, R181 to R183) -/

theorem State.wipe_eventsMove (s : State) : EventsMove s s.wipe := by
  rw [State.wipe_eq]
  exact .after (State.raise_eventsMove _ _) (.of_eq rfl)

theorem State.wipes_eventsMove (k : Nat) (s : State) : EventsMove s (s.wipes k) := by
  induction k generalizing s with
  | zero => exact .refl s
  | succ k ih => exact s.wipe_eventsMove.trans (ih _)

theorem State.enterInit_eventsMove (s : State) : EventsMove s s.enterInit :=
  .after (State.wipes_eventsMove _ _) (.after (State.continueInitCheck_eventsMove _) (.of_eq rfl))

theorem State.exitHold_eventsMove (s : State) : EventsMove s s.exitHold := by
  unfold State.exitHold
  dsimp only
  split
  · exact .cleared rfl
  · exact .after (State.enterInit_eventsMove _) (.cleared rfl)

theorem State.leaveHold_eventsMove (s : State) : EventsMove s s.leaveHold :=
  .ite s.exitHold_eventsMove

theorem State.powerOn_eventsMove (s : State) : EventsMove s s.powerOn := by
  unfold State.powerOn
  dsimp only
  repeat' split
  · exact .cleared rfl
  · exact .cleared rfl
  · exact .after (State.enterInit_eventsMove _) (.cleared rfl)

theorem State.assertZeroise_eventsMove (s : State) : EventsMove s s.assertZeroise := by
  unfold State.assertZeroise
  split
  · exact .of_eq rfl
  · exact s.wipe_eventsMove

theorem State.assertSupplyFail_events (s : State) : s.assertSupplyFail.events = s.events := by
  unfold State.assertSupplyFail
  dsimp only
  repeat' split
  all_goals rfl

theorem State.deassertSupplyFail_eventsMove (s : State) : EventsMove s s.deassertSupplyFail :=
  .ite (State.leaveHold_eventsMove (s.setLines _))

theorem State.assertWake_eventsMove (s : State) : EventsMove s s.assertWake := by
  unfold State.assertWake
  split
  · exact .refl s
  · exact State.leaveHold_eventsMove (s.setLines _)

theorem State.assertReset_eventsMove (s : State) : EventsMove s s.assertReset := by
  unfold State.assertReset
  dsimp only
  repeat' split
  · exact .refl s
  · exact .of_eq rfl
  · exact .cleared rfl

theorem State.deassertReset_eventsMove (s : State) : EventsMove s s.deassertReset := by
  unfold State.deassertReset
  dsimp only
  repeat' split
  · exact .of_eq rfl
  · exact .after (State.enterInit_eventsMove _) (.cleared rfl)
  · exact .refl s

/-! ### Every command, and every step -/

/-- Every command answers a state whose events are those before it after changes of `Events.Change`. -/
theorem exec_eventsMove (i : Instr) (s : State) : ∃ t, exec i s = .next t ∧ EventsMove s t := by
  have request : ∀ (code : Byte) {judge : Request → State → State}, (∀ q t, (judge q t).events = t.events) →
      EventsMove s (s.takeRequest code judge) := fun code _ h => s.takeRequest_eventsMove code fun q t => .of_eq (h q t)
  cases i with
  | hello f => exact ⟨_, rfl, s.uplink_eventsMove _ f (s.offerTagFrame_eventsMove _ _ (s.judgeHello_eventsMove _))⟩
  | data f => exact ⟨_, rfl, s.uplink_eventsMove _ f (s.offerTagFrame_eventsMove _ _ (s.judgeData_eventsMove _))⟩
  | commit f => exact ⟨_, rfl, s.uplink_eventsMove _ f (s.offerTagFrame_eventsMove _ _ (s.judgeCommit_eventsMove _))⟩
  | other kind f => exact execOther_eventsMove kind f s
  | credit f => exact ⟨_, rfl, s.uplink_eventsMove _ f (.of_eq rfl)⟩
  | sent f => exact ⟨_, rfl, s.uplink_eventsMove _ f (s.takeSent_eventsMove _)⟩
  | sendFailed f => exact ⟨_, rfl, s.uplink_eventsMove _ f (s.takeSendFailed_eventsMove _)⟩
  | downlinkSendStart => exact ⟨_, rfl, .ite (.of_eq rfl)⟩
  | downlinkFrameOut => exact ⟨_, rfl, .of_eq rfl⟩
  | confirmationDeadline h => exact execConfirmationDeadline_eventsMove h s
  | downPassthrough f => exact ⟨_, rfl, s.laneFrame_eventsMove _ f⟩
  | openCompletion e => exact ⟨_, rfl, s.completeOpening_eventsMove e⟩
  | deriveJobCompletion e => exact ⟨_, rfl, s.completeJob_eventsMove e _ s.deriveEnd_eventsMove⟩
  | sessionJobCompletion e => exact ⟨_, rfl, s.completeJob_eventsMove e _ s.sessionEnd_eventsMove⟩
  | raJobCompletion e => exact ⟨_, rfl, s.completeJob_eventsMove e _ s.raEnd_eventsMove⟩
  | taJobCompletion e => exact ⟨_, rfl, s.completeJob_eventsMove e _ s.taEnd_eventsMove⟩
  | recordCodeComputeCompletion e => exact ⟨_, rfl, s.completeJob_eventsMove e _ s.computeEnd_eventsMove⟩
  | recordCodeVerifyCompletion e => exact ⟨_, rfl, s.completeJob_eventsMove e _ s.verifyEnd_eventsMove⟩
  | waJobCompletion e => exact ⟨_, rfl, s.completeJob_eventsMove e _ s.waEnd_eventsMove⟩
  | caJobCompletion e => exact ⟨_, rfl, s.completeJob_eventsMove e _ s.caEnd_eventsMove⟩
  | unwrapJobCompletion e => exact ⟨_, rfl, s.completeJob_eventsMove e _ s.unwrapEnd_eventsMove⟩
  | kcvJobCompletion e => exact ⟨_, rfl, s.completeJob_eventsMove e _ s.kcvEnd_eventsMove⟩
  | combineJobCompletion e => exact ⟨_, rfl, s.completeJob_eventsMove e _ s.combineEnd_eventsMove⟩
  | scrubJobCompletion e => exact ⟨_, rfl, s.completeJob_eventsMove e _ s.scrubEnd_eventsMove⟩
  | stepDeadlineExpiry c => exact ⟨_, rfl, s.expireStep_eventsMove c⟩
  | lifetimeDeadlineExpiry c => exact ⟨_, rfl, s.expireLifetime_eventsMove c⟩
  | recentPassAgeing => exact ⟨_, rfl, .of_eq rfl⟩
  | slotOverdue n => exact ⟨_, rfl, .ite (.of_jobsOnly s.noteOverdue_jobsOnly)⟩
  | eraseCompletion => exact execEraseCompletion_eventsMove s
  | calendarAdvance => exact ⟨_, rfl, .ite s.advanceCalendar_eventsMove⟩
  | request f => exact ⟨_, rfl, s.laneFrame_eventsMove _ f⟩
  | unknownRequestCode =>
    exact ⟨_, rfl, s.take_eventsMove _ (underOrder_eventsMove fun _ t => .of_eq (t.respond_events _ _ _))⟩
  | readStatus =>
    exact ⟨_, rfl, s.take_eventsMove _ (underOrder_eventsMove fun _ t => .of_eq (t.respond_events _ _ _))⟩
  | readCounters => exact ⟨_, rfl, request _ fun _ t => t.respond_events _ _ _⟩
  | clearEvents => exact ⟨_, rfl, s.takeRequest_eventsMove _ judgeClearEvents_eventsMove⟩
  | setAlertMask => exact ⟨_, rfl, s.takeRequest_eventsMove _ judgeSetAlertMask_eventsMove⟩
  | setProfile => exact ⟨_, rfl, request _ judgeSetProfile_events⟩
  | setTiming => exact ⟨_, rfl, request _ judgeSetTiming_events⟩
  | setService => exact ⟨_, rfl, request _ judgeSetService_events⟩
  | setCalendar => exact ⟨_, rfl, s.takeRequest_eventsMove _ judgeSetCalendar_eventsMove⟩
  | hold => exact ⟨_, rfl, request _ fun _ t => State.respond_events t.enterHold _ _ _⟩
  | rootPart1 => exact ⟨_, rfl, request _ judgeRootPart1_events⟩
  | rootPart2 => exact ⟨_, rfl, s.take_eventsMove _ judgeRootPart2_eventsMove⟩
  | lockRoot => exact ⟨_, rfl, request _ judgeLockRoot_events⟩
  | keyLoadA => exact ⟨_, rfl, request _ judgeKeyLoadA_events⟩
  | keyLoadB => exact ⟨_, rfl, s.take_eventsMove _ judgeKeyLoadB_eventsMove⟩
  | activate => exact ⟨_, rfl, request _ judgeActivate_events⟩
  | retire => exact ⟨_, rfl, request _ judgeRetire_events⟩
  | erase => exact ⟨_, rfl, s.takeRequest_eventsMove _ judgeErase_eventsMove⟩
  | selectWriteGen => exact ⟨_, rfl, request _ judgeSelectWriteGen_events⟩
  | readSlot => exact ⟨_, rfl, request _ judgeReadSlot_events⟩
  | zeroise =>
    exact ⟨_, rfl, s.take_eventsMove _ (outsideInit_eventsMove fun _ t =>
      t.wipe_eventsMove.trans (.of_eq (State.respond_events _ _ _ _)))⟩
  | zeroiseLine => exact ⟨_, rfl, s.assertZeroise_eventsMove⟩
  | laneSendStart => exact ⟨_, rfl, .ite s.startLaneSend_eventsMove⟩
  | laneFrameOut => exact ⟨_, rfl, .of_eq rfl⟩
  | lrdyAsserted => exact ⟨_, rfl, .of_eq rfl⟩
  | supplyFail => exact ⟨_, rfl, .of_eq s.assertSupplyFail_events⟩
  | wake => exact ⟨_, rfl, s.assertWake_eventsMove⟩
  | supplyFailDeasserted => exact ⟨_, rfl, s.deassertSupplyFail_eventsMove⟩
  | laneReset => exact ⟨_, rfl, s.assertReset_eventsMove⟩
  | resetDeasserted => exact ⟨_, rfl, s.deassertReset_eventsMove⟩
  | powerOnReset => exact ⟨_, rfl, s.powerOn_eventsMove⟩
  | lrdyDeasserted => exact ⟨_, rfl, .of_eq rfl⟩
  | wakeDeasserted => exact ⟨_, rfl, .of_eq rfl⟩
  | laneFrameOfOutgoingClass cls f => exact ⟨_, rfl, s.laneFrame_eventsMove cls f⟩

/-- Settles O5: a command moves the events by changes (`exec_eventsMove`), and each change keeps the law. -/
theorem stepKeepsFlagsWithCounters : Obligations.StepKeepsFlagsWithCounters :=
  fun _ _ hs hst => step_keeps_law (P := fun s => s.events.lawful)
    (fun i s h => (exec_eventsMove i s).imp fun _ ⟨ht, hm⟩ => ⟨ht, hm.lawful h⟩) (fun _ h => h) (fun h => h) hst hs

end Sys2Proof.Machine
end

section
/-! PROOF. A raise, the two requests that report or rewrite events, and READ-COUNTERS (R168, R171 to R174). -/

namespace Sys2Proof.Machine

variable {s : State} {q : Request} {rest : List Request}

/-! ### A raise (R168, R174) -/

/-- Settles O9: the raise is `State.raise_eq`, and `Events.record` writes the flag and the counter of its event alone. -/
theorem raiseSetsCountsAndAlerts : Obligations.RaiseSetsCountsAndAlerts := by
  intro s v
  refine ⟨s.events.record v.number, s.raise_eq v, rfl, fun n => s.events.flag_record _ n, fun n hn => ?_, ?_⟩
  · rw [Events.counter_record, if_neg hn]
  · rw [Events.counter_record, if_pos rfl, countUp_toNat]

/-! ### READ-COUNTERS (R172) -/

/-- The counters as READ-COUNTERS carries them: two bytes each, in event order. -/
def Events.counterBytes (v : Events) : List Byte :=
  (v.counters.toList.map fun n => toBytes 2 n.toNat).flatten

theorem Events.counterBytes_length (v : Events) : v.counterBytes.length = 26 := by
  rw [counterBytes, length_flatten_map (n := 2) (by simp)]
  simp

theorem Events.field_counterBytes (v : Events) (n : EventNo) :
    field v.counterBytes (2 * n.val) 2 = (tableGet v.counters n).toNat := by
  have hn : v.counters.toList[n.val]? = some (tableGet v.counters n) := by simp [tableGet]
  have htake := take_drop_flatten (f := fun k : BitVec 16 => toBytes 2 k.toNat) (n := 2) (by simp) hn []
  rw [List.append_nil] at htake
  exact field_of_take htake (toNat_lt_bytes _ (by decide))

/-- Settles O40: the answer carries `Events.counterBytes`. -/
theorem readCountersReports : Obligations.ReadCountersReports := by
  intro s q rest ht ⟨hp, hd⟩ hc
  refine ⟨s.events.counterBytes, congrArg Host.Outcome.next ?_, s.events.counterBytes_length,
    s.events.field_counterBytes⟩
  rw [State.takeRequest_of_takes ht hc hp hd]
  exact State.respond_of_room (by exact ht.2.2.2.2) _ _ _

/-! ### CLEAR-EVENTS and SET-ALERT-MASK (R171, R173) -/

theorem maskOf_getLsbD (p : List Byte) (n : EventNo) : (maskOf p).getLsbD n.val = (field p 0 2).testBit n.val := by
  rw [maskOf, BitVec.getLsbD_ofNat]
  simp

theorem maskGood_iff (p : List Byte) : maskGood p = true ↔ field p 0 2 < 2 ^ 13 :=
  decide_eq_true_iff

/-- A mask of the thirteen is carried whole. -/
theorem maskBytes_maskOf {p : List Byte} (h : field p 0 2 < 2 ^ 13) : maskBytes (maskOf p) = toBytes 2 (field p 0 2) := by
  rw [maskBytes, maskOf, BitVec.toNat_ofNat, Nat.mod_eq_of_lt h]

theorem State.exec_clearEvents (ht : s.takes q rest) (hu : s.unhindered) (hc : q.code = 0x03#8) :
    exec .clearEvents s = .next (judgeClearEvents q (s.left rest)) :=
  congrArg Host.Outcome.next (State.takeRequest_of_takes ht hc hu.1 hu.2 judgeClearEvents)

theorem State.exec_setAlertMask (ht : s.takes q rest) (hu : s.unhindered) (hc : q.code = 0x04#8) :
    exec .setAlertMask s = .next (judgeSetAlertMask q (s.left rest)) :=
  congrArg Host.Outcome.next (State.takeRequest_of_takes ht hc hu.1 hu.2 judgeSetAlertMask)

theorem judgeClearEvents_good (ht : s.takes q rest) (hm : field q.params 0 2 < 2 ^ 13) :
    judgeClearEvents q (s.left rest) = { s.left rest with events := s.events.clear (maskOf q.params) }.answered q .ok
      (toBytes 2 (s.events.clear (maskOf q.params)).flags.toNat) := by
  rw [judgeClearEvents, if_pos ((maskGood_iff _).mpr hm)]
  exact State.respond_of_room (by exact ht.2.2.2.2) _ _ _

theorem judgeSetAlertMask_good (ht : s.takes q rest) (hm : field q.params 0 2 < 2 ^ 13) :
    judgeSetAlertMask q (s.left rest) = { s.left rest with
      events := { s.events with alertMask := maskOf q.params } }.answered q .ok (toBytes 2 (field q.params 0 2)) := by
  rw [judgeSetAlertMask, if_pos ((maskGood_iff _).mpr hm), ← maskBytes_maskOf hm]
  exact State.respond_of_room (by exact ht.2.2.2.2) _ _ _

/-- An event that was cleared is set by its next raise, and counted once (R168, R171). -/
theorem State.raise_of_cleared {t : State} {v : Event} (h : tableGet t.events.counters v.number = 0) :
    (t.raise v).events.flag v.number = true ∧ tableGet (t.raise v).events.counters v.number = 1 := by
  rw [State.raise_events, Events.flag_record, Events.counter_record, if_pos rfl, h]
  exact ⟨by simp, rfl⟩

/-- Settles O41: the masks beyond the thirteen, then what `Events.clear` leaves of each event, and the mask replaced. -/
theorem clearEventsAndAlertMask : Obligations.ClearEventsAndAlertMask := by
  rintro s q rest m ht hu rfl
  refine ⟨fun hc => ?_, fun hc => ?_⟩
  · rw [State.exec_clearEvents ht hu hc]
    refine ⟨fun hm => ?_, fun hm => ⟨s.events.clear (maskOf q.params),
      congrArg Host.Outcome.next (judgeClearEvents_good ht hm), rfl, fun n => ?_, fun t v hw hv => ?_⟩⟩
    · rw [judgeClearEvents, if_neg (mt (maskGood_iff _).mp (Nat.not_lt.mpr hm))]
      exact congrArg Host.Outcome.next (State.respond_refusal ht rfl)
    · rw [Events.flag_clear, Events.counter_clear, maskOf_getLsbD]
      exact ⟨fun h => by simp [h], fun h => by simp [h]⟩
    · refine State.raise_of_cleared ?_
      rw [hw, Events.counter_clear, maskOf_getLsbD, if_pos hv]
  · rw [State.exec_setAlertMask ht hu hc]
    refine ⟨fun hm => ?_, fun hm => congrArg Host.Outcome.next (judgeSetAlertMask_good ht hm)⟩
    rw [judgeSetAlertMask, if_neg (mt (maskGood_iff _).mp (Nat.not_lt.mpr hm))]
    exact congrArg Host.Outcome.next (State.respond_refusal ht rfl)

end Sys2Proof.Machine
end

section
/-! PROOF. Frames that arrive at the lane port, and line changes that complete no pair (R158, R160, R163, R180, R181). -/

namespace Sys2Proof.Machine

variable {s : State} {f : PortFrame} {cls : Byte}

/-! ### Arriving frames (R158, R160) -/

/-- Every lane port command is the arrival of its frame. -/
theorem exec_laneFrame {i : Instr} (h : laneFrameOf i = some (cls, f)) (s : State) :
    exec i s = .next (s.laneFrame cls f) := by
  cases i with
  | downPassthrough g => cases h; rfl
  | request g => cases h; rfl
  | laneFrameOfOutgoingClass c g => cases h; rfl
  | _ => cases h

theorem State.laneFrame_of_not_live (hl : s.live = false) (cls : Byte) (f : PortFrame) : s.laneFrame cls f = s := by
  simp [State.laneFrame, hl]

/-- A frame that fails a check, or is of neither incoming class, is dropped with LANE-CRC (R158). -/
theorem State.laneFrame_of_bad (hl : s.live = true) (h : laneFrameGood cls f = false ∨ cls ∉ [0x11#8, 0x12#8]) :
    s.laneFrame cls f = s.raise .laneCrc := by
  unfold State.laneFrame
  rw [if_neg (by simp [hl])]
  rcases h with h | h
  · rw [if_neg (by simp [h])]
  · simp only [List.mem_cons, List.not_mem_nil, or_false, not_or] at h
    rw [if_neg h.1, if_neg h.2, ite_self]

/-- A REQUEST that passes the lane port's checks arrives (R158, R160). -/
theorem State.laneFrame_request (hl : s.live = true) (hg : laneFrameGood 0x12#8 f = true) :
    s.laneFrame 0x12#8 f = s.arriveRequest f.payload := by
  simp [State.laneFrame, hl, hg]

theorem State.arriveRequest_nil (s : State) : s.arriveRequest [] = s.raise .laneCrc := rfl

/-- A REQUEST that carries a tag is queued, or answered BUSY, or BAD-FIELD (R160). -/
theorem State.arriveRequest_cons (s : State) (tag : Byte) (body : List Byte) :
    s.arriveRequest (tag :: body) =
      if requestShapeGood (tag :: body) then
        if s.lane.requests.length < 4 then
          { s with lane := { s.lane with
            requests := s.lane.requests ++ [{ tag, code := byteAt body 0, params := body.drop 1 }] } }
        else s.portAnswer tag (byteAt body 0) .busy
      else s.portAnswer tag (byteAt body 0) .badField :=
  rfl

/-- The answer of a REQUEST that is not queued (R160). -/
theorem State.arriveRequest_answered {tag : Byte} {body : List Byte} {st : Status}
    (h : (requestShapeGood (tag :: body) = true ∧ 4 ≤ s.lane.requests.length ∧ st = .busy) ∨
      (requestShapeGood (tag :: body) = false ∧ st = .badField)) :
    s.arriveRequest (tag :: body) = s.portAnswer tag (byteAt body 0) st := by
  rw [State.arriveRequest_cons]
  rcases h with ⟨hs, hq, rfl⟩ | ⟨hs, rfl⟩
  · rw [if_pos hs, if_neg (Nat.not_lt.mpr hq)]
  · rw [if_neg (by simp [hs])]

/-- Settles O59: the checks of `State.laneFrame`, then the ways of `State.arriveRequest`. -/
theorem laneFramesArrive : Obligations.LaneFramesArrive := by
  intro i cls f s hi
  rw [exec_laneFrame hi s]
  refine ⟨fun hl => ?_, fun hl h => ?_, fun hl hg hcls tag body hp => ?_⟩
  · rw [State.laneFrame_of_not_live hl]
  · rcases h with h | h | ⟨rfl, hp⟩
    · rw [State.laneFrame_of_bad hl (.inl h)]
    · rw [State.laneFrame_of_bad hl (.inr h)]
    · cases hg : laneFrameGood 0x12#8 f with
      | false => rw [State.laneFrame_of_bad hl (.inl hg)]
      | true => rw [State.laneFrame_request hl hg, hp, State.arriveRequest_nil]
  · subst hcls
    rw [State.laneFrame_request hl hg, hp]
    refine ⟨fun hs hq => ?_, fun st h => ?_⟩
    · rw [State.arriveRequest_cons, if_pos hs, if_pos hq]
    · rw [State.arriveRequest_answered h]
      exact ⟨fun hroom => by rw [State.portAnswer_of_room hroom _ _ _ []],
        fun hfull => by rw [State.portAnswer_of_full hfull]⟩

/-! ### Line levels (R163, R180, R181) -/

/-- Without the whole pair HOLD is not left (R181). -/
theorem State.leaveHold_of_no_pair (h : s.device ≠ .hold ∨ s.lines.wake = false ∨ s.lines.supplyFail = true) :
    s.leaveHold = s := by
  refine if_neg ?_
  rintro ⟨hd, hw, hf⟩
  rcases h with h | h | h
  · exact h hd
  · simp [hw] at h
  · simp [hf] at h

theorem State.assertWake_of_no_pair (h : s.device ≠ .hold ∨ s.lines.supplyFail = true) :
    s.assertWake = { s with lines := { s.lines with wake := true } } := by
  unfold State.assertWake
  split
  · rename_i hw
    rw [← hw]
  · exact State.leaveHold_of_no_pair (s := s.setLines _) (h.imp_right .inr)

theorem State.deassertSupplyFail_of_no_pair (h : s.device ≠ .hold ∨ s.lines.wake = false) :
    s.deassertSupplyFail = { s with lines := { s.lines with supplyFail := false } } := by
  unfold State.deassertSupplyFail
  split
  · exact State.leaveHold_of_no_pair (s := s.setLines _) (h.imp_right .inl)
  · rename_i hf
    rw [Bool.not_eq_true] at hf
    rw [← hf]

/-- In HOLD an assertion of RESET is not taken (R180). -/
theorem State.assertReset_in_hold (hd : s.device = .hold) :
    s.assertReset = { s with lines := { s.lines with reset := true } } := by
  unfold State.assertReset
  split
  · rename_i hr
    rw [← hr]
  · exact if_pos hd

/-- In HOLD nothing follows a deassertion of RESET (R180). -/
theorem State.deassertReset_in_hold (hd : s.device = .hold) :
    s.deassertReset = { s with lines := { s.lines with reset := false } } := by
  unfold State.deassertReset
  split
  · exact if_pos hd
  · rename_i hr
    rw [Bool.not_eq_true] at hr
    rw [← hr]

/-- Settles O56: each line by the lemma of its change, where it completes no pair. -/
theorem lineLevels : Obligations.LineLevels := fun _ =>
  ⟨rfl, rfl, rfl, fun h => congrArg Host.Outcome.next (State.assertWake_of_no_pair h),
    fun h => congrArg Host.Outcome.next (State.deassertSupplyFail_of_no_pair h),
    fun hd => ⟨congrArg Host.Outcome.next (State.assertReset_in_hold hd),
      congrArg Host.Outcome.next (State.deassertReset_in_hold hd)⟩⟩

end Sys2Proof.Machine
end

section
/-! PROOF. A step with no command waiting: the part's own next event, or a tick (R184, R185; logs 2 and 3). -/

namespace Sys2Proof.Machine

variable {s : State} {c : Clock} {running : Bool}

/-! ### The clock at a tick (R184, R185) -/

/-- Before its last position the minute timer counts. -/
theorem Clock.tick_within_minute (h : c.minuteTimer < 599999) : c.tick running = { c with
    laneTime := if running then c.laneTime + 1 else c.laneTime
    minuteTimer := c.minuteTimer + 1 } := by
  cases running
  · exact if_pos h
  · exact if_pos h

/-- At its last position the minute timer starts again, and an advance falls due where the calendar is set. -/
theorem Clock.tick_minute_ends (h : ¬c.minuteTimer < 599999) : c.tick running = { c with
    laneTime := if running then c.laneTime + 1 else c.laneTime
    minuteTimer := 0
    advanceDue := c.advanceDue || c.calendarSet } := by
  cases running
  · exact if_neg h
  · exact if_neg h

/-- A tick moves lane time, the minute timer and the advance; the calendar stands. -/
theorem Clock.tick_frame (c : Clock) (running : Bool) : c.tick running = { c with
    laneTime := (c.tick running).laneTime
    minuteTimer := (c.tick running).minuteTimer
    advanceDue := (c.tick running).advanceDue } := by
  by_cases h : c.minuteTimer < 599999
  · rw [Clock.tick_within_minute h]
  · rw [Clock.tick_minute_ends h]

theorem Clock.tick_laneTime (c : Clock) (running : Bool) :
    (c.tick running).laneTime = if running then c.laneTime + 1 else c.laneTime := by
  by_cases h : c.minuteTimer < 599999
  · rw [Clock.tick_within_minute h]
  · rw [Clock.tick_minute_ends h]

/-! ### The step -/

theorem State.live_of (hd : s.device ≠ .hold) (hr : s.lines.reset = false) : s.live = true := by
  simp [State.live, hd, hr]

theorem State.not_live_of (h : s.device = .hold ∨ s.lines.reset = true) : s.live = false := by
  rcases h with hd | hr
  · simp [State.live, hd]
  · simp [State.live, hr]

theorem step_of_due {i : Instr} (hp : s.pending = []) (hi : s.nextDue = some i) : step s = exec i s := by
  unfold step
  rw [hp]
  dsimp only
  rw [hi]

theorem step_of_none_due (hp : s.pending = []) (hn : s.nextDue = none) : step s = .next s.tick := by
  unfold step
  rw [hp]
  dsimp only
  rw [hn]

/-- Settles O2: a tick by what it makes of the clock, whose lane time runs while the part is live. -/
theorem idleStepIsEventOrTick : Obligations.IdleStepIsEventOrTick := by
  intro s hp
  refine ⟨fun c hc => step_of_due hp hc, fun hn => ⟨s.tick, step_of_none_due hp hn, ?_, fun ⟨hd, hr⟩ => ?_, fun h => ?_,
    fun h => ?_, fun h => ?_⟩⟩
  · exact congrArg (fun clock => { s with clock }) (s.clock.tick_frame s.live)
  · exact (s.clock.tick_laneTime s.live).trans (if_pos (State.live_of hd hr))
  · exact (s.clock.tick_laneTime s.live).trans (if_neg (by simp [State.not_live_of h]))
  · have ht : s.tick.clock = _ := Clock.tick_within_minute h
    rw [ht]
    exact ⟨rfl, rfl⟩
  · have ht : s.tick.clock = _ := Clock.tick_minute_ends (Nat.not_lt.mpr h.ge)
    rw [ht]
    exact ⟨rfl, rfl⟩

end Sys2Proof.Machine
end

section
/-! PROOF. Power-on reset (R183). -/

namespace Sys2Proof.Machine

variable {s : State}

/-! ### The key store at its power-on value (R80, R87, R103) -/

/-- At power-on every slot is EMPTY. -/
theorem State.powerOnBlocks_slot (s : State) (n : SlotNo) : s.powerOnBlocks.slot n = Slot.empty :=
  tableGet_replicate _ n

theorem someEmptied_self (slots : Vector Slot 128) : someEmptied slots slots = false := by
  simp [someEmptied]

/-- HOLD entry finds nothing to discard or to note in a key store at its power-on value. -/
theorem KeyStore.atHold_powerOn : KeyStore.powerOn.atHold = KeyStore.powerOn := by
  have hslots : tableMap Slot.atHold KeyStore.powerOn.slots = KeyStore.powerOn.slots := by
    refine table_ext fun n => ?_
    rw [tableGet_tableMap, show tableGet KeyStore.powerOn.slots n = Slot.empty from tableGet_replicate _ n]
    exact (Slot.atHold_cases n Slot.empty).elim id id
  unfold KeyStore.atHold
  dsimp only
  rw [hslots, someEmptied_self]
  rfl

/-! ### INIT entry with nothing to check (R103) -/

/-- With no slot holding material the INIT check has an empty list, and the part is in MAINTENANCE at once. -/
theorem State.initEntered_of_no_material (h : ∀ n, (s.slot n).holdsMaterial = false) :
    s.initEntered = { s with
      device := .maintenance
      lines := { s.lines with zeroiseLatched := 0 }
      keys := { s.keys with initCheck := [], outstanding := none } } := by
  have hl : s.checkList = [] := s.checkList_eq_nil.mpr h
  rw [State.initEntered, State.continueInitCheck_nil (s := s.initBegun) hl h]
  exact congrArg (fun l => { s with
    device := .maintenance
    lines := { s.lines with zeroiseLatched := 0 }
    keys := { s.keys with initCheck := l, outstanding := none } }) hl

/-! ### The three ends of a power-on reset (R183, logs 15 and 17) -/

theorem State.powerOn_to_hold (hf : s.lines.supplyFail = true) : s.powerOn = s.powerOnBlocks.enterHold :=
  if_pos hf

theorem State.powerOn_to_reset (hf : s.lines.supplyFail = false) (hr : s.lines.reset = true) :
    s.powerOn = s.powerOnBlocks :=
  (if_neg (by simp [State.powerOnBlocks, hf])).trans (if_pos hr)

theorem State.powerOn_to_init (hf : s.lines.supplyFail = false) (hr : s.lines.reset = false) :
    s.powerOn = s.powerOnBlocks.initEntered := by
  have hi : s.powerOn = s.powerOnBlocks.enterInit :=
    (if_neg (by simp [State.powerOnBlocks, hf])).trans (if_neg (by simp [State.powerOnBlocks, hr]))
  rw [hi, State.enterInit_of_not_latched rfl]

/-- Settles O58: by where the lines that stand asserted leave the part, each from the power-on value of every block. -/
theorem powerOnReset : Obligations.PowerOnReset := by
  intro s
  have hempty : ∀ n, (s.powerOnBlocks.slot n).holdsMaterial = false := fun n => by
    rw [s.powerOnBlocks_slot]
    rfl
  refine ⟨fun hf hr => ?_, fun hf hr => ?_, fun hf => ?_, fun n => tableGet_replicate _ n, rfl, rfl, rfl, rfl, rfl, rfl⟩
  · exact congrArg Host.Outcome.next
      ((State.powerOn_to_init hf hr).trans (State.initEntered_of_no_material hempty))
  · refine ⟨_, congrArg Host.Outcome.next (State.powerOn_to_reset hf hr), ?_, rfl⟩
    exact State.not_live_of (.inr hr)
  · have hkeys : s.powerOnBlocks.enterHold.keys = KeyStore.powerOn := KeyStore.atHold_powerOn
    refine ⟨_, congrArg Host.Outcome.next (State.powerOn_to_hold hf), rfl, fun n => ?_, ?_, rfl⟩
    · unfold State.slot
      rw [hkeys]
      exact tableGet_replicate _ n
    · rw [hkeys]
      rfl

end Sys2Proof.Machine
end

section
/-! PROOF. A step with a command waiting (log 2). -/

namespace Sys2Proof.Machine

/-- No command stops the part: what a command is shown to keep, it keeps in a state that it answers. -/
theorem exec_answers (i : Instr) (s : State) : ∃ t, exec i s = .next t :=
  have ⟨t, ht, _⟩ := exec_keeps i s
  ⟨t, ht⟩

theorem step_of_front {c : Instr} {rest : List Instr} {s : State} (hp : s.pending = c :: rest) :
    step s = exec c { s with pending := rest } := by
  unfold step
  rw [hp]

/-- Settles O1: the step is the meaning of the front command, and every meaning answers. -/
theorem stepRunsFrontCommand : Obligations.StepRunsFrontCommand := by
  intro c rest s hp
  have hstep : step s = exec c { s with pending := rest } := step_of_front hp
  obtain ⟨t, ht⟩ := exec_answers c { s with pending := rest }
  exact ⟨hstep, t, hstep.trans ht⟩

end Sys2Proof.Machine
end
